-- ==== Sys2Proof/Word.lean ====
section
/-! DEFINITION. The words of the part: bytes, 16-, 32- and 64-bit registers, byte strings and
the sparse table used for every indexed unit of the package. Structures in memory and in
mailboxes are little-endian (conventions of 00_scope). -/
namespace Sys2Proof

abbrev Byte := BitVec 8
abbrev Word16 := BitVec 16
abbrev Word32 := BitVec 32
abbrev Word64 := BitVec 64
/-- A byte string, lowest address first. -/
abbrev Bytes := List Byte

/-- A table with natural-number keys in one canonical form: keys strictly rising, and no entry
equal to what an unlisted key reads as. -/
abbrev Tbl (α : Type) := List (Nat × α)

/-- An exact rational value `num / den`, used for the exact real values that the number formats
define (R92 to R98). `den` is positive in every value the model makes. -/
structure Frac where
  num : Int
  den : Nat
deriving DecidableEq, Repr

end Sys2Proof
end

