-- ==== Sys2Proof/Machine/Bits.lean ====
section
/-! DEFINITION. Helpers on words, byte strings and tables: little-endian reading and writing,
bit fields, slices, and the one canonical form of a sparse table. -/
namespace Sys2Proof.Machine

open Sys2Proof

/-- The entry of a table at key `k`, or what an unlisted key reads as. -/
def tget {α : Type} (d : α) (t : Tbl α) (k : Nat) : α :=
  match t.find? (fun e => e.1 == k) with
  | some e => e.2
  | none => d

/-- Put `v` at key `k`, keeping the keys rising. -/
def tput {α : Type} (t : Tbl α) (k : Nat) (v : α) : Tbl α :=
  match t with
  | [] => [(k, v)]
  | e :: r => if k < e.1 then (k, v) :: e :: r else if k = e.1 then (k, v) :: r
              else e :: tput r k v

/-- Take key `k` out of the table. -/
def tdel {α : Type} (t : Tbl α) (k : Nat) : Tbl α := t.filter (fun e => e.1 != k)

/-- Set key `k` to `v`: an entry equal to what an unlisted key reads as is not listed. -/
def tset {α : Type} [DecidableEq α] (d : α) (t : Tbl α) (k : Nat) (v : α) : Tbl α :=
  if v = d then tdel t k else tput t k v

/-- The entry at key `k` of a list of present things. -/
def afind {α : Type} (t : List (Nat × α)) (k : Nat) : Option α :=
  (t.find? (fun e => e.1 == k)).map (·.2)

/-- Apply `f` to the entry at key `k`, if there is one. -/
def amod {α : Type} (t : List (Nat × α)) (k : Nat) (f : α → α) : List (Nat × α) :=
  t.map (fun e => if e.1 == k then (e.1, f e.2) else e)

/-- The value of a byte string, lowest address first (little-endian). -/
def leNat : Bytes → Nat
  | [] => 0
  | b :: r => b.toNat + 256 * leNat r

/-- `n` as a little-endian string of `len` bytes, higher bits dropped. -/
def toLe (len n : Nat) : Bytes :=
  match len with
  | 0 => []
  | k + 1 => BitVec.ofNat 8 n :: toLe k (n / 256)

/-- The value of a byte string, most significant byte first. -/
def beNat (b : Bytes) : Nat := b.foldl (fun a x => 256 * a + x.toNat) 0

/-- `n` as a big-endian string of `len` bytes. -/
def toBe (len n : Nat) : Bytes := (toLe len n).reverse

def zeros (n : Nat) : Bytes := List.replicate n 0#8

/-- Bytes `off` to `off + len - 1`, zeros beyond the end. -/
def slice (b : Bytes) (off len : Nat) : Bytes :=
  let x := (b.drop off).take len
  x ++ zeros (len - x.length)

/-- The little-endian field of `len` bytes at `off`. -/
def fld (b : Bytes) (off len : Nat) : Nat := leNat (slice b off len)

/-- Bits `hi` to `lo` of `n`. -/
def bitf (n hi lo : Nat) : Nat := n / 2 ^ lo % 2 ^ (hi + 1 - lo)

/-- Bit `i` of `n`. -/
def tbit (n i : Nat) : Bool := n / 2 ^ i % 2 == 1

def b2n (b : Bool) : Nat := if b then 1 else 0

/-- Overwrite bytes of `b` from `off` on with `x`; `b` is first filled with zeros up to the end
of `x`. -/
def patch (b : Bytes) (off : Nat) (x : Bytes) : Bytes :=
  slice b 0 off ++ x ++ b.drop (off + x.length)

def isZero (b : Bytes) : Bool := b.all (fun x => x == 0#8)

/-- Round the quotient up. -/
def cdiv (a b : Nat) : Nat := (a + b - 1) / b

/-- `n` of a two's-complement field of `w` bits. -/
def sext (w n : Nat) : Int := if n ≥ 2 ^ (w - 1) then (n : Int) - 2 ^ w else n

/-- The low `w` bits of an integer in two's complement. -/
def wrapInt (w : Nat) (i : Int) : Nat := (i % (2 ^ w : Int)).toNat

/-- Serial-number order modulo 2^w (RFC 1982 as the rules use it): `a` is later than `b`. -/
def later (w a b : Nat) : Bool :=
  let d := (a + 2 ^ w - b) % 2 ^ w
  d != 0 && d < 2 ^ (w - 1)

/-- Insert a number into a rising list without repeats. -/
def insSet (l : List Nat) (n : Nat) : List Nat :=
  match l with
  | [] => [n]
  | x :: r => if n < x then n :: x :: r else if n = x then x :: r else x :: insSet r n

/-- Replace element `i`. -/
def lset {α : Type} (l : List α) (i : Nat) (v : α) : List α := l.set i v

def lget {α : Type} (d : α) (l : List α) (i : Nat) : α := l.getD i d

/-- The numbers `a` to `a + n - 1`. -/
def span (a n : Nat) : List Nat := (List.range n).map (a + ·)

/-- ASCII bytes of a string. -/
def ascii (s : String) : Bytes := s.toList.map (fun c => BitVec.ofNat 8 c.toNat)

end Sys2Proof.Machine
end

