-- ==== Sys2Proof/Machine/Flags.lean ====
section
/-! DEFINITION. Status codes (R399), event types (R398), counter offsets, kinds of log records,
and the check values the part computes: CRC (R227, R407), CRC-8 (R420). -/
namespace Sys2Proof.Machine

open Sys2Proof

/- The 4-bit status codes of R399, zero-extended wherever 16 bits are used. -/
abbrev stOK : Nat := 0
abbrev stPARTIAL : Nat := 1
abbrev stNOT_MAPPED : Nat := 2
abbrev stREVOKED : Nat := 3
abbrev stPOISON : Nat := 4
abbrev stBOUND : Nat := 5
abbrev stRETRY : Nat := 6
abbrev stDUP : Nat := 7
abbrev stCANCELLED : Nat := 8
abbrev stSTALE : Nat := 9
abbrev stSATURATED : Nat := 10
abbrev stLOST_DIRTY : Nat := 11
abbrev stDIVERGENT : Nat := 12
abbrev stAUTH_FAIL : Nat := 13
abbrev stREPLAY : Nat := 14
abbrev stLEASE_EXPIRED : Nat := 15

/- Event types of R398. -/
abbrev evCMD_DONE : Nat := 0x0001
abbrev evEVENTS_LOST : Nat := 0x0002
abbrev evTRANSLATION_MISS : Nat := 0x0010
abbrev evEXT_RECLAIMED : Nat := 0x0011
abbrev evCOH_LOST_DIRTY : Nat := 0x0020
abbrev evSTEP_DONE : Nat := 0x0030
abbrev evSTEP_INTERRUPTED : Nat := 0x0031
abbrev evSTEP_GAP : Nat := 0x0032
abbrev evCONF_TILE_LOST : Nat := 0x0033
abbrev evENG_FAULT : Nat := 0x0040
abbrev evENG_OFFLINE : Nat := 0x0041
abbrev evSCRUB_DONE : Nat := 0x0050
abbrev evFORD_STARVE : Nat := 0x0051
abbrev evPAIR_STATE : Nat := 0x0060
abbrev evPAIR_DEGRADED : Nat := 0x0061
abbrev evPAIR_TAKEOVER : Nat := 0x0062

/- Kinds of package-log records. The spec names what is logged and gives no record layout
(assumption 9). -/
abbrev lgCLOCK_SWITCH : Nat := 1
abbrev lgLEASE_EXPIRED : Nat := 2
abbrev lgSNOOP_STUCK : Nat := 3
abbrev lgSTRAY_NOTICE : Nat := 4
abbrev lgREVOKE_UNANSWERED : Nat := 5
abbrev lgLINK_DOWN : Nat := 6
abbrev lgCONFIG_MISMATCH : Nat := 7
abbrev lgPAIR_STATE : Nat := 8
abbrev lgCINCH_FAULT : Nat := 9
abbrev lgDEGRADED : Nat := 10
abbrev lgBACKING_BAD : Nat := 11
abbrev lgCYCLE_BAD : Nat := 12
abbrev lgDIVERGENT : Nat := 13
abbrev lgLOST_DIRTY : Nat := 14

/-- One bit of an unreflected CRC of width `w`. -/
def crcBit (w poly : Nat) (c : Nat) : Nat :=
  if c ≥ 2 ^ (w - 1) then (2 * c % 2 ^ w) ^^^ poly else 2 * c % 2 ^ w

/-- One byte of an unreflected CRC, most significant bit first (R407). -/
def crcByte (w poly : Nat) (c : Nat) (b : Byte) : Nat :=
  (List.range 8).foldl (fun c _ => crcBit w poly c) (c ^^^ (b.toNat * 2 ^ (w - 8)))

/-- One bit of a reflected CRC; `rpoly` is the polynomial with its bits reversed. -/
def crcBitR (rpoly : Nat) (c : Nat) : Nat := if c % 2 = 1 then (c / 2) ^^^ rpoly else c / 2

/-- One byte of a reflected CRC, least significant bit first. -/
def crcByteR (rpoly : Nat) (c : Nat) (b : Byte) : Nat :=
  (List.range 8).foldl (fun c _ => crcBitR rpoly c) (c ^^^ b.toNat)

/-- The number with its `w` bits reversed. -/
def revBits (w n : Nat) : Nat :=
  (List.range w).foldl (fun a i => 2 * a + n / 2 ^ i % 2) 0

/-- Width, polynomial, initial value, reflection and final XOR of algorithm `p` (R407). -/
def crcParams (p : Nat) : Nat × Nat × Nat × Bool × Nat :=
  match p with
  | 0 => (32, 0x1EDC6F41, 0xFFFFFFFF, true, 0xFFFFFFFF)
  | 1 => (32, 0x04C11DB7, 0xFFFFFFFF, true, 0xFFFFFFFF)
  | 2 => (64, 0x42F0E1EBA9EA3693, 0xFFFFFFFFFFFFFFFF, false, 0xFFFFFFFFFFFFFFFF)
  | _ => (16, 0x1021, 0xFFFF, false, 0)

/-- Take one byte into the register of algorithm `p`. -/
def crcStep (p c : Nat) (b : Byte) : Nat :=
  let (w, poly, _, refl, _) := crcParams p
  if refl then crcByteR (revBits w poly) c b else crcByte w poly c b

/-- The register before its final XOR, from an initial value. -/
def crcRun (p init : Nat) (bs : Bytes) : Nat := bs.foldl (crcStep p) init

/-- The value of algorithm `p` over a byte string (R407). -/
def crcOf (p : Nat) (bs : Bytes) : Nat :=
  let (_, _, init, _, fx) := crcParams p
  (crcRun p init bs) ^^^ fx

/-- CRC-64 of a flow unit's bytes 0x00 to 0xF7 with the initial value of R227. -/
def unitCrc (init : Nat) (bs : Bytes) : Nat := (crcRun 2 init bs) ^^^ 0xFFFFFFFFFFFFFFFF

/-- CRC-8 with polynomial 0x07 and initial value 0 (R420). -/
def crc8 (bs : Bytes) : Nat := bs.foldl (fun c b => crcByte 8 0x07 c b) 0

end Sys2Proof.Machine
end

