-- ==== Sys2Proof/Syntax.lean ====
section
/-! DEFINITION. The commands of the block: one constructor of Instr for each row of the table of
operations and events, with the operands the rule of that row gives it. -/
namespace Sys2Proof

/-- A mailbox command as the command buffer holds it: the header of R386 without its OPCODE
(the constructor gives it), then the body. -/
structure Cmd where
  flags   : Word16
  vi      : Word16
  tag     : Word16
  length  : Word32
  rsv0c   : Word32
  counter : Word64
  rsv18   : Bytes
  check   : Bytes
  body    : Bytes
deriving DecidableEq, Repr

/-- A whole message of the fabric: the common header of R255, the extension of R256 and the
payload of all its packets (R259), with the poison indication of check 5 of R127. -/
structure Pkt where
  ptype   : Nat
  weir    : Nat
  resend  : Bool
  dstNode : Nat
  dpg     : Nat
  srcNode : Nat
  ssg     : Nat
  seq     : Word32
  floor   : Word32
  tag     : Word32
  msgIdx  : Nat
  msgLast : Nat
  status  : Nat
  load    : Nat
  budget  : Nat
  subop   : Nat
  info    : Word64
  addr    : Word64
  opLen   : Nat
  cstream : Nat
  kind    : Bool
  contrib : Nat
  fmt     : Nat
  maxExp  : Int
  aop     : Nat
  payload : Bytes
  poison  : Bool
deriving DecidableEq, Repr

/-- The traffic of the DRAM channels (R312, R316), by the operations that cause it; a fabric read has its class. -/
inductive Traffic where
  | fabricRead (cls : Nat) | copySource
  | fabricWrite | atomic | copyDest | localGather | fillWrite
  | stateRead | holdRead | gatherRead | programLoad
  | commitWrite | holdWrite
  | spaceRead | spaceWrite | completionRead
  | scrubRead | scrubWrite | lostMark | bitmapClear
  | dirtyRead | resyncRead | resyncWrite | replicationWrite
  | hostRead | hostWrite | tableWrite | firmwareWrite
  | mirrorRead
deriving DecidableEq, Repr

/-- A request entry of a DRAM channel (R309, R311 to R320): what causes it, and its bytes, which lie in one 256-byte
block. -/
structure ChanReq where
  id     : Nat
  use    : Traffic
  pa     : Nat
  len    : Nat
deriving DecidableEq, Repr

/-- What the forward error correction of a port finds for a flow unit (R223, R227): whether the codeword that the unit
begins in could not be corrected, and, of each codeword that begins within it, the number of symbols corrected, or
`none` where it could not be. -/
structure FecRead where
  bad : Bool
  cws : List (Option Nat)
deriving DecidableEq, Repr

/-- MetaValue of a CXL M2S MemRd (R78). -/
inductive MetaValue where
  | shared | any | invalid
deriving DecidableEq, Repr

/-- Causes of an engine fault that the engine's own hardware or program raises (R186). -/
inductive EngCause where
  | illegal | sandbox | watchdog | scratchParity | pstoreParity | inletProtocol
deriving DecidableEq, Repr

/-- What starts a package reset (R425). -/
inductive PkgResetCause where
  | chain | fabric | pf | activate
deriving DecidableEq, Repr

/-- A PLL of R22, by domain and the number of its unit. -/
inductive PllId where
  | a (die : Nat) | c (die : Nat) | m (stack : Nat) | l (die : Nat) | p (port : Nat)
  | k (complex : Nat)
deriving DecidableEq, Repr

/-- The supply rails of R410, and the 25 MHz system reference, whose absence holds power-on reset as a main rail's does
(R411, R451). -/
inductive Rail where
  | aux | io | core | link | ser | dram | ddq | ref
deriving DecidableEq, Repr

/-- A unit whose hottest sensor a threshold acts on (R457). -/
inductive ThermalUnit where
  | coreDie (d : Nat) | linkDie (l : Nat) | stack (g : Nat)
deriving DecidableEq, Repr

/-- A VENDOR_DEFINED_REQUEST of R392. -/
structure SpdmVendor where
  msg   : Nat
  vi    : Word16
  keyId : Word64
  key   : Bytes
deriving DecidableEq, Repr

/-- What an SPDM requester asks of the responder (R417, R418): the certificate chain of a slot, a challenge, measurement n
plain or signed, the key exchange with the requester's share, the end of the handshake with the certificate chain whose
root certificate has the given SHA-384, or the end of the session. -/
inductive SpdmReq where
  | certificate (slot : Nat)
  | challenge (nonce : Bytes)
  | keyExchange (share : Bytes)
  | openSession (rootHash : Bytes)
  | measurement (index : Nat)
  | signedMeasurement (index : Nat) (nonce : Bytes)
  | close
deriving DecidableEq, Repr

/-- A granule record of R365. `mask` lists the blocks shipped when `whole` is false. -/
structure GranuleRec where
  granule : Nat
  cycle   : Word32
  stamp   : Word16
  valid   : Bool
  whole   : Bool
  mask    : List Nat
  data    : Bytes
deriving DecidableEq, Repr

/-- The entries of a REPL_MARK packet (R364): word index in the channel, package channel, and
whether the word is poisoned (else lost-dirty). -/
abbrev ReplMarks := List (Nat × Nat × Bool)

/-- The digest of R371. The rule says that a standby's copy may be found uncorrectable or poisoned and not how the active
learns it: beside the three fields a digest says whether a word of its copy could not be used (DESIGN CHOICE,
assumption 83). -/
structure Digest where
  cycle : Word32
  stamp : Word16
  crc   : Word64
  poison : Bool
deriving DecidableEq, Repr

/-- One state change that a CTL_MIRROR packet carries: the pair-scoped ones (R344, R394, R439, R441), the
change of PAIR_CTL on both packages (R373), and the steps of a pair for which R364 names no packet of their own:
the start of PAIR_FORM at the partner (R343, R345), the valid granules of mirrored extents (R366), an exchange
of roles asked for or handed over (R359), the move of the coordinator lease (R350), and PAIR_MEND (R371). -/
inductive CtlMirror where
  | ext (id : Nat) (entry : Bytes)
  | revoke (id : Nat)
  | win (id : Nat) (descriptor : Bytes)
  | winClass (id : Nat) (cls : Nat)
  | table (window : Nat) (seq : Word32) (entries : List Bytes)
  | lease (vi : Nat) (running : Bool) (ms : Nat)
  | agent (index : Nat) (node : Nat) (vi : Nat) (live : Bool)
  | prog (slot : Nat) (owner : Nat) (image : Bytes)
  | progFree (slot : Nat)
  | viSched (vi : Nat) (entry : Bytes)
  | node (n : Nat) (entry : Bytes)
  | key (vi : Nat) (key : Option Bytes) (counter : Word64)
  | eq (vi : Nat) (base : Word64) (ctl : Word64)
  | pairCtl (v : Word32)
  | form (active : Nat)
  | keep (granules : List Nat)
  | role
  | coordMove
  | mend (granule : Nat) (toActive : Bool)
deriving DecidableEq, Repr

/-- The fields of a tack instruction word below CLASS and OP (R202), each as wide as its place:
PRED, PZ, DST, SRC1, SRC2, SRC3, FMT, SSEL and XF. Class 0x7 and SMOVI read bits [31:0] in their
own way (R204, R205). -/
structure TackFields where
  pred : BitVec 3
  pz   : Bool
  dst  : BitVec 6
  src1 : BitVec 6
  src2 : BitVec 6
  src3 : BitVec 6
  fmt  : BitVec 3
  ssel : BitVec 2
  xf   : BitVec 21
deriving DecidableEq, Repr

/-- The commands, in the table's order. -/
inductive Instr where
  /-- CMD_NOP (R401): Mailbox command that does nothing and is answered OK. -/
  | cmdNop (page : Nat) (c : Cmd)
  /-- LOG_READ (R401): Copies package-log or lost-dirty records, from a first index, into an operand. -/
  | logRead (page : Nat) (c : Cmd)
  /-- CRC_RUN (R408): Feeds an operand through check-value unit 2 or 3 and returns the result and a match byte. -/
  | crcRun (page : Nat) (c : Cmd)
  /-- KEY_CHANGE (R393): Derives a new command key for the issuing VI from its old key, its counter and a nonce. -/
  | keyChange (page : Nat) (c : Cmd)
  /-- VI_ENABLE (R401): Enables a fabric tenant VI: opens its lease and grants its page-granule extent. -/
  | viEnable (page : Nat) (c : Cmd)
  /-- VI_DISABLE (R385): Disables a fabric tenant VI and resets its mailbox, event-queue enable and counters. -/
  | viDisable (page : Nat) (c : Cmd)
  /-- PROG_POLICY_SET (R214): Sets whether unsigned tack-program images may load. -/
  | progPolicySet (page : Nat) (c : Cmd)
  /-- LEASE_OPEN (R53): Opens a lease for the issuing VI with a length from 100 ms to 60 s. -/
  | leaseOpen (page : Nat) (c : Cmd)
  /-- LEASE_RENEW (R54): Renews the VI's lease if half of it has passed; otherwise DUP_IGNORED, or LEASE_EXPIRED if the lease has expired. -/
  | leaseRenew (page : Nat) (c : Cmd)
  /-- LEASE_CLOSE (R55): Ends the lease at once as expiry does, with REVOKED in place of LEASE_EXPIRED. -/
  | leaseClose (page : Nat) (c : Cmd)
  /-- EXT_GRANT (R52): Grants a FREE extent ID over free granules to a holder that has a lease, in state ACTIVE with every valid bit 0. -/
  | extGrant (page : Nat) (c : Cmd)
  /-- EXT_REVOKE (R56): Starts the revocation sequence of an ACTIVE extent. -/
  | extRevoke (page : Nat) (c : Cmd)
  /-- EXT_QUERY (R401): Returns the 16-byte extent-table entry. -/
  | extQuery (page : Nat) (c : Cmd)
  /-- WIN_SET (R35): Writes a window descriptor into all seven copies after checking it. -/
  | winSet (page : Nat) (c : Cmd)
  /-- WIN_SET_DRAINED (R35): Answers WIN_SET once every request that passed check 2 under the old descriptor has completed or reached the drain limit. -/
  | winSetDrained (window : Nat)
  /-- WIN_CLASS_SET (R286): Sets a window's traffic class, at or above the owner's CLASS_MIN. -/
  | winClassSet (page : Nat) (c : Cmd)
  /-- TBL_UPDATE (R41): Checks a sequenced set of mirror entries, applies them, invalidates caches and wakes miss waiters. -/
  | tblUpdate (page : Nat) (c : Cmd)
  /-- TBL_UPDATE_DRAINED (R41): Completes a TBL_UPDATE once requests translated under changed pages have drained, and sets TBL_SEQ. -/
  | tblUpdateDrained (window : Nat)
  /-- TBL_MISS_REPLY (R44): Closes a miss entry with no mapping, answering every waiter NOT_MAPPED. -/
  | tblMissReply (page : Nat) (c : Cmd)
  /-- NODE_SET (R260): Writes node-table entries into all six copies and returns the COL grant in force. -/
  | nodeSet (page : Nat) (c : Cmd)
  /-- COH_AGENT_ADD (R64): Creates a fabric caching agent index for a node and reserves its writeback buffers. -/
  | cohAgentAdd (page : Nat) (c : Cmd)
  /-- COH_AGENT_REMOVE (R83): Invalidates every line the agent holds, takes its dirty data and ends the agent. -/
  | cohAgentRemove (page : Nat) (c : Cmd)
  /-- COH_SET (R463): Writes the COH_CTL drain limit and snoop timeout. -/
  | cohSet (page : Nat) (c : Cmd)
  /-- STEP_SUBMIT (R146): Checks a collective descriptor and opens its stream. -/
  | stepSubmit (page : Nat) (c : Cmd)
  /-- STEP_CANCEL (R169): Cancels an open stream: frees its open tiles and stops every tile not yet accepted. -/
  | stepCancel (page : Nat) (c : Cmd)
  /-- STEP_SCAN (R172): Reads the stamps of a state operand, writes a bitmap of tiles at s − 1 and returns four counts. -/
  | stepScan (page : Nat) (c : Cmd)
  /-- STEP_STAMP_SET (R153): Writes a step stamp into each granule of a state operand, after any pending commit of that granule. -/
  | stepStampSet (page : Nat) (c : Cmd)
  /-- PROG_LOAD (R213): Checks and verifies a tenant tack-program image and writes it into a program slot in every region. -/
  | progLoad (page : Nat) (c : Cmd)
  /-- PROG_UNLOAD (R215): Frees a program slot unless an open stream names it. -/
  | progUnload (page : Nat) (c : Cmd)
  /-- ENGINE_SET (R191): Writes ENG_CTL and the engine online bits in the masked regions, running self-tests where engines come online. -/
  | engineSet (page : Nat) (c : Cmd)
  /-- CLUSTER_STATS (R193): Writes the 96 cluster records into an operand. -/
  | clusterStats (page : Nat) (c : Cmd)
  /-- MEM_SET (R337): Writes MEM_CTL of the masked channels. -/
  | memSet (page : Nat) (c : Cmd)
  /-- FORD_SET (R338): Writes FORD_TICKETS and/or FORD_CTL of the masked channels. -/
  | fordSet (page : Nat) (c : Cmd)
  /-- MEM_REMAP (R331): Remaps the 64-byte word at a PA into a spare remap entry of its channel. -/
  | memRemap (page : Nat) (c : Cmd)
  /-- MEM_STATS (R339): Writes the 384 channel records into an operand. -/
  | memStats (page : Nat) (c : Cmd)
  /-- MEM_REMAP_LIST (R339): Returns the word indices of all 16 remap entries of a channel. -/
  | memRemapList (page : Nat) (c : Cmd)
  /-- SCRUB_START (R332): Starts a scrub pass over a PA range in each region it covers. -/
  | scrubStart (page : Nat) (c : Cmd)
  /-- SCRUB_ABORT (R332): Ends the issuing VI's running scrub passes at the next 64 KiB boundary. -/
  | scrubAbort (page : Nat) (c : Cmd)
  /-- LINK_SET (R252): Writes LINK_CTL of the masked ports. -/
  | linkSet (page : Nat) (c : Cmd)
  /-- LINK_STATS (R253): Writes the 66 port records into an operand. -/
  | linkStats (page : Nat) (c : Cmd)
  /-- XPORT_SET (R282): Writes XPORT_CTL. -/
  | xportSet (page : Nat) (c : Cmd)
  /-- XPORT_STATS (R283): Writes the four link-die transport records into an operand. -/
  | xportStats (page : Nat) (c : Cmd)
  /-- SCHED_SET (R295): Writes SCHED_CTL and/or the class table. -/
  | schedSet (page : Nat) (c : Cmd)
  /-- VI_SCHED_SET (R297): Writes a VI's rate, depth, weight and CLASS_MIN, raising window classes where needed. -/
  | viSchedSet (page : Nat) (c : Cmd)
  /-- SCHED_STATS (R307): Writes the per-port class records into an operand. -/
  | schedStats (page : Nat) (c : Cmd)
  /-- PAIR_FORM (R345): Forms a pair with an accepting partner and starts resynchronisation. -/
  | pairForm (page : Nat) (c : Cmd)
  /-- PAIR_ACCEPT (R345): Prepares a package to become the standby of a named active. -/
  | pairAccept (page : Nat) (c : Cmd)
  /-- PAIR_ROLE (R359): Exchanges the active and standby roles without a takeover. -/
  | pairRole (page : Nat) (c : Cmd)
  /-- PAIR_RESYNC (R366): Starts resynchronisation of the partner. -/
  | pairResync (page : Nat) (c : Cmd)
  /-- PAIR_MEND (R371): Copies one granule's copy over the other in a named direction. -/
  | pairMend (page : Nat) (c : Cmd)
  /-- PAIR_SET (R373): Writes PAIR_CTL on both packages. -/
  | pairSet (page : Nat) (c : Cmd)
  /-- PAIR_DISSOLVE (R343): Returns the package to UNPAIRED. -/
  | pairDissolve (page : Nat) (c : Cmd)
  /-- PAIR_COORD_MOVE (R350): Moves the pair-coordinator girth lease to the partner. -/
  | pairCoordMove (page : Nat) (c : Cmd)
  /-- PAIR_SYNC (R362): Closes the current pair cycle and is answered when that cycle is acknowledged. -/
  | pairSync (page : Nat) (c : Cmd)
  /-- PAIR_STATS (R374): Returns the 64-byte pair statistics record. -/
  | pairStats (page : Nat) (c : Cmd)
  /-- FW_UPDATE (R416): Verifies an image, then erases, programs and reads back the flash. -/
  | fwUpdate (page : Nat) (c : Cmd)
  /-- FW_ACTIVATE (R416): Verifies the flash image and schedules a package reset that loads from flash. -/
  | fwActivate (page : Nat) (c : Cmd)
  /-- CHAIN_ADDR_SET (R421): Sets the chain address and node ID from a host. -/
  | chainAddrSet (page : Nat) (c : Cmd)
  /-- CLUSTER_RESET (R189): Command that starts a cluster reset. -/
  | clusterReset (page : Nat) (c : Cmd)
  /-- REGION_RESET (R17): Command that starts a region reset. -/
  | regionReset (page : Nat) (c : Cmd)
  /-- PKG_RESET (R404): Answered OK, then schedules a package reset 10 µs later; from a tenant page it is the authenticated fabric reset. -/
  | pkgReset (page : Nat) (c : Cmd)
  /-- GO_WHILE_BUSY (R384): A GO written while BUSY = 1 is ignored and sets OVERRUN. -/
  | goWhileBusy (page : Nat)
  /-- STATUS_W1C (R383): Write of 1 to STATUS clears OVERRUN. -/
  | statusW1c (page : Nat) (value : Word64)
  /-- EQ_ENABLE (R396): Writing EQ_EN from 0 to 1 checks the ring placement and sets TAIL equal to HEAD. -/
  | eqEnable (page : Nat) (value : Word64)
  /-- EQ_HEAD_WRITE (R396): Writes the consumed count HEAD; a value beyond TAIL is ignored. -/
  | eqHeadWrite (page : Nat) (value : Word64)
  /-- COUNTER_READ_CLEAR (R409): An 8-byte read of an RC counter returns its value and clears it. -/
  | counterReadClear (page : Nat) (offset : Nat)
  /-- REGISTER_WRITE (R380): Write to a register that has no behaviour row of its own. -/
  | registerWrite (page : Nat) (offset : Nat) (width : Nat) (value : Word64)
  /-- CVU_INIT (R406): Loads the POLY initial value once the unit's queue is empty. -/
  | cvuInit (complex : Nat) (unit : Nat) (ctl : Word32)
  /-- CVU_CHECK (R406): Compares CVU_RESULT with CVU_EXPECT once the queue is empty and sets MATCH or MISMATCH. -/
  | cvuCheck (complex : Nat) (unit : Nat) (ctl : Word32)
  /-- CVU_DATA8 (R405): Queues one byte into a check-value unit. -/
  | cvuData8 (complex : Nat) (unit : Nat) (value : Byte)
  /-- CVU_DATA16 (R405): Queues one half-word into a check-value unit, lowest byte first. -/
  | cvuData16 (complex : Nat) (unit : Nat) (value : Word16)
  /-- CVU_DATA32 (R405): Queues one word into a check-value unit, lowest byte first. -/
  | cvuData32 (complex : Nat) (unit : Nat) (value : Word32)
  /-- CVU_STATUS_CLEAR (R406): Write of 1 clears MATCH or MISMATCH. -/
  | cvuStatusClear (complex : Nat) (unit : Nat) (value : Word32)
  /-- RCV_CHUNK (R415): Takes the command buffer into the recovery image at RCV_OFFSET and sets RCV_READY. -/
  | rcvChunk (port : Nat) (offset : Nat)
  /-- RCV_END (R415): Verifies the host-fed image and runs it if it passes. -/
  | rcvEnd (port : Nat) (offset : Nat)
  /-- KEY_SET (R392): SPDM vendor message that sets a VI's command key and zeroes its counter. -/
  | keySet (port : Nat) (m : SpdmVendor)
  /-- KEY_CLEAR (R392): SPDM vendor message that clears a VI's command key. -/
  | keyClear (port : Nat) (m : SpdmVendor)
  /-- SIGN_KEY_SET (R214): SPDM vendor message that provisions the program-signing public key of a complex. -/
  | signKeySet (port : Nat) (m : SpdmVendor)
  /-- SPDM_REQUEST (R417): An SPDM 1.3 request over DOE for certificates, challenge, measurements or session setup. -/
  | spdmRequest (port : Nat) (r : SpdmReq)
  /-- PAGE_ACCESS (R379): An 8- or 4-byte fabric access from PAGE_NODE to a tenant page granule, served as a register access. -/
  | pageAccess (p : Pkt)
  /-- RD_UNC (R75): Uncached read request, checked by R34, translated and served from DRAM or through the home agent. -/
  | rdUnc (p : Pkt)
  /-- RD_SHARED (R75): Cacheable shared read of a coherent line. -/
  | rdShared (p : Pkt)
  /-- RD_OWN (R75): Cacheable read for ownership of a coherent line. -/
  | rdOwn (p : Pkt)
  /-- CLAIM (R75): Request for ownership of a line, with or without data. -/
  | claim (p : Pkt)
  /-- WR_UNC (R75): Uncached write request. -/
  | wrUnc (p : Pkt)
  /-- ATOMIC_FETCH_ADD (R257): 64-bit integer fetch-add on 8 aligned bytes. -/
  | atomicFetchAdd (p : Pkt)
  /-- ATOMIC_SWAP (R257): 64-bit swap on 8 aligned bytes. -/
  | atomicSwap (p : Pkt)
  /-- ATOMIC_CAS (R257): 64-bit compare-and-swap on 8 aligned bytes. -/
  | atomicCas (p : Pkt)
  /-- ATOMIC_FP32_ADD (R257): FP32 fetch-add, rounded by RNE, on the low 4 of 8 aligned bytes. -/
  | atomicFp32Add (p : Pkt)
  /-- ATOMIC_FETCH_MAX (R257): 64-bit signed fetch-max on 8 aligned bytes. -/
  | atomicFetchMax (p : Pkt)
  /-- COPY (R257): Copies bytes between two addresses of this node. -/
  | copy (p : Pkt)
  /-- WR_BACK (R75): Writeback notice of a dirty line, sunk into a writeback buffer and acknowledged. -/
  | wrBack (p : Pkt)
  /-- EVICT_CLEAN (R75): Notice that an agent dropped a clean line. -/
  | evictClean (p : Pkt)
  /-- CONTRIBUTION (R127): Checks a contribution and adds it exactly into its tile's accumulators. -/
  | contribution (p : Pkt)
  /-- MAX_EXP_REPORT (R123): Records a contributor's max-exponent report and fixes the anchor once N_CONTRIB reports are in. -/
  | maxExpReport (p : Pkt)
  /-- ANCHOR_RECEIVE (R123): A region receives a stream's fixed anchor and starts accepting contributions. -/
  | anchorReceive (region : Nat) (stream : Nat) (anchor : Int)
  /-- GATHER_WR (R257): An incoming gather-write packet, performed as a write to its destination. -/
  | gatherWr (p : Pkt)
  /-- RSP_I (R75): Snoop answer giving up the line, with or without dirty data. -/
  | rspI (p : Pkt)
  /-- RSP_S (R75): Snoop answer keeping the line shared, with or without dirty data. -/
  | rspS (p : Pkt)
  /-- RSP_EVICTED (R81): Snoop answer for a line whose notice is still in flight; D = 1 holds the transaction until the WR_BACK lands. -/
  | rspEvicted (p : Pkt)
  /-- ANSWER (R257): Answer received for a packet the part originated (gather write or Rein packet), closing its send context. -/
  | answer (p : Pkt)
  /-- HOST_MEM_READ (R62): Plain PCI Express read from a host port through a window binding. -/
  | hostMemRead (vi : Nat) (window : Nat) (offset : Nat) (len : Nat) (tag : Nat)
  /-- HOST_MEM_WRITE (R62): Plain PCI Express posted write from a host port through a window binding. -/
  | hostMemWrite (vi : Nat) (window : Nat) (offset : Nat) (data : Bytes)
  /-- MEM_RD (R78): CXL.mem M2S MemRd, mapped by its MetaValue to RD_SHARED, RD_OWN, RD_UNC or CLAIM. -/
  | memRd (port : Nat) (tag : Nat) (metaValue : MetaValue) (pa : Nat)
  /-- MEM_WR (R76): CXL.mem M2S MemWr, taken as WR_BACK when the host owns the line, otherwise as WR_UNC. -/
  | memWr (port : Nat) (tag : Nat) (pa : Nat) (data : Bytes)
  /-- MEM_CLN_EVCT (R78): CXL.mem clean-eviction notice from a host. -/
  | memClnEvct (port : Nat) (pa : Nat)
  /-- BI_RSP_S (R78): Host back-invalidate answer keeping the line shared. -/
  | biRspS (port : Nat) (pa : Nat)
  /-- BI_RSP_I (R78): Host back-invalidate answer giving up the line. -/
  | biRspI (port : Nat) (pa : Nat)
  /-- BI_CONFLICT (R78): Host conflict message for a request crossing a back-invalidate; answered with BIConflictAck when the snoop's transaction closes. -/
  | biConflict (port : Nat) (pa : Nat)
  /-- PARKED_REQUEST_SERVE (R65): When a line's transaction closes, or a way unpins, the next parked request for it is served. -/
  | parkedRequestServe (line : Nat)
  /-- SNOOP_TIMEOUT (R82): SNP_TIMEOUT expiry without an answer; the snoop is resent, and after two timeouts the waiting requesters are answered RETRY_LATER. -/
  | snoopTimeout (line : Nat) (agent : Nat)
  /-- LOST_DIRTY_MARK_DONE (R84): A lost-dirty mark write lands; the L entry is freed and its record appended. -/
  | lostDirtyMarkDone (line : Nat)
  /-- FILL_DONE (R49): A granule zero-fill lands; the valid bit is set, the backing is written and held requests proceed. -/
  | fillDone (granule : Nat)
  /-- MISS_LIMIT_EXPIRE (R46): MISS_LIMIT passes on an open miss entry, which closes with RETRY_LATER to its waiters. -/
  | missLimitExpire (region : Nat) (window : Nat) (chunk : Nat)
  /-- LEASE_EXPIRE (R55): A lease timer ends; extents are reclaimed, miss entries closed, windows disabled and agents ended. -/
  | leaseExpire (vi : Nat)
  /-- REVOKE_DRAIN_START (R56): At t0 + 0.5 µs each region counts the extent's requests in flight. -/
  | revokeDrainStart (extent : Nat)
  /-- REVOKE_DRAIN_END (R56): The drain ends by limit D or by the completion of the last counted request, and the remaining requests are aborted. -/
  | revokeDrainEnd (extent : Nat)
  /-- REVOKE_CLEAR (R56): Once every region has finished step 5, back-invalidation starts and the extent's metadata, mirror and windows are cleared. -/
  | revokeClear (extent : Nat)
  /-- REVOKE_SNOOP_WAIT_END (R88): The 1.5 µs wait for back-invalidate answers ends, and the extent becomes FREE. -/
  | revokeSnoopWaitEnd (extent : Nat)
  /-- ENGINE_TAKE_TILE (R181): An idle engine takes or claims an entry, or sends a steal request, and starts the tile. -/
  | engineTakeTile (engine : Nat)
  /-- STEAL_RECORD_ARRIVE (R184): A stolen record is written into a steal buffer and its entry enters the thief's queue. -/
  | stealRecordArrive (cluster : Nat)
  /-- PROG_RELOAD_DONE (R179): An engine's program-store reload completes. -/
  | progReloadDone (engine : Nat)
  /-- TILE_PROGRAM_END (R219): A tile's last phase ends; the framework runs the gather, delta and rebase passes. -/
  | tileProgramEnd (engine : Nat)
  /-- COMMIT_BATCH_ACCEPT (R154): A commit batch is wholly in the buffer and passes the second stamp test; gather-out starts. -/
  | commitBatchAccept (engine : Nat)
  /-- STAMP_WRITE (R154): The state areas and residuals of a batch are written, then its stamp, ending the reservation. -/
  | stampWrite (granule : Nat)
  /-- LAMB_RATIO_COMPUTE (R162): When a group's selected tiles finish pass 1, complex 0 computes and writes its trust ratio and releases pass 2. -/
  | lambRatioCompute (stream : Nat) (group : Nat)
  /-- STREAM_END (R167): When every selected tile has an outcome and every gather is answered, the completion record is written and STEP_DONE is posted. -/
  | streamEnd (stream : Nat)
  /-- ENGINE_FAULT (R186): An engine fault aborts the current tile and posts ENG_FAULT. -/
  | engineFault (engine : Nat) (cause : EngCause)
  /-- TILE_WATCHDOG (R186): A tile runs past 2^(16 + TILE_LIMIT) A-cycles and is aborted as WATCHDOG. -/
  | tileWatchdog (engine : Nat)
  /-- SELF_TEST_DONE (R188): An engine self-test ends and the engine comes online or stays offline. -/
  | selfTestDone (engine : Nat) (passed : Bool)
  /-- CLUSTER_RESET_FAULT (R189): Firmware starts a cluster reset on an accumulator-SRAM, steal-buffer or Confluence fault. -/
  | clusterResetFault (cluster : Nat)
  /-- CLUSTER_RESET_END (R189): Step 5 of a cluster reset: lost tiles reported and the reset ends. -/
  | clusterResetEnd (cluster : Nat)
  /-- REGION_RESET_FAULT (R425): Firmware starts a region reset on a channel-controller fault or an SRAM error. -/
  | regionResetFault (region : Nat)
  /-- REGION_RESET_END (R17): The region leaves reset, reloads its bitmap, completes buffered snoops and discards in-progress workspace tiles. -/
  | regionResetEnd (region : Nat)
  /-- NOP (R205): Tack instruction that does nothing. -/
  | nop (engine : Nat) (f : TackFields)
  /-- VADD (R205): Vector add. -/
  | vadd (engine : Nat) (f : TackFields)
  /-- VSUB (R205): Vector subtract. -/
  | vsub (engine : Nat) (f : TackFields)
  /-- VMUL (R205): Vector multiply. -/
  | vmul (engine : Nat) (f : TackFields)
  /-- VFMA (R205): Vector fused multiply-add. -/
  | vfma (engine : Nat) (f : TackFields)
  /-- VFNMA (R205): Vector negated fused multiply-add. -/
  | vfnma (engine : Nat) (f : TackFields)
  /-- VDIV (R205): Vector divide. -/
  | vdiv (engine : Nat) (f : TackFields)
  /-- VSQRT (R205): Vector square root. -/
  | vsqrt (engine : Nat) (f : TackFields)
  /-- VMIN (R205): Vector minimumNumber. -/
  | vmin (engine : Nat) (f : TackFields)
  /-- VMAX (R205): Vector maximumNumber. -/
  | vmax (engine : Nat) (f : TackFields)
  /-- VABS (R205): Vector absolute value. -/
  | vabs (engine : Nat) (f : TackFields)
  /-- VNEG (R205): Vector negate. -/
  | vneg (engine : Nat) (f : TackFields)
  /-- VMOV (R205): Vector move, bits unchanged. -/
  | vmov (engine : Nat) (f : TackFields)
  /-- VSEL (R205): Vector select by predicate. -/
  | vsel (engine : Nat) (f : TackFields)
  /-- VBCAST (R205): Broadcast a scalar to every lane. -/
  | vbcast (engine : Nat) (f : TackFields)
  /-- VEXT (R217): Extract a lane to a scalar; an out-of-range lane index faults ILLEGAL. -/
  | vext (engine : Nat) (f : TackFields)
  /-- VINS (R217): Insert a scalar into a lane; an out-of-range lane index faults ILLEGAL. -/
  | vins (engine : Nat) (f : TackFields)
  /-- VAND (R205): Vector bitwise AND. -/
  | vand (engine : Nat) (f : TackFields)
  /-- VOR (R205): Vector bitwise OR. -/
  | vor (engine : Nat) (f : TackFields)
  /-- VXOR (R205): Vector bitwise XOR. -/
  | vxor (engine : Nat) (f : TackFields)
  /-- VSHL (R205): Vector logical shift left. -/
  | vshl (engine : Nat) (f : TackFields)
  /-- VSHR (R205): Vector logical shift right. -/
  | vshr (engine : Nat) (f : TackFields)
  /-- VCMP (R205): Vector compare into a predicate. -/
  | vcmp (engine : Nat) (f : TackFields)
  /-- PAND (R205): Predicate AND. -/
  | pand (engine : Nat) (f : TackFields)
  /-- POR (R205): Predicate OR. -/
  | por (engine : Nat) (f : TackFields)
  /-- PNOT (R205): Predicate NOT. -/
  | pnot (engine : Nat) (f : TackFields)
  /-- PSET (R205): Predicate set to a value. -/
  | pset (engine : Nat) (f : TackFields)
  /-- VCVT (R208): Converts a group of 32 elements between formats. -/
  | vcvt (engine : Nat) (f : TackFields)
  /-- PACC (R209): Pushes active lanes into a pairwise accumulator. -/
  | pacc (engine : Nat) (f : TackFields)
  /-- PGET (R209): Reads an accumulator result into a scalar. -/
  | pget (engine : Nat) (f : TackFields)
  /-- PRES (R209): Reads 32 accumulator segments into a vector. -/
  | pres (engine : Nat) (f : TackFields)
  /-- VPACC (R209): Pushes lanes into per-lane accumulators. -/
  | vpacc (engine : Nat) (f : TackFields)
  /-- VPGET (R209): Reads 32 per-lane accumulator results into a vector. -/
  | vpget (engine : Nat) (f : TackFields)
  /-- SADD (R205): Scalar FP32 add. -/
  | sadd (engine : Nat) (f : TackFields)
  /-- SSUB (R205): Scalar FP32 subtract. -/
  | ssub (engine : Nat) (f : TackFields)
  /-- SMUL (R205): Scalar FP32 multiply. -/
  | smul (engine : Nat) (f : TackFields)
  /-- SFMA (R205): Scalar FP32 fused multiply-add. -/
  | sfma (engine : Nat) (f : TackFields)
  /-- SDIV (R205): Scalar FP32 divide. -/
  | sdiv (engine : Nat) (f : TackFields)
  /-- SSQRT (R205): Scalar FP32 square root. -/
  | ssqrt (engine : Nat) (f : TackFields)
  /-- SMIN (R205): Scalar FP32 minimum. -/
  | smin (engine : Nat) (f : TackFields)
  /-- SMAX (R205): Scalar FP32 maximum. -/
  | smax (engine : Nat) (f : TackFields)
  /-- SIADD (R205): Scalar 64-bit integer add. -/
  | siadd (engine : Nat) (f : TackFields)
  /-- SISUB (R205): Scalar 64-bit integer subtract. -/
  | sisub (engine : Nat) (f : TackFields)
  /-- SAND (R205): Scalar 64-bit AND. -/
  | sand (engine : Nat) (f : TackFields)
  /-- SOR (R205): Scalar 64-bit OR. -/
  | sor (engine : Nat) (f : TackFields)
  /-- SSHL (R205): Scalar 64-bit shift left. -/
  | sshl (engine : Nat) (f : TackFields)
  /-- SSHR (R205): Scalar 64-bit shift right. -/
  | sshr (engine : Nat) (f : TackFields)
  /-- SMOVI (R205): Scalar move of a 32-bit immediate. -/
  | smovi (engine : Nat) (f : TackFields)
  /-- INS (R217): Reads an absolute strip of an inlet; a strip outside the binding faults SANDBOX. -/
  | ins (engine : Nat) (f : TackFields)
  /-- OUTS (R217): Writes an absolute strip of an outlet; a strip outside the binding faults SANDBOX. -/
  | outs (engine : Nat) (f : TackFields)
  /-- VLD (R206): Loads 128 bytes from WORK. -/
  | vld (engine : Nat) (f : TackFields)
  /-- VST (R206): Stores 128 bytes to WORK. -/
  | vst (engine : Nat) (f : TackFields)
  /-- VLDB (R206): Loads a WORK word and broadcasts it to every FP32 lane. -/
  | vldb (engine : Nat) (f : TackFields)
  /-- SLD (R206): Loads a 64-bit word from WORK. -/
  | sld (engine : Nat) (f : TackFields)
  /-- SST (R206): Stores a 64-bit word to WORK. -/
  | sst (engine : Nat) (f : TackFields)
  /-- FLOW_UNIT_TRANSMIT (R228): In each slot a port sends a replayed, sequenced or control unit, chosen by the order of R228. -/
  | flowUnitTransmit (port : Nat)
  /-- SEQUENCED_UNIT_RECEIVE (R233): A sequenced flow unit is checked with seed e, accepted or failed, and its packets are parsed. `fec` is what the codewords under the unit read as. -/
  | sequencedUnitReceive (port : Nat) (unit : Bytes) (fec : FecRead)
  /-- CONTROL_UNIT_RECEIVE (R228): A control unit is checked with the fixed seed and its bypass words are acted on. `fec` is what the codewords under the unit read as. -/
  | controlUnitReceive (port : Nat) (unit : Bytes) (fec : FecRead)
  /-- REPLAY_START (R234): A unit headed by REPLAY_START (r) resumes reception, dropping duplicates before e. `fec` is what the codewords under the unit read as. -/
  | replayStart (port : Nat) (r : Nat) (unit : Bytes) (fec : FecRead)
  /-- ACK (R233): A cumulative ACK frees replay entries up to the named number. -/
  | ack (port : Nat) (n : Nat)
  /-- NAK (R235): A NAK starts a replay from the named unit. -/
  | nak (port : Nat) (n : Nat)
  /-- CRD_INC (R240): Adds returned COL credits. -/
  | crdInc (port : Nat) (n : Nat)
  /-- CRD_CUM (R239): Updates a channel's available credit from the cumulative count. -/
  | crdCum (port : Nat) (vc : Nat) (n : Nat)
  /-- CRD_AUDIT (R241): Computes the COL leak estimate and retrains the port on two high estimates. -/
  | crdAudit (port : Nat) (n : Nat)
  /-- SLUICE (R276): A received sluice stop or go for a class on a port. -/
  | sluice (port : Nat) (vc : Nat) (stop : Bool)
  /-- WEIR_ECHO (R275): A congestion echo cuts the source's rate toward that node and class. -/
  | weirEcho (port : Nat) (content : Nat)
  /-- WB_ACK (R277): Writeback acknowledgement with a cumulative count, which frees writeback buffers. -/
  | wbAck (region : Nat) (agent : Nat) (count : Nat)
  /-- HB (R353): A Rein heartbeat word, recorded as valid on the Rein path. -/
  | hb (port : Nat) (n : Nat)
  /-- DOWN (R248): The partner announces that it is taking the port down; the port goes down. -/
  | down (port : Nat)
  /-- CONFIG (R243): A partner CONFIG record, checked and used to leave CONFIG or to resume after a retrain. -/
  | config (port : Nat) (record : Bytes)
  /-- CREDIT_RETURN (R238): An accepted unit's bytes leave the receive buffer, freeing a credit to report. -/
  | creditReturn (port : Nat) (vc : Nat)
  /-- ACK_TIMER (R233): 350 L-cycles with unacknowledged accepted units trigger an ACK. -/
  | ackTimer (port : Nat)
  /-- NAK_RESEND_TIMER (R234): In NAK state, NAK (e) is resent every 350 L-cycles. -/
  | nakResendTimer (port : Nat)
  /-- REPLAY_TIMER (R235): 2,625 L-cycles without ACK progress start a replay. -/
  | replayTimer (port : Nat)
  /-- CREDIT_REPORT_TIMER (R239): Periodic or delayed sending of CRD_CUM and CRD_INC. -/
  | creditReportTimer (port : Nat)
  /-- AUDIT_TIMER (R241): Every 100 µs the receiver sends CRD_AUDIT. -/
  | auditTimer (port : Nat)
  /-- LOSS_OF_SIGNAL (R245): A lane loses signal and the port enters RETRAIN. -/
  | lossOfSignal (port : Nat)
  /-- TRAIN_ATTEMPT (R242): A DOWN port with ENABLE set enters DETECT, at once or every 1 s under AUTO_TRAIN. -/
  | trainAttempt (port : Nat)
  /-- DETECT_END (R242): After 10 µs of receiver detect the port enters TRAIN or DOWN. -/
  | detectEnd (port : Nat) (detected : Bool)
  /-- TRAIN_DONE (R242): Equalisation, codeword lock and deskew complete; the port enters CONFIG. -/
  | trainDone (port : Nat)
  /-- TRAIN_TIMEOUT (R242): TRAIN or CONFIG exceeds its limit and the port goes DOWN. -/
  | trainTimeout (port : Nat)
  /-- RETRAIN_TIMEOUT (R248): A retrain not complete in 20 µs takes the link down. -/
  | retrainTimeout (port : Nat)
  /-- SPRAY_WEIGHT_UPDATE (R262): Every 10 µs each link die recomputes its ports' spray weights. -/
  | sprayWeightUpdate (die : Nat)
  /-- E2E_TIMEOUT (R270): An unanswered message is resent with RESEND = 1, or abandoned after E2E_RETRY resends. -/
  | e2eTimeout (die : Nat) (tag : Nat)
  /-- ASM_TIMEOUT (R268): An incomplete assembly entry is discarded 1 ms after its first packet. -/
  | asmTimeout (die : Nat) (node : Nat) (ssg : Nat) (seq : Word32)
  /-- ACC_CTX_EXPIRE (R266): An acceptance context idle for 10 ms is freed. -/
  | accCtxExpire (die : Nat) (node : Nat) (ssg : Nat)
  /-- RSP_HOLD_TIMEOUT (R281): Answers held toward an unreachable node are discarded after 1 ms. -/
  | rspHoldTimeout (node : Nat)
  /-- WEIR_ECHO_SEND (R274): At most once per 1 µs per source and class, the destination echoes its largest mark. -/
  | weirEchoSend (die : Nat) (node : Nat) (col : Bool)
  /-- WEIR_RATE_RECOVER (R275): After 1 µs without an echo, the rate rises by WEIR_AI. -/
  | weirRateRecover (node : Nat) (col : Bool)
  /-- SLUICE_RENEW (R276): A link die renews or releases its REQ sluice stop as its buffer crosses thresholds and every 10 µs. -/
  | sluiceRenew (die : Nat)
  /-- SLUICE_LAPSE (R276): A received stop lapses 25 µs after the last stop. -/
  | sluiceLapse (port : Nat) (vc : Nat)
  /-- WB_ACK_REFRESH (R277): Every 10 µs each region resends the WB_ACK count to agents whose count has changed. -/
  | wbAckRefresh (region : Nat)
  /-- SHAPER_ADMIT (R289): A packet reaches its VI's shaper, which refills if idle and releases it to the service level when its count allows. -/
  | shaperAdmit (inst : Nat) (index : Nat)
  /-- SHAPER_SLOT_DUE (R290): A wheel slot comes due; its parked shapers are refilled and released or parked again. -/
  | shaperSlotDue (inst : Nat)
  /-- W_EFF_UPDATE (R291): Every 10 µs each port recomputes its effective class weights. -/
  | wEffUpdate (port : Nat)
  /-- LOAD_UPDATE (R298): Every 1 µs each region recomputes its occupancy u for LOAD. -/
  | loadUpdate (region : Nat)
  /-- CHANNEL_REQUEST_ARRIVE (R312): A request enters a channel's latency port or requester FIFO; panic is entered above PANIC_HI. -/
  | channelRequestArrive (channel : Nat) (r : ChanReq)
  /-- CHANNEL_ISSUE (R317): In each free command slot the controller issues a forced operation, the latency port, a starved entry or a lottery winner. -/
  | channelIssue (channel : Nat)
  /-- DRAM_READ_DONE (R328): Read data is ECC-decoded, corrected, marked or poisoned and returned. -/
  | dramReadDone (channel : Nat)
  /-- REFRESH_SLOT (R322): A per-bank refresh slot comes due and is started or postponed; a new pass clears the Eddy counts. -/
  | refreshSlot (channel : Nat)
  /-- CATCH_UP_REFRESH (R323): A postponed refresh is made up once its causes clear. -/
  | catchUpRefresh (channel : Nat)
  /-- NEIGHBOUR_REFRESH_FORCE (R325): A neighbour refresh that has waited 1 µs is issued ahead of everything. -/
  | neighbourRefreshForce (channel : Nat)
  /-- ENTRY_STARVED (R320): An entry waiting 200 M-cycles is flagged STARVED. -/
  | entryStarved (channel : Nat) (id : Nat)
  /-- STARVE_LIMIT (R320): An entry reaching STARVE_LIMIT sets STARVE and may post FORD_STARVE. -/
  | starveLimit (channel : Nat) (id : Nat)
  /-- SCRUB_PASS_END (R335): A scrub pass completes, is aborted or is cut by a reset; its result is written and SCRUB_DONE posted. -/
  | scrubPassEnd (region : Nat)
  /-- EVENT_RECORD_WRITE (R397): An event record write completes, TAIL advances and MSI-X may be raised. -/
  | eventRecordWrite (vi : Nat)
  /-- PAIR_CYCLE_CLOSE (R360): A pair cycle closes by timer, cap or full dirty table, and its records are read and shipped. -/
  | pairCycleClose
  /-- REPL_COMMIT_SEND (R361): When every region has sent its records, the active sends REPL_COMMIT (n). -/
  | replCommitSend
  /-- REPL_REC (R365): Standby writes a whole granule record whose cycle number is not below its own. -/
  | replRec (r : GranuleRec)
  /-- REPL_MARK (R364): Standby writes poison or lost-dirty patterns on replicated words. -/
  | replMark (entries : ReplMarks)
  /-- REPL_COMMIT (R364): Standby completes cycle n and answers REPL_ACK (n). -/
  | replCommit (cycle : Word32)
  /-- REPL_ACK (R362): The active receives the acknowledgement of cycle n and releases the completions held for it. -/
  | replAck (cycle : Word32)
  /-- REPL_ACK_TIMEOUT (R363): No REPL_ACK within 1 ms, or a CTL_MIRROR not applied in 1 ms: the active demands STALE. -/
  | replAckTimeout
  /-- CTL_MIRROR (R344): Standby applies one pair-scoped state change and answers CMP. -/
  | ctlMirror (m : CtlMirror)
  /-- CMP_DIGEST (R371): Standby compares granule digests with its own copy and repairs or reports. -/
  | cmpDigest (granule : Nat) (digest : Digest)
  /-- RESYNC_REC (R367): Partner applies a whole resynchronisation record. -/
  | resyncRec (r : GranuleRec)
  /-- RESYNC_CURSOR_SAVE (R368): A region saves its sweep cursor every 16,384 granules or on a pause. -/
  | resyncCursorSave (region : Nat)
  /-- RESYNC_SWEEP_DONE (R369): All cursors have passed their last granule; a final cycle closes, and its acknowledgement makes the pair ACTIVE and STANDBY. -/
  | resyncSweepDone
  /-- HEARTBEAT_SEND (R353): Every 1 ms a heartbeat is sent on both paths. -/
  | heartbeatSend
  /-- PAIR_HB_FRAME (R353): A sideband heartbeat frame is checked and its state, cinch levels, renewals, grants and demand are acted on. -/
  | pairHbFrame (frame : Bytes)
  /-- GIRTH (R364): A Rein girth packet carrying renewals, grants or a stale demand. -/
  | girth (seq : Word16) (flags : Byte)
  /-- HEARTBEAT_MISS (R354): 1.25 ms without a valid heartbeat records a miss, which can raise the degraded alarm or enable takeover. -/
  | heartbeatMiss (rein : Bool)
  /-- GIRTH_RENEW_SEND (R350): Every 0.4 T_g the holder sends a renewal on both paths. -/
  | girthRenewSend (coord : Bool)
  /-- GIRTH_LAPSE (R351): The holder's lease timer ends; the active enters SOLO or FENCED, or stops coordinating. -/
  | girthLapse (coord : Bool)
  /-- TAKEOVER_START (R356): A standby with 8 misses on each path and an ended lease view enters TAKEOVER and asserts REQ. -/
  | takeoverStart
  /-- CINCH_CLAIM (R347): Partner ACT reads high for 16 RC cycles; own ACT is asserted and the takeover steps run. -/
  | cinchClaim
  /-- CINCH_LINE_CHANGE (R348): A change on a cinch line; a conflict or a released ACT fences the package. -/
  | cinchLineChange (line : Nat) (high : Bool)
  /-- REQ_WAIT_EXPIRE (R357): Partner ACT still low 20 ms after REQ; REQ is released and the package enters STALE. -/
  | reqWaitExpire
  /-- KEEPALIVE_WRITE (R347): Firmware writes the ACT keep-alive every 1 ms while ACTIVE or SOLO. -/
  | keepaliveWrite
  /-- ACT_RELEASE_TIMEOUT (R347): With the girth lapsed and no keep-alive for 10 ms, the always-on block releases ACT. -/
  | actReleaseTimeout
  /-- SOLO_HOLD_END (R351): After a lapse, held completions are released once REQ stays high for 25 ms or is released. -/
  | soloHoldEnd
  /-- REIN_DOWN_STALE (R363): A standby whose Rein link has been down for 1 ms while PAIR_HB delivered enters STALE. -/
  | reinDownStale
  /-- CAP_EVALUATE (R455): Every 10 µs each die computes its demanded throttle step and moves one step toward it. -/
  | capEvaluate (die : Nat) (estimate : Nat)
  /-- PWR_BRAKE_ASSERT (R455): PWR_BRAKE_N goes low and demands step 7. -/
  | pwrBrakeAssert
  /-- PWR_BRAKE_RELEASE (R455): PWR_BRAKE_N is released and the brake demand falls to 0. -/
  | pwrBrakeRelease
  /-- THERMAL_THRESHOLD (R457): A sensor crosses a thermal threshold, changing refresh rate or thermal demand. -/
  | thermalThreshold (unit : ThermalUnit) (temp : Nat)
  /-- THERMAL_TRIP (R458): A trip temperature asserts THERM_TRIP_N and holds the package in reset. -/
  | thermalTrip (unit : ThermalUnit)
  /-- DIE_CAP (R459): SMBus write of the per-die cap and its enable. -/
  | dieCap (value : Word32)
  /-- SMBUS_ARP (R459): SMBus Address Resolution Protocol assigns the target address. -/
  | smbusArp (addr : Nat)
  /-- SMBUS_WRITE_REFUSED (R459): A write to a read-only register or an unknown code, or an out-of-range value, is NACKed. -/
  | smbusWriteRefused (code : Nat) (value : Word32)
  /-- ENUM (R420): Chain frame that assigns the next chain address and forwards the incremented count. -/
  | enum (f : Word64)
  /-- READ (R420): Chain frame that reads a chain register of the addressed device. -/
  | read (f : Word64)
  /-- WRITE (R420): Chain frame that writes a chain register of the addressed or every device. -/
  | write (f : Word64)
  /-- RESET (R420): Chain frame with DATA 0 that starts a chain reset. -/
  | reset (f : Word64)
  /-- CHN_NODE_WRITE (R423): Writes the node ID, at once, pending or refused. -/
  | chnNodeWrite (value : Word32)
  /-- CHN_ROOT_DATA_WRITE (R422): Stages the next word of a requester-root hash. -/
  | chnRootDataWrite (value : Word32)
  /-- ROOT_PROGRAM (R422): Burns the staged hash into an empty requester-root slot. -/
  | rootProgram (slot : Nat)
  /-- ROOT_REVOKE (R422): Permanently revokes a requester-root slot. -/
  | rootRevoke (slot : Nat)
  /-- CHAIN_BYPASS_OPEN (R419): 1 ms after VDD_AUX is in range, the bypass switch opens at the next 8 idle clocks. -/
  | chainBypassOpen
  /-- VDD_AUX_RISE (R411): VDD_AUX rises and the always-on block is reset. -/
  | vddAuxRise
  /-- VDD_AUX_FALL (R419): VDD_AUX falls; the chain bypass closes and NODE_VALID is cleared. -/
  | vddAuxFall
  /-- MAIN_RAIL_FAULT (R451): A main rail leaves its range for more than 1 µs, or the system reference is absent; power-on reset is held. -/
  | mainRailFault (rail : Rail)
  /-- RAIL_ORDER_ERROR (R410): A main rail rises out of order; power-on reset is held and BOOT_ERR 0x0020 reported. -/
  | railOrderError (rail : Rail)
  /-- POR_RELEASE (R412): 1 ms after the last main rail enters range, power-on reset ends and boot starts reading the image. -/
  | porRelease
  /-- IMAGE_VERIFY (R414): After the body is read, the keys and both signatures are verified; firmware starts or recovery wait begins. -/
  | imageVerify
  /-- BOOT_READY (R412): Remaining stacks trained, tables initialised, link dies released; BOOT_PHASE becomes ready. -/
  | bootReady
  /-- PERST_ASSERT (R425): PERST of port d resets its host-port controller and complex d. -/
  | perstAssert (port : Nat)
  /-- PERST_DEASSERT (R425): PERST released; port d and complex d leave reset 20 ms later. -/
  | perstDeassert (port : Nat)
  /-- FLR (R385): Function Level Reset of a PCI Express function resets its VI's mailbox, event enable and counters. -/
  | flr (vi : Nat)
  /-- SRIOV_ENABLE (R375): Host enables SR-IOV and sets NumVFs, creating the VF VIs. -/
  | sriovEnable (port : Nat) (numVfs : Nat)
  /-- HDM_DB_DISABLE (R83): The host disables CXL.mem HDM-DB on a port, ending agent d. -/
  | hdmDbDisable (port : Nat)
  /-- HOST_LINK_DOWN (R83): Link down of a host port ends its caching agent. -/
  | hostLinkDown (port : Nat)
  /-- CONTROL_WATCHDOG (R425): No watchdog write to complex d for 100 ms resets that complex. -/
  | controlWatchdog (complex : Nat)
  /-- PACKAGE_RESET (R427): A package reset begins from a chain RESET, PKG_RESET or FW_ACTIVATE. -/
  | packageReset (cause : PkgResetCause)
  /-- PACKAGE_RESET_END (R427): The image is checked or reloaded, journals are reloaded, regions leave reset and streams are reported interrupted. -/
  | packageResetEnd
  /-- PLL_LOCK_LOSS (R26): A PLL loses lock; the dual-clock queues it feeds are emptied on both sides, and if the K-clock of complex 0 is absent the package timers switch to the RC oscillator and the switch is logged. -/
  | pllLockLoss (pll : PllId)
  /-- HDM_DB_ENABLE (R64): The host enables CXL.mem HDM-DB on port d, which brings caching agent index d into existence for that port's PF. -/
  | hdmDbEnable (port : Nat)
  /-- WEIR_PACE_RELEASE (R293): A gather write held in its region because of the weir rate r of its destination is released to its VI's shaper once r allows it. -/
  | weirPaceRelease (region : Nat)
  /-- CONTROL_WATCHDOG_END (R428): Control complex d leaves its watchdog reset: it reloads its journal, rebuilds the answer of an interrupted command, processes lease expiries that fell due, and posts STEP_INTERRUPTED. -/
  | controlWatchdogEnd (complex : Nat)
  /-- CHN_ROOT_DONE (R422): A requester-root fuse program or revoke operation finishes, up to 50 ms after it started, and sets DONE or FAIL in CHN_ROOT_CMD. -/
  | chnRootDone
  /-- A_CLOCK_STALL_END (R454): The 2 µs stall that a change of A-clock frequency imposes on a die's engines and accumulators ends, and they resume at the new frequency. -/
  | aClockStallEnd (die : Nat)
deriving DecidableEq, Repr

end Sys2Proof
end

