-- ==== Sys2Proof/Config.lean ====
section
/-! DEFINITION. What an implementation fixes and the spec leaves open, and the free values.
Every definition here is opaque: nothing in Lean can evaluate it, so a claim holds for every
value of it. -/
namespace Sys2Proof.Config

/-- A fresh open value: the n-th value the spec does not state (assumption 2). -/
opaque freeValue : Nat → Word64
/-- The set index of a translation-cache entry, "a hash of (WINDOW_ID, group index)" (R38). -/
opaque tcSet : Nat → Nat → Nat
/-- The set index of a mirror entry in a region's segment (R39). -/
opaque mirrorSet : Nat → Nat → Nat
/-- STEPPING of DEV_ID and CHN_ID (R382, R422): the silicon stepping. -/
opaque stepping : Word16
/-- The two root-key fuse hashes: SHA-384 of EC_PUB and of LMS_PUB (R414). -/
opaque rootKeyEc : Bytes
opaque rootKeyLms : Bytes
/-- SHA-384 of the boot ROM (measurement 1 of R417). -/
opaque romDigest : Bytes
/-- The certificate chain of slot 0, whose leaf is derived with the digest of the running image (R417). -/
opaque deviceChain : Bytes → Bytes
/-- A signature of the responder, by the digest of the running image and what is signed (R417). -/
opaque spdmSign : Bytes → Bytes → Bytes
/-- The responder's share of a key exchange, by a fresh value and the requester's share (R417). -/
opaque spdmShare : Word64 → Bytes → Bytes
/-- The image of built-in tack program n (R213: "firmware writes them from the Zutas image"). -/
opaque builtinImage : Nat → Bytes
/-- The contents of the firmware flash when the part leaves the factory (R413). -/
opaque factoryFlash : Bytes

/-- A conversion of a NaN or an infinity (by its FP32 code) into a plain INT8 lane (R207, R208). -/
opaque int8NonFinite : Nat → BitVec 8
/-- `MOD` 2 or 3 of an INT8 lane that holds −128 (R204). -/
opaque int8ModMin : Nat → BitVec 8
/-- `SSHL` (0) and `SSHR` (1) by 64 or more (R205): operation, operand, count. -/
opaque bigShift : Nat → Nat → Nat → Word64
/-- The bytes of a package-log record of a kind with its values, and of a lost-dirty record with its PA,
agent, node and extent (R86, R401): the spec names what they hold and gives no layout. -/
opaque logRecord : Nat → List Nat → Bytes
opaque lostRecord : Nat → Nat → Nat → Nat → Bytes
/-- The transport form of one pair-scoped state change in a CTL_MIRROR packet (R364). -/
opaque mirrorPayload : CtlMirror → Bytes
/-- The 16 bytes of a digest in a CMP_DIGEST packet (R371): the rule names what they hold. -/
opaque digestBytes : Digest → Bytes
/-- The anchor byte of a stream that never had an anchor, by CSTREAM (R125, R171). -/
opaque noAnchor : Nat → BitVec 8
end Sys2Proof.Config
end

