-- ==== Sys2Proof/Machine/State.lean ====
section
/-! DEFINITION. The state of one PX-1272 package: every register, table, queue, buffer and pin
level the spec names, as plain data, with the value after the rise of VDD_AUX. In a
table of like units an unlisted unit stands at its reset value. -/
namespace Sys2Proof.Machine

open Sys2Proof

/-- Why a step stops with a fault. -/
inductive Fault where
  /-- Raised by every command whose operand numbers a unit the package does not have (R8: 2 dies,
  12 regions, 96 clusters, 768 engines, 384 channels, 4 link dies, 66 ports, 1,024 VIs). Safe:
  there is no such unit to act on. -/
  | noSuchUnit
deriving DecidableEq, Repr

/-- Why a step is refused. -/
inductive Refusal where
  /-- Raised by an arm of `exec` that has no meaning yet. Safe: the machine stops. -/
  | notModelled (mnemonic : String)
deriving DecidableEq, Repr

/-- States of an extent (R51). -/
inductive ExtState where
  | free | active | revoking | reclaiming
deriving DecidableEq, Repr

/-- Pair states (R342), codes 0 to 7 in this order. -/
inductive PairState where
  | unpaired | active | solo | standby | syncing | takeover | fenced | stale
deriving DecidableEq, Repr

/-- Port states (R242), codes 0 to 5 in this order (R253). -/
inductive LinkState where
  | down | detect | train | config | active | retrain
deriving DecidableEq, Repr

/-- Filter states (R67): shared, owned, lost-dirty mark being written. A line without an entry
is in state I. -/
inductive LineState where
  | S | O | L
deriving DecidableEq, Repr

/-- Snoops of the home (R71). -/
inductive SnoopKind where
  | share | inv
deriving DecidableEq, Repr

/-- Kinds of a steal-queue entry (R180). -/
inductive TileKind where
  | fused | lamb1 | lamb2 | gather
deriving DecidableEq, Repr

/-- Where the sums of a queued tile are (LOC of R180). -/
inductive SumLoc where
  | slot | buffer | workspace | none
deriving DecidableEq, Repr

/-- An operand entry (R147); `len` = 0 marks it absent. -/
structure Operand where
  window : Nat
  off    : Nat
  len    : Nat
deriving DecidableEq, Repr

/-- A gather entry (R148). -/
structure GatherEnt where
  dest     : Word64
  fmt      : Nat
  rnd      : Nat
  delta    : Bool
  rebase   : Bool
  rnd2     : Nat
  residual : Operand
deriving DecidableEq, Repr

/-- A collective descriptor (R146) with its Confluence block (R121). `raw` is its 592 bytes. -/
structure Desc where
  raw        : Bytes
  cstream    : Nat
  stages     : Nat
  recipe     : Nat
  step       : Word32
  seed       : Word64
  anchor     : Int
  prePass    : Bool
  satDiscard : Bool
  nContrib   : Nat
  skew       : Nat
  wsSlots    : Nat
  elems      : Nat
  stateOp    : Operand
  select     : Operand
  groups     : Operand
  complete   : Operand
  hp         : List Word32
  sumFmt     : Nat
  rnd3       : Nat
  momBf16    : Bool
  progId     : Nat
  ws         : List Operand
  gather     : List GatherEnt
deriving DecidableEq, Repr

/-- A window descriptor (R35) with its class (R286). -/
structure Win where
  kind      : Nat
  writeEn   : Bool
  atomicEn  : Bool
  collEn    : Bool
  pageSize  : Nat
  ownerVi   : Nat
  extentId  : Nat
  limit     : Nat
  basePa    : Nat
  tblSeq    : Word32
  missLimit : Nat
  cls       : Nat
deriving DecidableEq, Repr

/-- Every window is disabled after reset; its class is 3 (R286). -/
def Win.reset : Win := ⟨0, false, false, false, 0, 0, 0, 0, 0, 0, 0, 3⟩

/-- An extent-table entry (R51). -/
structure Ext where
  first      : Nat
  count      : Nat
  ownerVi    : Nat
  state      : ExtState
  coherent   : Bool
  mirrored   : Bool
  generation : Word32
deriving DecidableEq, Repr

def Ext.reset : Ext := ⟨0, 0, 0, .free, false, false, 0⟩

/-- A node-table entry (R260). -/
structure NodeEnt where
  portMask  : Word64
  valid     : Bool
  groups    : Nat
  colSrc    : Bool
  grpUp     : Nat
  window    : Nat
  colWindow : Nat
deriving DecidableEq, Repr

def NodeEnt.reset : NodeEnt := ⟨0, false, 0, false, 0, 64, 0⟩

/-- An event record that waits for the complex to write it (R397, R398). -/
structure EventRec where
  typ     : Nat
  status  : Nat
  payload : Bytes
deriving DecidableEq, Repr

/-- The mailbox command a VI has in progress after it was accepted (R384): the object its completion
names, and its status and answer body once only the partner's CMP is awaited (R344); `prior` is the VI's
last accepted counter with its saved answer from before the command (R385). -/
structure Busy where
  opcode : Nat
  cmd    : Cmd
  keyed  : Bool
  object : Nat
  ready  : Option (Nat × Bytes)
  prior  : Word64 × Option (Bytes × Bytes)
deriving DecidableEq, Repr

/-- A scheduling entry (R297). -/
structure ViSched where
  rate     : Nat
  depth    : Nat
  weight   : Nat
  classMin : Nat
deriving DecidableEq, Repr

/-- A host lease (R53): whether it runs, its length in ms, the moment the renewal window opens (slow
edge, R54), its expiry (fast edge), whether LEASE_CLOSE ended it, and whether it has ended while
complex 0 was in reset, so that the rest of R55 waits for the complex (R428). -/
structure Lease where
  running : Bool
  ms      : Nat
  renewAt : Nat
  endAt   : Nat
  closed  : Bool
  due     : Bool
deriving DecidableEq, Repr

/-- The register page of a VI and its event queue (R380 to R384, R396). -/
structure Page where
  cmdBuf     : Bytes
  rspBuf     : Bytes
  lastTag    : Word16
  lastStatus : Word16
  overrun    : Bool
  done       : Bool
  taken      : Bool
  busy       : Bool
  eqBase     : Word64
  eqSize     : Nat
  doneIe     : Bool
  eqIe       : Bool
  eqEn       : Bool
  tail       : Word32
  head       : Word32
  msix       : Bytes
  pba        : Nat
  evq        : List EventRec
  lost       : Nat
  irq0At     : Option Nat
deriving DecidableEq, Repr

def Page.reset : Page :=
  ⟨[], [], 0, 0, false, false, false, false, 0, 0, false, false, false, 0, 0, [], 0, [], 0, none⟩

/-- A virtual interface (R375): a tenant's enabling, page node, reset right and page extent
(R379, R401), its key and counter with the saved answer (R388, R389), its lease, scheduling
entry, page, command in progress, and counters window keyed by page offset (R409). -/
structure Vi where
  enabled    : Bool
  pageNode   : Nat
  resetRight : Bool
  pageExt    : Nat
  key        : Option Bytes
  counter    : Word64
  saved      : Option (Bytes × Bytes)
  lease      : Lease
  sched      : ViSched
  page       : Page
  cmd        : Option Busy
  dropAnswer : Bool
  ctr        : Tbl Word64
deriving DecidableEq, Repr

/-- VI n after power-on. Depth 64, weight 16, CLASS_MIN 0 for the two PFs and 1 for the others
(R297). -/
def Vi.reset (n : Nat) : Vi :=
  { enabled := false, pageNode := 0, resetRight := false, pageExt := 0, key := none, counter := 0,
    saved := none, lease := ⟨false, 0, 0, 0, false, false⟩,
    sched := ⟨0, 64, 16, if n = 0 ∨ n = 256 then 0 else 1⟩, page := Page.reset, cmd := none,
    dropAnswer := false, ctr := [] }

/-- A caching agent (R64). `host` marks indices 0 and 1. -/
structure Agent where
  node : Nat
  vi   : Nat
  host : Bool
deriving DecidableEq, Repr

/-- A snoop-filter entry (R67): `ags` lists its agents oldest first, `used` orders the ways of a
set by last use. -/
structure Dir where
  state : LineState
  pin   : Bool
  ags   : List Nat
  used  : Nat
deriving DecidableEq, Repr

/-- Where a request came from and where its answer goes. -/
inductive Origin where
  | fabric (die : Nat)
  | hostIo (vi : Nat)
  | cxl (port pa : Nat)
  | local (stream tile dest : Nat)
deriving DecidableEq, Repr

/-- What a request that has not been answered waits for: a miss (R43), a zero-fill (R49), a zero-fill or an
entry of the fill table of a region for a workspace slot (R49, R136), an open transaction
or its turn at a line (R65), a place in the pending queue of a region's home (R65), a stamp (R155), its first lookup, an entry of a dirty table (R361), or the end of an
exchange of roles (R359). -/
inductive Why where
  | miss (region window chunk : Nat)
  | fill (granule : Nat)
  | fillRoom (region : Nat)
  | txn (line : Nat)
  | parked (line : Nat)
  | mesh (region : Nat)
  | stamp (granule : Nat)
  | retryMiss
  | cycle
  | role
deriving DecidableEq, Repr

/-- A translated piece of a request: its PA, its length and its extent (R58). -/
structure Seg where
  pa  : Nat
  len : Nat
  ext : Nat
deriving DecidableEq, Repr

/-- What a lookup of one page has ended in so far (R42, R43, R58): the piece of the pool, an open miss, or the
check of R34 that failed with its status. -/
inductive Look where
  | ok (seg : Seg)
  | wait (region chunk : Nat)
  | fail (chk status : Nat)
deriving DecidableEq, Repr

/-- A page that an access touches, or a raw window's range: its window, the range of the access that it
belongs to (0, or 1 for the source of a copy and so on), its offset from the start of that range, its window
offset and length, the access kind of its misses (R398), and its lookup. -/
structure PageLook where
  window : Nat
  part   : Nat
  rel    : Nat
  off    : Nat
  len    : Nat
  kind   : Nat
  res    : Look
deriving DecidableEq, Repr

/-- A translated request: subscriber VI and class (R285), the pieces it reads and writes, and the
offset of the first page that failed (R59). -/
structure Plan where
  vi  : Option Nat
  cls : Nat
  src : List Seg
  dst : List Seg
  cut : Option Nat
deriving DecidableEq, Repr

/-- A request in the part: a number of its own, its message, origin, what it waits for, its place in the order of
arrival there (R49, R65), and since when, subscriber VI and class as check 2 found them (R285, R286), the lookups of its pages so far
(R46, R58), whether its payload still stands in the ingress buffer of its link die (R30, R273), and its translation
once every page is resolved. -/
structure Waiting where
  id     : Nat
  pkt    : Pkt
  origin : Origin
  why    : Why
  ord    : Nat
  since  : Nat
  vi     : Option Nat
  cls    : Nat
  looks  : List PageLook
  ingress : Bool
  plan   : Option Plan
deriving DecidableEq, Repr

/-- Who reads or writes an operand of the part's own. -/
inductive OpWho where
  | cmd (vi : Nat)
  | event (vi : Nat)
  | complete (stream : Nat)
  | ratio (stream group : Nat)
  | scrub (id : Nat)
deriving DecidableEq, Repr

/-- An operand whose translation waits for a miss (R43): whose it is, the operand, whether it is written, and
the lookups of its pages so far. -/
structure OpLook where
  who   : OpWho
  op    : Operand
  write : Bool
  looks : List PageLook
deriving DecidableEq, Repr

/-- Who makes an access of the part's own to coherent lines (R62, R66): an operation of complexes or scrubs, an
engine, an accepted batch by its granule, or a contribution. -/
inductive OwnWho where
  | op (who : OpWho)
  | engine (e : Nat)
  | batch (granule : Nat)
  | req (id : Nat)
deriving DecidableEq, Repr

/-- The place of an access of the part's own in the order of a line (R65, R66): whether it is parked there, its place
in the order of arrival, and since when. -/
structure LinePlace where
  who    : OwnWho
  line   : Nat
  parked : Bool
  ord    : Nat
  since  : Nat
deriving DecidableEq, Repr

/-- A snoop answer or notice at a home, kept while its region is in reset (R89) or its write is held (R49, R155):
0 RSP_I, 1 RSP_S, 2 RSP_EVICTED, 3 WR_BACK, 4 EVICT_CLEAN, 5 a host's MemWr with its tag, 6 a writeback that
landed before the state of its agent ended (R84). `ord` is its place in the order of arrival (R49). `ack` is the link die,
sequence group and number of a fabric notice, answered when its acknowledgement leaves (R267). -/
structure Buffered where
  kind  : Nat
  agent : Nat
  pa    : Nat
  data  : Option Bytes
  tag   : Nat
  ord   : Nat
  ack   : Option (Nat × Nat × Word32)
deriving DecidableEq, Repr

/-- A snoop that waits for its answer (R82): `due` is the moment of its next resend, `limit` the SNP_TIMEOUT_US
under which it was sent (R463). `held` is set once RSP_EVICTED with D = 1 arrived (R81). -/
structure Snoop where
  agent    : Nat
  kind     : SnoopKind
  due      : Nat
  limit    : Nat
  timeouts : Nat
  held     : Bool
deriving DecidableEq, Repr

/-- What a transaction serves when its snoops are answered; a request by its number. -/
inductive TxnFor where
  | request (id : Nat)
  | evict
  | engine (granule : Nat)
  | remove (agent : Nat)
  | revoke (extent : Nat)
  | orphan
deriving DecidableEq, Repr

/-- An open transaction of the home (R65): the snoops still unanswered; whether two timeouts
have passed (R82); the host ports that wait for a BIConflictAck (R78); the ranges of the line, as (PA, length), that a
batch written at a reset has put over whatever dirty data still comes back (R154, R438). -/
structure Txn where
  forWhat : TxnFor
  snoops  : List Snoop
  stuck   : Bool
  conflicts : List Nat
  keeps   : List (Nat × Nat)
deriving DecidableEq, Repr

/-- A translation-cache entry (R38) or mirror entry (R39): a run of pages. -/
structure Run where
  window  : Nat
  size    : Nat
  start   : Nat
  len     : Nat
  group   : Nat
  paPage  : Nat
  extent  : Nat
deriving DecidableEq, Repr

/-- A miss-table entry (R43): its miss tag, the TBL_SEQ observed (R44), when it opened, its
MISS_LIMIT deadline, and the window's owner, for whom its time is counted (R61). -/
structure Miss where
  window  : Nat
  chunk   : Nat
  tag     : Nat
  seq     : Word32
  opened  : Nat
  dueAt   : Option Nat
  owner   : Nat
deriving DecidableEq, Repr

/-- A write or a set of writes that a region performs as one: a commit batch (R154) of the tile's
(PA, bytes) areas with the window that each goes through (R61), and the granule whose stamp is written last; and the
pair cycle that was open when it was accepted, for a mirrored granule (R436, R446). -/
structure Batch where
  stream  : Nat
  tile    : Nat
  granule : Nat
  stamp   : Word16
  writes  : List (Nat × Bytes)
  wins    : List Nat
  cycle   : Option Word32
deriving DecidableEq, Repr

/-- The part of a scrub pass (R332) that runs in one region: the requesting VI, the pass with its whole range,
flags and result operand, the first PA not scanned yet, and the record of R335 so far, into which the parts
that have ended are summed. `abort` and `reset` say why the pass ends early; `resume` is the lowest PA that an
ended part has left. -/
structure Scrub where
  vi       : Nat
  id       : Nat
  base     : Nat
  len      : Nat
  correct  : Bool
  remap    : Bool
  compare  : Bool
  result   : Operand
  pos      : Nat
  abort    : Bool
  reset    : Bool
  scanned  : Nat
  skipped  : Nat
  corrected : Nat
  uncorrected : Nat
  poisoned : Nat
  marked   : Nat
  remapped : Nat
  refused  : Nat
  divergent : Nat
  firstFail : Option Nat
  resume   : Option Nat
deriving DecidableEq, Repr

/-- A lost-dirty record of R86. -/
structure LostRec where
  pa     : Nat
  agent  : Nat
  node   : Nat
  extent : Nat
deriving DecidableEq, Repr

/-- Where a packet goes. -/
inductive Dest where
  | node (n : Nat)
  | host (port : Nat)
  | rein
deriving DecidableEq, Repr

/-- A packet on its way out, with its subscriber VI and class (R285), its port once sprayed, for a gather write its
(stream, tile, destination), and the region whose selection state sprays it (R31, R262). -/
structure OutPkt where
  pkt  : Pkt
  dest : Dest
  vi   : Option Nat
  cls  : Nat
  port : Nat
  ref  : Option (Nat × Nat × Nat)
  reg  : Nat
deriving DecidableEq, Repr

/-- A region (R8, R13): translation cache (R38), mirror segment (R39), miss table (R43), fill
table (R49), commit buffer (R154), writeback-buffer occupancy and WB_COUNT by agent (R73, R277),
ENG_CTL (R191), spray selection state (R262), dirty table (R360), record buffers (R365),
resynchronisation cursor (R367, R368), scrub pass (R332), occupancy u in eighths with the moment it was taken and as the flag
of R322 (R298), lost-dirty log (R86), and gather writes held by the weir rate
(R293). -/
structure Region where
  inReset   : Bool
  tcache    : List Run
  mirror    : List Run
  miss      : List Miss
  fills     : List Nat
  commit    : List Batch
  wbUsed    : Tbl Nat
  wbCount   : Tbl Nat
  wbEver    : List Nat
  wbSentAt  : Nat
  tileLimit : Nat
  stealScope : Nat
  spray     : Tbl Int
  dirty     : List (Nat × List Nat)
  recBuf    : List (GranuleRec × Nat)
  cursor    : Option Nat
  savedCursor : Nat
  scrub     : Option Scrub
  load      : Nat
  loadAt    : Nat
  busyHalf  : Bool
  lostLog   : List LostRec
  paced     : List OutPkt
  drained   : Nat
  aborted   : Nat
deriving DecidableEq, Repr

def Region.reset : Region :=
  { inReset := true, tcache := [], mirror := [], miss := [], fills := [],
    commit := [], wbUsed := [], wbCount := [], wbEver := [], wbSentAt := 0, tileLimit := 4,
    stealScope := 1, spray := [], dirty := [], recBuf := [], cursor := none, savedCursor := 0,
    scrub := none, load := 0, loadAt := 0, busyHalf := false, lostLog := [], paced := [], drained := 0,
    aborted := 0 }

/-- An open Confluence tile: its side state (R135) and its accumulators (R119). -/
structure Tile where
  stream     : Nat
  tile       : Nat
  dup        : List Nat
  nf         : List Nat
  count      : Nat
  maxExp     : Option Int
  sat        : Bool
  nonFin     : Bool
  poison     : Bool
  inProgress : Bool
  satElems   : Nat
  acc        : Tbl Int
deriving DecidableEq, Repr

/-- A steal-queue entry (R180) with the sums that its slot, buffer or hold area carries for it. -/
structure QEntry where
  stream   : Nat
  kind     : TileKind
  stolen   : Bool
  sat      : Bool
  nonFin   : Bool
  requeued : Bool
  loc      : SumLoc
  cluster  : Nat
  tile     : Nat
  slot     : Nat
deriving DecidableEq, Repr

/-- The sums of a completed tile: 4,096 FP32 values and the non-finite mask (R120, R184). -/
structure Sums where
  vals : List Word32
  nf   : List Nat
deriving DecidableEq, Repr

/-- A cluster (R15): open tiles by SRAM slot (R134), completed sums by slot, steal queue and
buffers (R180, R184), whether a steal request may not be repeated (R183), entries in transit to
it, completed tiles held in their slots while the queue is full, and CLUSTER_STATS (R193). -/
structure Cluster where
  inReset  : Bool
  tiles    : List (Nat × Tile)
  sums     : List (Nat × Sums)
  queue    : List QEntry
  bufs     : List (Nat × Sums)
  noSteal  : Bool
  transit  : List QEntry
  heldOut  : List QEntry
  tilesRun : Nat
  busyCyc  : Nat
  idleCyc  : Nat
  stolenIn : Nat
  stolenOut : Nat
  faultsHw : Nat
  faultsProg : Nat
  reloads  : Nat
  queueMax : Nat
deriving DecidableEq, Repr

def Cluster.reset : Cluster :=
  { inReset := true, tiles := [], sums := [], queue := [], bufs := [],
    noSteal := false, transit := [], heldOut := [], tilesRun := 0, busyCyc := 0, idleCyc := 0,
    stolenIn := 0, stolenOut := 0, faultsHw := 0, faultsProg := 0, reloads := 0, queueMax := 0 }

/-- The tile an engine holds: its queue entry, where the A-clock stood when it started and the TILE_LIMIT of that moment (R191, R192), the place of
the program in its phase table (R196), whether the program's phases and the passes after them are over, the batch they
left, and whether it is over but for gather writes that have not left yet (R187). `conv` lists the (operand, element)
pairs of the strip that inlet and outlet conversions have counted as saturated (R101, R201). `firstOut` has bit k set once element
k of the gather source has had its first outlet write (R220). The tile keeps the translation it started under (R35,
R41): the PA of its state, those of its residual slices, its hold slot as (region, rank, PA), and their extents. -/
structure TileRun where
  entry    : QEntry
  started  : Nat
  limit    : Nat
  stale    : Bool
  phase    : Nat
  strip    : Nat
  index    : Nat
  finished : Bool
  sat      : Bool
  batch    : Option Batch
  sending  : Bool
  firstOut : Nat
  conv     : List (Nat × Nat)
  pa       : Option Nat
  resid    : List (Option Nat)
  hold     : Option (Nat × Nat × Nat)
  exts     : List Nat
deriving DecidableEq, Repr

/-- An entry that an engine has claimed (R181): its sums once they are copied, the lookups of the pages that its tile
touches, and whether a steal is still moving its record in (R183). -/
structure Claim where
  entry   : QEntry
  sums    : Bytes
  looks   : List PageLook
  arrived : Bool
deriving DecidableEq, Repr

/-- An engine (R176, R177): tile, claimed entry, VI of its previous tile, loaded program with the words of its program
store, online bit, whether it goes offline once its tile is over (R191), offline by faults, self-test running, times of hardware faults (R188), an entry it keeps to requeue (R180),
scratch by byte address, the scratch bytes and the program-store words whose parity bit is wrong, and the registers of
R197 and R198. A0 to A3 hold (element index, value)
in push order, lane l of Q(k) is list 128k + l; `idleAt` says where the A-clock stood when an online engine had nothing
to take or steal any more (R193). -/
structure Engine where
  tile    : Option TileRun
  claim   : Option Claim
  lastVi  : Option Nat
  prog    : Option Nat
  store   : List Word64
  reload  : Bool
  online  : Bool
  leave   : Bool
  offline : Bool
  testing : Bool
  faults  : List Nat
  keep    : Option QEntry
  scratch : List Host.Cell
  badBytes : List Nat
  badWords : List Nat
  v       : Tbl Nat
  sc      : Tbl Word64
  p       : Tbl Nat
  a       : Tbl (List (Nat × Word32))
  q       : Tbl (List Word32)
  gbuf    : List (Nat × Bytes)
  idleAt  : Option Nat
deriving DecidableEq, Repr

/-- R426 clears the engines at power-on; ENGINE_SET's online bits have no stated reset value, and
every engine is taken as online (assumption 6). -/
def Engine.reset : Engine :=
  { tile := none, claim := none, lastVi := none, prog := none, store := [], reload := false, online := true,
    leave := false, offline := false,
    testing := false, faults := [], keep := none, scratch := [], badBytes := [], badWords := [], v := [], sc := [], p := [],
    a := [], q := [], gbuf := [], idleAt := none }

/-- A norm group of LAMB (R162). `skip` records the decision of the moment the stream reached
the group; `pass1` the (tile, Pw, Pu) results; `hold` the hold slots in use as (tile, region, rank); `failed` the
(tile, status) failures. -/
structure Group where
  first  : Nat
  count  : Nat
  ratio  : Word32
  ratioStep : Word32
  reached : Bool
  skip   : Bool
  pass1  : List (Nat × Word32 × Word32)
  hold   : List (Nat × Nat × Nat)
  failed : List (Nat × Nat)
  computed : Bool
deriving DecidableEq, Repr

/-- How a tile of a stream ended (R166). -/
inductive Ended where
  | updated | stale | failed
deriving DecidableEq, Repr

structure Outcome where
  ended  : Ended
  status : Nat
  sat    : Bool
deriving DecidableEq, Repr

/-- A collective stream (R146, R121, R125, R167): its owner, descriptor, anchor once fixed and the
regions that have it, reports (R123), the select bits read at submission (R149), tiles completed in Confluence (R129),
workspace slots in use as (region, slot, tile), outcomes, statistics, tiles sent to each
destination and its first failure, gather writes that the transport abandoned (R270) and those unanswered as (tile, destination), LAMB groups,
tiles held at the descriptor stage (R180) and the lookups of those whose region is not known yet (R43), accepted tiles
that wait for a pair cycle (R436). -/
structure Stream where
  owner     : Nat
  desc      : Desc
  openNow   : Bool
  cancelled : Bool
  revoked   : Bool
  anchor    : Option Int
  anchorAt  : List Nat
  reports   : List (Nat × Option Int)
  selBits   : Option Bytes
  completed : List Nat
  wsUsed    : List (Nat × Nat × Nat)
  outcomes  : List (Nat × Outcome)
  maxExp    : Option Int
  satElems  : Nat
  nfElems   : Nat
  spilled   : Nat
  discarded : Nat
  lost      : Nat
  delivered : List Nat
  firstFail : List Nat
  abandoned : List (Nat × Nat)
  unanswered : List (Nat × Nat)
  satTiles  : List Nat
  groups    : List Group
  release   : List QEntry
  relLooks  : List (Nat × List PageLook)
  waitCycle : List (Nat × Word32)
  accepted  : List Nat
deriving DecidableEq, Repr

/-- A loaded program slot (R213, R215). -/
structure Prog where
  image : Bytes
  owner : Nat
  orphan : Bool
deriving DecidableEq, Repr

/-- A neighbour refresh queued in a channel (R325): rows still to refresh and the threshold
crossing. -/
structure Neigh where
  bank : Nat
  rows : List Nat
  at_  : Nat
deriving DecidableEq, Repr

/-- A queued, parked or issued entry of a channel, with its place in the order of arrival, the moment
it left the channel request queue and its STARVED flag (R311, R320). -/
structure ChanEnt where
  r       : ChanReq
  ord     : Nat
  since   : Nat
  starved : Bool
  limitHit : Bool
deriving DecidableEq, Repr

/-- Statistics of a channel (R339). -/
structure ChanStats where
  grants : Tbl Nat
  waits  : Tbl Nat
  waitMax : Tbl Nat
  lpReads : Nat
  lpStarved : Nat
  starved : Nat
  panicEntries : Nat
  panicCycles : Nat
  refPostponed : Nat
  eddyRefreshes : Nat
  eccCorrected : Nat
  eccUncorrected : Nat
  starveReq : List Nat
  starve : Bool
  pendingMax : Nat
  remapRefused : Nat
deriving DecidableEq, Repr

def ChanStats.reset : ChanStats := ⟨[], [], [], 0, 0, 0, 0, 0, 0, 0, 0, 0, [], false, 0, 0⟩

/-- A DRAM channel: MEM_CTL (R337), FORD_TICKETS and FORD_CTL (R338), the LFSR (R318), latency
port (R312), FIFOs and the requests the region holds for full ones (R316), pending queue (R319),
reads in progress, panic (R313), the last mark write granted (R317), Eddy table as (bank, row, count)
(R324), neighbour refreshes (R325), those beyond its four, and the passes of bank 0 that begin until the first window is
over, refresh slot with
its bank, the refreshes of bank 0 in this window and the last slot (R321), banks whose refresh is due
but waits for the latency port (R322), the last catch-up refresh (R323), parked entries × time since the last mean and the moment that sum was
last brought up to (R298), the moments a bank is free, the data bus has a slot and the last command was given (R317), the
end of step 5 of the last latency-port request and the bank of the last forced grant with its end (R315), the number of
arrivals, stack above
85 °C, postponement counts (R322), remap entries (R331), last FORD_STARVE (R320), statistics. -/
structure Chan where
  eddyTh    : Nat
  panicLo   : Nat
  panicHi   : Nat
  refPostpone : Nat
  panicEn   : Bool
  tickets   : List Nat
  starveIe  : Bool
  starveLimit : Nat
  lfsr      : Word32
  lp        : List ChanEnt
  fifos     : Tbl (List ChanEnt)
  held      : List ChanEnt
  parked    : List ChanEnt
  active    : List ChanEnt
  panic     : Bool
  panicAt   : Nat
  lastMark  : Option Nat
  eddy      : List (Nat × Nat × Nat)
  neigh     : List Neigh
  neighHeld : List Neigh
  halfLeft  : Nat
  slotBank  : Nat
  refDone   : Nat
  slotAt    : Nat
  due       : List Nat
  caughtAt  : Option Nat
  parkAcc   : Nat
  parkAt    : Nat
  bankUntil : Tbl Nat
  busUntil  : Nat
  cmdAt     : Nat
  lpUntil   : Nat
  forced    : Option (Nat × Nat)
  arrivals  : Nat
  hot       : Bool
  postponed : Tbl Nat
  remap     : List (Option Nat)
  postedAt  : Option Nat
  stats     : ChanStats
deriving DecidableEq, Repr

/-- Channel n after power-on (R318, R336 to R338). -/
def Chan.reset (n : Nat) : Chan :=
  { eddyTh := 0x20, panicLo := 4, panicHi := 8, refPostpone := 4, panicEn := true,
    tickets := [0x40, 0x30, 0x20, 0x20, 0x10, 0x08, 0x20, 0x18], starveIe := true,
    starveLimit := 0x4E2,
    lfsr := 0xA5C30001#32 ^^^ (BitVec.ofNat 32 n * 0x01010101#32),
    lp := [], fifos := [], held := [], parked := [], active := [], panic := false, panicAt := 0,
    lastMark := none, eddy := [], neigh := [], neighHeld := [], halfLeft := 4609, caughtAt := none, slotBank := 0, refDone := 0,
    slotAt := 0, due := [], parkAcc := 0, parkAt := 0, bankUntil := [], busUntil := 0, cmdAt := 0, lpUntil := 0, forced := none, arrivals := 0, hot := false, postponed := [], remap := List.replicate 16 none, postedAt := none,
    stats := ChanStats.reset }

/-- A replay in progress (R236): the next number to send and the last one. -/
structure Replay where
  next : Nat
  last : Nat
deriving DecidableEq, Repr

/-- The transmitter of a port (R232 to R241, R247). `buf` holds (number, VC, moment of its first
transmission, unit) of units not freed; `sentCol` the COL credits a unit carried in CRD_INC, `acked` the last number
acknowledged during the replay that runs (R236); `whole` the partner's buffers as it advertised them at first
training, `size` those that were free at the last CONFIG (R239, R244). -/
structure PortTx where
  next     : Nat
  buf      : List (Nat × Nat × Nat × Bytes)
  sentCol  : List (Nat × Nat)
  replay   : Option Replay
  acked    : Option Nat
  replayAt : Nat
  replayFrom : Nat
  rcount   : Nat
  retrained : Bool
  whole    : Tbl Nat
  size     : Tbl Nat
  debited  : Tbl Nat
  returned : Tbl Nat
  colAvail : Int
  colRcvd  : Nat
  leakEst  : Nat
  leakPrev : Nat
  stopUntil : Tbl Nat
  bypass   : List (BitVec 40)
  last     : Bytes
deriving DecidableEq, Repr

/-- The receiver of a port (R233 to R241). `dup` is the number of the next duplicate that a replay
brings (R234). -/
structure PortRx where
  e        : Nat
  dup      : Option Nat
  nak      : Bool
  nakAt    : Nat
  unacked  : Nat
  ackDue   : Option Nat
  occ      : Tbl Nat
  freed    : Tbl Nat
  retd     : Tbl Nat
  crdDue   : Tbl Nat
  colFramed : Nat
  parse    : Tbl Bytes
  badCw    : Nat
deriving DecidableEq, Repr

/-- The counters of a port's LINK_STATS record (R253), keyed by record offset. -/
abbrev PortStats := Tbl Nat

/-- A fabric or Rein port (R242, R252): state and since when, both directions, LINK_CTL, the last
CONFIG record with its count and the records sent since, the entry into ACTIVE, whether CONFIG is
within a retrain and whether a protocol error caused that, a training attempt since ENABLE, the partner, spray weight and mean bytes
queued (R262), snoops queued, the packets with a byte in a unit that is not freed as (VC, number of
the last unit once framed, packet), and the bytes of the current packet still to be framed by VC. -/
structure Port where
  state    : LinkState
  since    : Nat
  tx       : PortTx
  rx       : PortRx
  leakRetrain : Nat
  replayN  : Nat
  autoTrain : Bool
  enable   : Bool
  cfg      : Bytes
  cfgCount : Nat
  cfgSent  : Nat
  activeAt : Nat
  wasRetrain : Bool
  proto    : Bool
  tried    : Bool
  partner  : Nat
  stats    : PortStats
  weight   : Nat
  queued   : Nat
  snpq     : List OutPkt
  outq     : List (Nat × Option Nat × OutPkt)
  outBytes : Tbl Bytes
deriving DecidableEq, Repr

def PortTx.reset : PortTx :=
  ⟨0, [], [], none, none, 0, 0, 0, false, [], [], [], [], 0, 0, 0, 0, [], [], []⟩
def PortRx.reset : PortRx := ⟨0, none, false, 0, 0, none, [], [], [], [], 0, [], 0⟩

def Port.reset : Port :=
  { state := .down, since := 0, tx := PortTx.reset, rx := PortRx.reset, leakRetrain := 0x100,
    replayN := 4, autoTrain := true, enable := true, cfg := [], cfgCount := 0, cfgSent := 0,
    activeAt := 0, wasRetrain := false, proto := false,
    tried := false, partner := 0, stats := [], weight := 0,
    queued := 0, snpq := [], outq := [], outBytes := [] }

/-- An acceptance context (R266): states 1 assembling or in progress, 2 answered. -/
structure AccCtx where
  node   : Nat
  ssg    : Nat
  floor  : Word32
  states : List (Nat × Nat)
  usedAt : Nat
deriving DecidableEq, Repr

/-- An assembly entry (R268). -/
structure Asm where
  node  : Nat
  ssg   : Nat
  seq   : Word32
  since : Nat
  pkts  : List Pkt
deriving DecidableEq, Repr

/-- A send context (R270, R272): the packets of one originated message and what it is for, the E2E_TIMEOUT and
E2E_RETRY in force when it was sent (R282), the region whose selection state sprays it (R262), and, for a snoop, whether its transaction is over, so that its answer
comes too late (R82). -/
structure Send where
  tag     : Nat
  node    : Nat
  msg     : Pkt
  lastAt  : Nat
  resends : Nat
  ref     : Option (Nat × Nat × Nat)
  limit   : Nat
  tries   : Nat
  reg     : Nat
  late    : Bool
deriving DecidableEq, Repr

/-- A link die (R266 to R277, R283). `req` lists the accepted requests that have no answer yet;
`seqs` is the next sequence number by node, `nextTag` the next context tag. -/
structure LinkDie where
  inReset  : Bool
  ctxs     : List AccCtx
  asms     : List Asm
  inbox    : List Pkt
  req      : List (Nat × Nat × Word32)
  sends    : List Send
  seqs     : Tbl Word32
  nextTag  : Nat
  reqOcc   : Nat
  colOcc   : Nat
  stopTx   : Bool
  stopAt   : Nat
  stats    : Tbl Nat
deriving DecidableEq, Repr

def LinkDie.reset : LinkDie :=
  { inReset := true, ctxs := [], asms := [], inbox := [], req := [], sends := [], seqs := [], nextTag := 1,
    reqOcc := 0, colOcc := 0, stopTx := false, stopAt := 0, stats := [] }

/-- A shaper (R288, R289): its count in 1/8 bytes, FIFO, last refill, installed rate and depth,
and the moment its wheel slot comes due (R290). -/
structure Shaper where
  count  : Int
  fifo   : List OutPkt
  lastAt : Nat
  rate   : Nat
  depth  : Nat
  due    : Option Nat
deriving DecidableEq, Repr

/-- The service level of one stream of a port (R292): virtual times and start tags by class and
by class × 2,048 + VI, and the leaf queues, each packet with the length it was counted at when its shaper
released it (R287, R294). -/
structure Sfq where
  vcls  : Word64
  vvi   : Tbl Word64
  scls  : Tbl Word64
  sleaf : Tbl Word64
  leaf  : Tbl (List (OutPkt × Nat))
deriving DecidableEq, Repr

def Sfq.reset : Sfq := ⟨0, [], [], [], []⟩

/-- A scheduled port (R284, R291, R305, R307): RSP and COL streams (a host port uses the first),
effective weights (R291) and the class table in force at the port (R294), conformance meters as (level, last) by
class, statistics, and what the
means are taken from: the sum of bytes × time by class (8: all bytes of the port) with the moment it
was last brought up to, and the starts of the intervals measured for R291 and R262. -/
structure SchedPort where
  rsp    : Sfq
  col    : Sfq
  weff   : List Nat
  table  : List (Nat × Nat)
  meters : Tbl (Nat × Nat)
  qmean  : Tbl Nat
  qmax   : Tbl Nat
  excess : Tbl Nat
  qacc   : Tbl Nat
  qAt    : Nat
  wAt    : Nat
  sAt    : Nat
deriving DecidableEq, Repr

/-- The class table at reset: (W_MIN, BURST) by class (R296). -/
def resetClasses : List (Nat × Nat) := (128, 16) :: List.replicate 7 (16, 64)

/-- Before the first recomputation the weights are those of an idle port under the reset class
table: floors 128 and 16, spare 16 shared equally, remainder 0 (R291, R296). -/
def SchedPort.reset : SchedPort :=
  ⟨Sfq.reset, Sfq.reset, [130, 18, 18, 18, 18, 18, 18, 18], resetClasses, [], [], [], [], [], 0, 0, 0⟩

/-- A check-value unit (R405, R406): `cur` is the register before the final XOR, `queue` the
bytes not yet taken in, in write order, each with its write number. -/
structure Cvu where
  poly   : Nat
  active : Nat
  ie     : Bool
  irq    : Bool
  queue  : List Bytes
  cur    : Word64
  expect : Word64
  isMatch : Bool
  mismatch : Bool
deriving DecidableEq, Repr

/-- CVU_RESULT reads 0 at reset: `cur` is what the final XOR of POLY 0 takes to 0. -/
def Cvu.reset : Cvu := ⟨0, 0, false, false, [], 0xFFFFFFFF, 0, false, false⟩

/-- A control complex (R19, R214, R425): reset causes still holding it, watchdog moment, signing
key with its identifier, program policy, SPDM key exchange done and session open, recovery image so far with RCV_READY, the STEP_INTERRUPTED events that its
journal owes as (VI, payload) (R171, R426), the check-value units, and the units that CRC_RUN commands hold, as
(unit, VI) (R408). -/
structure Complex where
  held      : List Nat
  heldUntil : Nat
  signKey   : Option (Word64 × Bytes)
  policy    : Nat
  handshake : Bool
  session   : Bool
  rcv       : Bytes
  rcvReady  : Bool
  interrupted : List (Nat × Bytes)
  cvus      : Tbl Cvu
  crcBy     : List (Nat × Nat)
deriving DecidableEq, Repr

def Complex.reset : Complex := ⟨[], 0, none, 0, false, false, [], false, [], [], []⟩

/-- A host port (R4, R375, R444): PERST asserted, HDM-DB enabled, NumVFs, and the TotalVFs that its physical function
reports. -/
structure HostPort where
  perst    : Bool
  hdmDb    : Bool
  numVfs   : Nat
  totalVfs : Nat
deriving DecidableEq, Repr

def HostPort.reset : HostPort := ⟨false, false, 0, 255⟩

/-- Boot and recovery (R411 to R416): phase, error, rails in range, POR held, verified
digest, running version, boot source, the DRAM copy of the image, the flash, the package reset in progress
with the moment it began, the reset that has been asked for with the moment it begins (R404, R416, R420),
the PLLs that have lost lock (R26), the moment at which power-on reset ended (R412), the stacks whose DRAM does not train
(R414), the image that an FW_UPDATE of a VI is programming, and whether the flash holds a partial image (R430). -/
structure Boot where
  phase    : Nat
  err      : Nat
  rails    : List Rail
  railErr  : Bool
  por      : Bool
  digest   : Bytes
  fwVer    : Word32
  source   : Nat
  dram     : Bytes
  flash    : Bytes
  pkgReset : Option (PkgResetCause × Nat)
  resetDue : Option (PkgResetCause × Nat)
  unlocked : List PllId
  porAt    : Nat
  untrained : List Nat
  fwBusy   : Option (Nat × Bytes)
  partFlash : Bool
deriving DecidableEq, Repr

/-- The always-on block (R411, R419 to R424, R458): chain address, node ID with its valid bit and
the pending one, bypass switch, requester roots as (hash, revoked), the staged hash and its word
index, CHN_ROOT_CMD's slot, DONE and FAIL and the operation under way as (slot, hash to burn, or none for a
revocation), thermal trip with its unit and whether it still holds the package in reset, SMBus address, the
last frame sent on CHN_OUT, VDD_AUX in range and since when. -/
structure AlwaysOn where
  addressed : Bool
  chainAddr : Nat
  nodeId    : Nat
  nodeValid : Bool
  pendingId : Option Nat
  bypassOpen : Bool
  roots     : List (Option Bytes × Bool)
  staged    : List Word32
  rootIdx   : Nat
  rootSlot  : Nat
  rootDone  : Bool
  rootFail  : Bool
  rootOp    : Option (Nat × Option Bytes)
  trip      : Bool
  tripUnit  : Nat
  tripHeld  : Bool
  smbAddr   : Nat
  chnOut    : Word64
  auxUp     : Bool
  auxAt     : Nat
deriving DecidableEq, Repr

/-- The power control of one core die (R454, R455, R457): the step in force, the cap and thermal demands,
the estimate in 0.1 W, the moment since which it is below 0.95 of the cap, the end of an A-clock stall, the
hottest core sensor, the moment of the last change of the thermal demand, and the last evaluation; and what the A-clock
has done up to a moment, in ticks times MHz (R192, R454). -/
structure DiePower where
  step     : Nat
  cap      : Nat
  thermal  : Nat
  estimate : Nat
  belowAt  : Option Nat
  stall    : Option Nat
  tempCore : Nat
  thermAt  : Nat
  evalAt   : Nat
  aWork    : Nat
  aAt      : Nat
deriving DecidableEq, Repr

def DiePower.reset : DiePower := ⟨0, 0, 0, 0, none, none, 0, 0, 0, 0, 0⟩

/-- Power of the package (R455, R457, R459): brake, DIE_CAP, temperatures by unit, stacks whose
92 °C demand is active, the last SMBus answer. -/
structure Power where
  dies    : Tbl DiePower
  brake   : Bool
  capEn   : Bool
  capW    : Nat
  tempStack : Tbl Nat
  tempLink  : Tbl Nat
  hotStacks : List Nat
  nack    : Bool
deriving DecidableEq, Repr

/-- One side's view of a girth lease (R350): whether this package holds it, the holder's
deadline, the granter's deadline, the sequence sent with its moment, lapsed, and the length under which
it was last renewed (R373). -/
structure Girth where
  hold    : Bool
  endAt   : Nat
  viewEnd : Nat
  seq     : Word16
  sentAt  : Nat
  answered : Bool
  lapsed  : Bool
  len     : Nat
deriving DecidableEq, Repr

def Girth.reset : Girth := ⟨false, 0, 0, 0, 0, true, true, 0⟩

/-- A heartbeat path (R354, R355): last count, last valid heartbeat or miss, consecutive misses,
consecutive valid, degraded, misses counted. -/
structure HbPath where
  last     : Word32
  at_      : Nat
  misses   : Nat
  valid    : Nat
  degraded : Bool
  total    : Nat
  lastOk   : Nat
deriving DecidableEq, Repr

def HbPath.reset : HbPath := ⟨0, 0, 0, 0, false, 0, 0⟩

/-- A completion held for a pair cycle (R362): an answer, or a gather write answered locally as
(stream, tile, destination, status). -/
structure HeldAns where
  cycle : Word32
  out   : Option OutPkt
  loc   : Option (Nat × Nat × Nat × Nat)
deriving DecidableEq, Repr

/-- Pairing (R341 to R374). `lines` are the levels of CINCH[3:0] that the part reads, `act` and
`req` its own drives. `formTag` is the CTL_MIRROR that PAIR_FORM waits for, `hbTx` the last frame sent on
PAIR_HB_TX, `claimDue` the request to assert ACT that waits for the partner's line (R347), `claimAt` the moment at which a
takeover asserted it. -/
structure Pair where
  state     : PairState
  index     : Nat
  partner   : Nat
  partnerState : Option PairState
  accepted  : Option Nat
  formTag   : Option Nat
  la        : Girth
  co        : Girth
  lines     : List Bool
  act       : Bool
  req       : Bool
  actAt     : Nat
  keepAlive : Nat
  claimAt   : Option Nat
  claimDue  : Bool
  reqAt     : Nat
  fault     : Bool
  disagree  : Nat
  agree     : Nat
  hbCount   : Word32
  hbAt      : Nat
  rein      : HbPath
  sb        : HbPath
  demand    : Bool
  holding   : Bool
  holdUntil : Nat
  lapseReq  : Bool
  hbTx      : Bytes
deriving DecidableEq, Repr

/-- Pair cycles and resynchronisation (R360 to R369, R373, R374): the open cycle and when it opened, with the
period and cap it runs under; the cycle that ships with the dirty entries it has still to read; the closed cycle
that waits; REPL_COMMIT sent as (cycle, moment); APPLIED_CYCLE; held completions; PAIR_SYNC commands and mended
granules as (VI, object, cycle awaited); resynchronisation with the number that a delta copy starts from and the
cycle that ends it; the step of PAIR_ROLE with its VI and cycle; PAIR_CTL; the counters of R374; CTL_MIRROR
packets without an answer as (tag, VI, moment), and changes whose packet waits for the acknowledgement of a cycle as
(VI, change, cycle) (R439); and at a standby the granules that a compare pass has asked the active for, with whether its
own copy was poisoned (R371). -/
structure Cycles where
  cycle     : Word32
  openedAt  : Nat
  usNow     : Nat
  capNow    : Nat
  shipping  : Option Word32
  unread    : List (Nat × List Nat)
  closedWait : Option Word32
  closedDirty : List (Nat × List Nat)
  committed : Option (Word32 × Nat)
  applied   : Word32
  heldAns   : List HeldAns
  syncs     : List (Nat × Word32)
  mends     : List (Nat × Nat × Option Word32)
  resync    : Bool
  fullCopy  : Bool
  deltaFrom : Word32
  lastCycle : Option Word32
  roleStep  : Nat
  roleVi    : Nat
  roleCycle : Word32
  girth     : Nat
  cycleCap  : Nat
  cycleUs   : Nat
  soloEn    : Bool
  takeoverEn : Bool
  early     : Nat
  closeNow  : Bool
  bytes     : Nat
  records   : Nat
  renewals  : Nat
  abandoned : Nat
  refreshed : Nat
  repaired  : Nat
  mirrorSent : List (Nat × Nat × Nat)
  mirrorTag : Nat
  late      : List (Nat × CtlMirror × Word32)
  asked     : List (Nat × Bool)
deriving DecidableEq, Repr

/-- A revocation sequence in progress (R56). `step` is 2 (before the count of step 3), 4 (draining), 5
(drained, of a mirrored extent in ACTIVE, waiting for the acknowledgement of `cycleWait`, R439), 6 (step 5
done) or 7 (back-invalidation under way). `inFlight` and `tiles` are the requests and engine tiles counted in
step 3. `limit` is the DRAIN_US under which it began (R463). `hits` are the streams whose target or workspace lay in the extent at t0, before the end of a lease
disabled their windows (R55): (stream, tiles, the extent held a workspace) (R142). -/
structure Revoke where
  status  : Nat
  t0      : Nat
  drainEnd : Nat
  step    : Nat
  inFlight : List Nat
  tiles   : List (Nat × Nat)
  limit   : Nat
  cycleWait : Option Word32
  drained : Nat
  aborted : Nat
  unanswered : Nat
  cohWait : Nat
  hits    : List (Nat × List Nat × Bool)
deriving DecidableEq, Repr

/-- A WIN_SET or TBL_UPDATE that waits for requests and engine tiles under the old state (R35, R41), with
the misses, as (region, chunk), whose waiters look again afterwards (R44, R46), and the change that the pair's standby
takes. -/
structure Drain where
  window  : Nat
  vi      : Nat
  limitAt : Nat
  reqs    : List Nat
  tiles   : List (Nat × Nat)
  seq     : Option Word32
  wake    : List (Nat × Nat)
  mirror  : List CtlMirror
deriving DecidableEq, Repr

/-- A package-log record (R27, R55, R82, R243, R248, R343 and the other rules that log). -/
structure LogRec where
  kind : Nat
  args : List Nat
deriving DecidableEq, Repr

/-- Memory (R10, R47, R48, R327): the bytes of DRAM at their PA, the check bytes of every word
whose check bytes are not the clean ones of its data, the granules whose SRAM valid bit is 1,
lines that fail again after a rewrite (R333), remapped or not and over power-on too (R331), and granules whose stamp was in a word that could not be
corrected and has been written for another granule since (R330). -/
structure Dram where
  mem   : List Host.Cell
  check : Tbl Word32
  valid : List Nat
  bad   : List Nat
  noStamp : List Nat
deriving DecidableEq, Repr

/-- The directory side of the homes (R64, R65, R67): agents by index, filter entries and
transactions by line (PA >> 6), a use clock for the LRU orders, reserved granules as (granule,
engine, accepted) (R155; between the passes of a LAMB tile `betweenPasses` stands for the engine), writebacks
held for a reservation or a zero-fill, messages buffered during a region reset (R89), lines marked so far as (agent,
extent, lines, node, VI) (R86), agents whose state has ended, by index, until the index is given again (R77),
answers of a host that are still to come for resent snoops, as (port, line, answers) (R82), and places of the part's own
accesses in the order of lines (R66). -/
structure Home where
  agents  : List (Nat × Agent)
  dir     : List (Nat × Dir)
  txns    : List (Nat × Txn)
  clock   : Nat
  reserved : List (Nat × Nat × Bool)
  heldWb  : List Buffered
  inbox   : List Buffered
  marking : List (Nat × Nat × Nat × Nat × Nat)
  ended   : List (Nat × Agent)
  owed    : List (Nat × Nat × Nat)
  places  : List LinePlace
  drainUs : Nat
  snpTimeoutUs : Nat
deriving DecidableEq, Repr

/-- The scheduler (R284 to R297): OVERHEAD, ADAPT, the class table as (W_MIN, BURST), shapers by
instance × 1,024 + VI, scheduled ports 0 to 65. -/
structure Sched where
  adapt    : Bool
  overhead : Nat
  classes  : List (Nat × Nat)
  shapers  : Tbl Shaper
  ports    : Tbl SchedPort
deriving DecidableEq, Repr

/-- A notice that its region has accepted and whose acknowledgement has not left yet (R267, R277): its message, the
region, and the count that the acknowledgement carries at least. -/
structure WbOwed where
  die    : Nat
  node   : Nat
  ssg    : Nat
  seq    : Word32
  region : Nat
  count  : Nat
deriving DecidableEq, Repr

/-- The fabric (R260, R275, R282): node table, rates by node × 2 + class as (n, k, last echo or recovery) for
n / 8^k units of 1.5625 GB/s once they have been used, the moment the rate toward a node allows the next gather write, XPORT_CTL, answers toward
unreachable nodes with the moment they began to wait (R281), the largest mark and last echo by (source node, COL)
(R274), the Rein messages received whole: every number before `reinFloor` and those in `reinSeen` (R248, R364), link
dies and ports. -/
structure Fabric where
  nodes    : Tbl NodeEnt
  rates    : Tbl (Nat × Nat × Nat)
  paceAt   : Tbl Nat
  weirAi   : Nat
  e2eTimeout : Nat
  e2eRetry : Nat
  rspHold  : List (OutPkt × Nat)
  marks    : List (Nat × Bool × Nat × Option Nat)
  reinFloor : Word32
  reinSeen : List Nat
  reinDownAt : Option Nat
  wbOwed   : List WbOwed
  dies     : Tbl LinkDie
  ports    : Tbl Port
deriving DecidableEq, Repr

/-- The package, and the queue of commands that wait. -/
structure State where
  /-- time in ticks of 1/1260 ns, a common multiple of the clock periods of R22 -/
  now      : Nat
  /-- the next open value (assumption 2); the model's own field -/
  free     : Nat
  /-- K-clock of complex 0 absent, timers on RC (R27) -/
  kAbsent  : Bool
  boot     : Boot
  aon      : AlwaysOn
  power    : Power
  dram     : Dram
  vis      : Tbl Vi
  wins     : Tbl Win
  exts     : Tbl Ext
  home     : Home
  regions  : Tbl Region
  clusters : Tbl Cluster
  engines  : Tbl Engine
  chans    : Tbl Chan
  streams  : List (Nat × Stream)
  progs    : List (Nat × Prog)
  waiting  : List Waiting
  /-- operands of the part's own that wait for a miss -/
  opLooks  : List OpLook
  /-- the number of the next request, and of the next place in an order of arrival -/
  reqNo    : Nat
  outbox   : List OutPkt
  fabric   : Fabric
  sched    : Sched
  pair     : Pair
  cyc      : Cycles
  complexes : Tbl Complex
  hostPorts : Tbl HostPort
  revokes  : List (Nat × Revoke)
  drains   : List Drain
  log      : List LogRec
  /-- commands that wait, first in, first out -/
  pending  : List Instr
deriving DecidableEq, Repr

def Boot.reset : Boot :=
  { phase := 0x01, err := 0, rails := [.aux], railErr := false, por := true,
    digest := [], fwVer := 0, source := 0, dram := [], flash := Config.factoryFlash,
    pkgReset := none, resetDue := none, unlocked := [], porAt := 0, untrained := [], fwBusy := none, partFlash := false }

def AlwaysOn.reset : AlwaysOn :=
  { addressed := false, chainAddr := 0, nodeId := 0, nodeValid := false, pendingId := none,
    bypassOpen := false, roots := List.replicate 4 (none, false), staged := [], rootIdx := 0,
    rootSlot := 0, rootDone := false, rootFail := false, rootOp := none, trip := false,
    tripUnit := 0, tripHeld := false, smbAddr := 0x61, chnOut := 0xFFFFFFFFFFFFFFFF, auxUp := true,
    auxAt := 0 }

def Power.reset : Power :=
  { dies := [], brake := false, capEn := true, capW := 0x108, tempStack := [], tempLink := [],
    hotStacks := [], nack := false }

def Dram.reset : Dram := ⟨[], [], [], [], []⟩

def Home.reset : Home :=
  { agents := [], dir := [], txns := [], clock := 0, reserved := [], heldWb := [], inbox := [], marking := [],
    ended := [], owed := [], places := [],
    drainUs := 0x32, snpTimeoutUs := 0x14 }

def Sched.reset : Sched :=
  { adapt := true, overhead := 0x14, classes := resetClasses,
    shapers := [], ports := [] }

def Fabric.reset : Fabric :=
  { nodes := [], rates := [], paceAt := [], weirAi := 0x10, e2eTimeout := 5, e2eRetry := 3, rspHold := [], marks := [], reinFloor := 0, reinSeen := [],
    reinDownAt := some 0, wbOwed := [], dies := [], ports := [] }

def Pair.reset : Pair :=
  { state := .unpaired, index := 0, partner := 0, partnerState := none, accepted := none,
    formTag := none, la := Girth.reset, co := Girth.reset,
    lines := [true, true, true, true], act := false, req := false, actAt := 0, keepAlive := 0,
    claimAt := none, claimDue := false, reqAt := 0, fault := false, disagree := 0, agree := 0, hbCount := 0, hbAt := 0,
    rein := HbPath.reset, sb := HbPath.reset, demand := false, holding := false, holdUntil := 0,
    lapseReq := false, hbTx := [] }

def Cycles.reset : Cycles :=
  { cycle := 0, openedAt := 0, usNow := 0x14, capNow := 4, shipping := none, unread := [], closedWait := none,
    closedDirty := [], committed := none, applied := 0, heldAns := [], syncs := [], mends := [],
    resync := false, fullCopy := false, deltaFrom := 0, lastCycle := none, roleStep := 0, roleVi := 0, roleCycle := 0,
    girth := 0x19, cycleCap := 4, cycleUs := 0x14, soloEn := true, takeoverEn := true, early := 0, closeNow := false,
    bytes := 0, records := 0, renewals := 0, abandoned := 0, refreshed := 0, repaired := 0, mirrorSent := [], mirrorTag := 0,
    late := [], asked := [] }

/-- The package right after VDD_AUX has risen, with power-on reset held (R410, R411). -/
def State.reset : State :=
  { now := 0, free := 0, kAbsent := false, boot := Boot.reset, aon := AlwaysOn.reset,
    power := Power.reset, dram := Dram.reset, vis := [], wins := [], exts := [],
    home := Home.reset, regions := [], clusters := [], engines := [], chans := [], streams := [],
    progs := [], waiting := [], opLooks := [], reqNo := 0, outbox := [], fabric := Fabric.reset, sched := Sched.reset,
    pair := Pair.reset, cyc := Cycles.reset, complexes := [], hostPorts := [], revokes := [],
    drains := [], log := [], pending := [] }

end Sys2Proof.Machine
end

