-- ==== Sys2Proof/Machine/Ops.lean ====
section
/-! DEFINITION. The operations that every meaning shares: reaching a unit of the package, time and
timers (R22, R27), geometry (R8 to R12), virtual interfaces and their complexes (R375, R19),
events and counters (R397, R409), the log, free values, and packets on their way out. -/
namespace Sys2Proof.Machine

open Sys2Proof

/-! ### The shape of a meaning -/

/-- A meaning that goes on in state `t` when its operands number units of the package. -/
def onUnit (ok : Bool) (t : State) : Host.Outcome State Fault Refusal :=
  if ok then .next t else .fault .noSuchUnit

/-- Apply `f` in a chain of updates, from left to right. -/
def State.foldOver {β : Type} (s : State) (l : List β) (f : State → β → State) : State :=
  l.foldl f s

/-- Apply `f` when the condition holds. -/
def State.when (s : State) (c : Bool) (f : State → State) : State := if c then f s else s

/-! ### Units -/

def State.vi (s : State) (n : Nat) : Vi := tget (Vi.reset n) s.vis n
def State.setVi (s : State) (n : Nat) (v : Vi) : State :=
  { s with vis := tset (Vi.reset n) s.vis n v }
def State.modVi (s : State) (n : Nat) (f : Vi → Vi) : State := s.setVi n (f (s.vi n))
def State.page (s : State) (n : Nat) : Page := (s.vi n).page
def State.modPage (s : State) (n : Nat) (f : Page → Page) : State :=
  s.modVi n (fun v => { v with page := f v.page })

def State.win (s : State) (n : Nat) : Win := tget Win.reset s.wins n
def State.setWin (s : State) (n : Nat) (v : Win) : State :=
  { s with wins := tset Win.reset s.wins n v }

def State.ext (s : State) (n : Nat) : Ext := tget Ext.reset s.exts n
def State.setExt (s : State) (n : Nat) (v : Ext) : State :=
  { s with exts := tset Ext.reset s.exts n v }

def State.region (s : State) (g : Nat) : Region := tget Region.reset s.regions g
def State.setRegion (s : State) (g : Nat) (v : Region) : State :=
  { s with regions := tset Region.reset s.regions g v }
def State.modRegion (s : State) (g : Nat) (f : Region → Region) : State :=
  s.setRegion g (f (s.region g))

def State.cluster (s : State) (c : Nat) : Cluster := tget Cluster.reset s.clusters c
def State.setCluster (s : State) (c : Nat) (v : Cluster) : State :=
  { s with clusters := tset Cluster.reset s.clusters c v }
def State.modCluster (s : State) (c : Nat) (f : Cluster → Cluster) : State :=
  s.setCluster c (f (s.cluster c))

def State.engine (s : State) (e : Nat) : Engine := tget Engine.reset s.engines e
def State.setEngine (s : State) (e : Nat) (v : Engine) : State :=
  { s with engines := tset Engine.reset s.engines e v }
def State.modEngine (s : State) (e : Nat) (f : Engine → Engine) : State :=
  s.setEngine e (f (s.engine e))

def State.chan (s : State) (n : Nat) : Chan := tget (Chan.reset n) s.chans n
def State.setChan (s : State) (n : Nat) (v : Chan) : State :=
  { s with chans := tset (Chan.reset n) s.chans n v }
def State.modChan (s : State) (n : Nat) (f : Chan → Chan) : State := s.setChan n (f (s.chan n))

def State.port (s : State) (p : Nat) : Port := tget Port.reset s.fabric.ports p
def State.setPort (s : State) (p : Nat) (v : Port) : State :=
  { s with fabric := { s.fabric with ports := tset Port.reset s.fabric.ports p v } }
def State.modPort (s : State) (p : Nat) (f : Port → Port) : State := s.setPort p (f (s.port p))

def State.die (s : State) (l : Nat) : LinkDie := tget LinkDie.reset s.fabric.dies l
def State.setDie (s : State) (l : Nat) (v : LinkDie) : State :=
  { s with fabric := { s.fabric with dies := tset LinkDie.reset s.fabric.dies l v } }
def State.modDie (s : State) (l : Nat) (f : LinkDie → LinkDie) : State :=
  s.setDie l (f (s.die l))

def State.node (s : State) (n : Nat) : NodeEnt := tget NodeEnt.reset s.fabric.nodes n
def State.setNode (s : State) (n : Nat) (v : NodeEnt) : State :=
  { s with fabric := { s.fabric with nodes := tset NodeEnt.reset s.fabric.nodes n v } }

def State.complex (s : State) (c : Nat) : Complex := tget Complex.reset s.complexes c
def State.setComplex (s : State) (c : Nat) (v : Complex) : State :=
  { s with complexes := tset Complex.reset s.complexes c v }
def State.modComplex (s : State) (c : Nat) (f : Complex → Complex) : State :=
  s.setComplex c (f (s.complex c))

def State.hostPort (s : State) (d : Nat) : HostPort := tget HostPort.reset s.hostPorts d
def State.setHostPort (s : State) (d : Nat) (v : HostPort) : State :=
  { s with hostPorts := tset HostPort.reset s.hostPorts d v }

def State.diePower (s : State) (d : Nat) : DiePower := tget DiePower.reset s.power.dies d
def State.setDiePower (s : State) (d : Nat) (v : DiePower) : State :=
  { s with power := { s.power with dies := tset DiePower.reset s.power.dies d v } }

def State.stream (s : State) (n : Nat) : Option Stream := afind s.streams n
def State.modStream (s : State) (n : Nat) (f : Stream → Stream) : State :=
  { s with streams := amod s.streams n f }

def State.modPair (s : State) (f : Pair → Pair) : State := { s with pair := f s.pair }
def State.modCyc (s : State) (f : Cycles → Cycles) : State := { s with cyc := f s.cyc }
def State.modHome (s : State) (f : Home → Home) : State := { s with home := f s.home }
def State.modBoot (s : State) (f : Boot → Boot) : State := { s with boot := f s.boot }
def State.modAon (s : State) (f : AlwaysOn → AlwaysOn) : State := { s with aon := f s.aon }
def State.modFabric (s : State) (f : Fabric → Fabric) : State := { s with fabric := f s.fabric }
def State.modSched (s : State) (f : Sched → Sched) : State := { s with sched := f s.sched }
def State.modPower (s : State) (f : Power → Power) : State := { s with power := f s.power }

/-- Take the next open value (assumption 2): the values stay unknown, each is used once. -/
def State.fresh (s : State) : Word64 × State :=
  (Config.freeValue s.free, { s with free := s.free + 1 })

/-! ### Time (R22, R27) -/

/-- Ticks of 1/1260 ns. -/
def ns (n : Nat) : Nat := n * 1260
def us (n : Nat) : Nat := n * 1260000
def ms (n : Nat) : Nat := n * 1260000000
def cCycles (n : Nat) : Nat := n * 525
def mCycles (n : Nat) : Nat := n * 1008
def lCycles (n : Nat) : Nat := n * 720
def rcCycles (n : Nat) : Nat := n * 63000

/-- The span of a timer that ends a right held by another party: it counts at the fast edge, so at
nominal rate it lasts longer than `t` (R27). -/
def fastEdge (s : State) (t : Nat) : Nat :=
  if s.kAbsent then cdiv (t * 21) 20 else cdiv (t * 10002) 10000

/-- The span of a timer that bounds a right this package holds: it counts at the slow edge (R27). -/
def slowEdge (s : State) (t : Nat) : Nat :=
  if s.kAbsent then t * 19 / 20 else t * 9998 / 10000

/-- The moment of a timed event has come: time is at least `t` (assumption 4). -/
def State.reach (s : State) (t : Nat) : State := { s with now := max s.now t }

/-! ### Geometry -/

/-- A stack is 72 GiB (R10). -/
def stackBytes : Nat := 0x1200000000
/-- The populated space ends here (R10). -/
def poolEnd : Nat := 0xD800000000
def granuleBytes : Nat := 0x10000
def stackGranules : Nat := 1179648
def stackOf (pa : Nat) : Nat := pa / stackBytes
def granuleOf (pa : Nat) : Nat := pa / granuleBytes
def regionOfGranule (g : Nat) : Nat := g / stackGranules

/-- The start of the reserved range of a stack, from its base (R11). -/
def reservedOff (g : Nat) : Nat := if g = 0 ∨ g = 6 then 0x11E8000000 else 0x11F8000000
/-- The metadata area of a stack (R47). -/
def metaBase (g : Nat) : Nat := g * stackBytes + 0x11F8000000
/-- Some byte of the range lies in a reserved range or at or above the end of the pool: check 7
of R34 fails. -/
def outOfPool (pa len : Nat) : Bool :=
  decide (pa + len > poolEnd) ||
  (List.range 12).any (fun g =>
    decide (pa < (g + 1) * stackBytes ∧ g * stackBytes + reservedOff g < pa + len))

/-- The addresses of a granule's metadata (R47). -/
def stampAddr (g : Nat) : Nat := metaBase (regionOfGranule g) + 0x40000 + 2 * (g % stackGranules)
def cycleAddr (g : Nat) : Nat := metaBase (regionOfGranule g) + 0x400000 + 4 * (g % stackGranules)
def backingAddr (g : Nat) : Nat := metaBase (regionOfGranule g) + g % stackGranules / 8
/-- Slot n of a region's program area: 256 tenant slots, then the built-in ones (R47). -/
def progAddr (g n : Nat) : Nat := metaBase g + 0x900000 + n * 0x4800

/-- Channel within the stack (R12). -/
def channelOf (pa : Nat) : Nat := bitf (pa % stackBytes) 12 8 ^^^ bitf (pa % stackBytes) 17 13
/-- Package channel index. -/
def packageChannel (pa : Nat) : Nat := 32 * stackOf pa + channelOf pa
/-- Bank and row of a block (R309). -/
def rowOf (pa : Nat) : Nat := pa % stackBytes / 2 ^ 13 / 256
def bankOf (pa : Nat) : Nat := bitf (pa % stackBytes / 2 ^ 13) 5 0 ^^^ bitf (rowOf pa) 5 0
/-- Index of a 64-byte word within its channel (R331). -/
def chanWord (pa : Nat) : Nat :=
  (pa % stackBytes / 2 ^ 13 * 256 + pa % 256) / 64
/-- The PA of word `x` of channel `c` of stack `g` (R331). -/
def chanWordPa (g c x : Nat) : Nat :=
  let a := 64 * x
  let b := a / 256
  g * stackBytes + b * 2 ^ 13 + (c ^^^ (b % 32)) * 256 + a % 256

/-! ### Virtual interfaces -/

/-- The complex that serves a VI (R375). -/
def complexOf (n : Nat) : Nat :=
  if n < 256 then 0 else if n < 512 then 1 else if n < 768 then 0 else 1
def isPf (n : Nat) : Bool := n == 0 || n == 256
def isTenant (n : Nat) : Bool := decide (512 ≤ n ∧ n < 1024)
def pfOf (c : Nat) : Nat := if c = 0 then 0 else 256

/-- The VI exists (R375). -/
def State.viExists (s : State) (n : Nat) : Bool :=
  if isPf n then true
  else if n < 256 then decide (n ≤ (s.hostPort 0).numVfs)
  else if n < 512 then decide (n - 256 ≤ (s.hostPort 1).numVfs)
  else if n < 1024 then (s.vi n).enabled
  else false

def State.leaseRuns (s : State) (n : Nat) : Bool := (s.vi n).lease.running

/-- VI `a` may act on objects of VI `b`: its own, or as the PF of its complex (R376, R377). -/
def mayAct (a b : Nat) : Bool := a == b || (isPf a && complexOf a == complexOf b)

/-! ### Counters, events and the log -/

/-- Add to a counter of a VI's counters window, modulo 2^64 (R409). -/
def State.count (s : State) (n off k : Nat) : State :=
  if k = 0 then s else
  s.modVi n (fun v => { v with ctr := tset 0 v.ctr off (tget 0 v.ctr off + BitVec.ofNat 64 k) })

/-- Raise a counter that holds a maximum. -/
def State.countMax (s : State) (n off k : Nat) : State :=
  s.modVi n (fun v =>
    { v with ctr := tset 0 v.ctr off (BitVec.ofNat 64 (max (tget 0 v.ctr off).toNat k)) })

/-- Post an event to a VI: it waits for the complex to write its record (R397). While EQ_EN is 0 it
is dropped and counted (assumption 10). -/
def State.post (s : State) (n typ status : Nat) (payload : Bytes) : State :=
  if (s.page n).eqEn then
    s.modPage n (fun p => { p with evq := p.evq ++ [⟨typ, status, payload⟩] })
  else s.count n 0x3028 1

/-- Post to both physical-function VIs. -/
def State.postPfs (s : State) (typ status : Nat) (payload : Bytes) : State :=
  (s.post 0 typ status payload).post 256 typ status payload

def State.logRec (s : State) (kind : Nat) (args : List Nat) : State :=
  { s with log := s.log ++ [⟨kind, args⟩] }

/-! ### Packets on their way out -/

/-- A packet with every field zero. -/
def Pkt.zero : Pkt :=
  { ptype := 0, weir := 0, resend := false, dstNode := 0, dpg := 0, srcNode := 0, ssg := 0,
    seq := 0, floor := 0, tag := 0, msgIdx := 0, msgLast := 0, status := 0, load := 0, budget := 0,
    subop := 0, info := 0, addr := 0, opLen := 0, cstream := 0, kind := false, contrib := 0,
    fmt := 0, maxExp := 0, aop := 0, payload := [], poison := false }

def State.emit (s : State) (o : OutPkt) : State := { s with outbox := s.outbox ++ [o] }

/-- The port number of a packet that has not been sprayed yet, or not been numbered for the Rein link. -/
abbrev noPort : Nat := 66

/-- A packet for the partner over the Rein link (R364). -/
def State.emitRein (s : State) (typ : Nat) (payload : Bytes) : State :=
  s.emit ⟨{ Pkt.zero with ptype := typ, payload := payload }, .rein, none, 7, noPort, none, 0⟩

/-- The kind of a link-scope word: a new one replaces the queued word of its kind (R230). -/
def bypassKey (w : BitVec 40) : Nat :=
  let t := bitf w.toNat 39 36
  if t = 1 ∨ t = 2 then 1
  else if t = 5 ∨ t = 7 then t * 16 + bitf w.toNat 2 0
  else t

/-- Queue a bypass word, with the merging of R230; the flag says that it was dropped. The queue never refuses a
link-scope word, so 12 of its 64 entries are kept for those (assumption 181). -/
def bypassPush (q : List (BitVec 40)) (w : BitVec 40) : List (BitVec 40) × Bool :=
  let t := bitf w.toNat 39 36
  if t = 8 then
    if (q.filter (fun x => bitf x.toNat 39 36 == 8)).length < 52 then (q ++ [w], false) else (q, true)
  else if q.any (fun x => bypassKey x == bypassKey w) then
    (q.map (fun x => if bypassKey x == bypassKey w then
      (if t = 4 then x + (w &&& 0x7FF#40) else w) else x), false)
  else (q ++ [w], false)

def bypassWord (typ content : Nat) : BitVec 40 := BitVec.ofNat 40 (typ * 2 ^ 36 + content)

def Port.push (p : Port) (w : BitVec 40) : Port :=
  let (q, dropped) := bypassPush p.tx.bypass w
  { p with tx := { p.tx with bypass := q },
           stats := if dropped then tset 0 p.stats 0x54 (tget 0 p.stats 0x54 + 1) else p.stats }

def Port.stat (p : Port) (off k : Nat) : Port :=
  { p with stats := tset 0 p.stats off (tget 0 p.stats off + k) }

def Port.statMax (p : Port) (off k : Nat) : Port :=
  { p with stats := tset 0 p.stats off (max (tget 0 p.stats off) k) }

def LinkDie.stat (d : LinkDie) (off k : Nat) : LinkDie :=
  { d with stats := tset 0 d.stats off (tget 0 d.stats off + k) }

/-- Ports of link die l (R8): 16 fabric ports, and the Rein port of dies 0 and 3. -/
def portsOf (l : Nat) : List Nat :=
  span (16 * l) 16 ++ (if l = 0 then [64] else if l = 3 then [65] else [])
def dieOfPort (p : Nat) : Nat := if p = 64 then 0 else if p = 65 then 3 else p / 16

/-! ### The A-clock (R192, R454) -/

/-- The A-clock of a throttle step in MHz (R454). -/
def stepClock (n : Nat) : Nat := if n ≤ 4 then 3600 else if n = 5 then 3200 else if n = 6 then 2800 else 2400

/-- What the A-clock of a core die has done, in ticks times MHz: nothing while it is stalled (R454) or absent (R26). -/
def State.aWork (s : State) (d : Nat) : Nat :=
  let p := s.diePower d
  if s.boot.unlocked.contains (.a d) then p.aWork
  else p.aWork + (s.now - max p.aAt (p.stall.getD 0)) * stepClock p.step

/-- A-cycles of a core die since its clock stood at `w`: each takes 1,260,000 ticks times MHz. -/
def State.aCyclesSince (s : State) (d w : Nat) : Nat := (s.aWork d - w) / 1260000

/-- Bring the account of a die's A-clock up to date, before its rate changes. -/
def State.settleA (s : State) (d : Nat) : State :=
  s.setDiePower d { s.diePower d with aWork := s.aWork d, aAt := s.now }

/-- The moment at which `n` A-cycles of a die have passed since its clock stood at `w`, as its rate is now; none while
it has no clock. -/
def State.aMoment (s : State) (d w n : Nat) : Option Nat :=
  if s.boot.unlocked.contains (.a d) then none
  else
    let left := w + n * 1260000 - s.aWork d
    some (max s.now (((s.diePower d).stall).getD 0) + cdiv left (stepClock (s.diePower d).step))

/-! ### Package-wide conditions -/

/-- The part is ready to serve mailboxes (step 8 of R412). -/
def State.ready (s : State) : Bool := s.boot.phase == 7

/-- The controller of host port d is out of reset (R425) and has its P-clock (R26). -/
def State.hostLive (s : State) (d : Nat) : Bool :=
  !(s.hostPort d).perst && s.ready && !s.boot.unlocked.contains (.p d)

/-- A request reaches the channels of a stack: its region is out of reset (R17), and the queues that the C-clock
of its die and its M-clock feed are available (R26). -/
def State.stackServes (s : State) (g : Nat) : Bool :=
  !(s.region g).inReset && !s.boot.unlocked.contains (.m g) && !s.boot.unlocked.contains (.c (g / 6))

/-- Complex c is out of reset and has its K-clock (R26). -/
def State.complexUp (s : State) (c : Nat) : Bool :=
  (s.complex c).held.isEmpty && s.ready && !s.boot.unlocked.contains (.k c)

/-- The status with which a package that is not serving pool data answers (R342); `none` when it
serves. -/
def PairState.refusal (p : PairState) : Option Nat :=
  match p with
  | .unpaired => none
  | .active => none
  | .solo => none
  | .takeover => some stRETRY
  | .standby => some stBOUND
  | .syncing => some stBOUND
  | .fenced => some stBOUND
  | .stale => some stBOUND

def PairState.code (p : PairState) : Nat :=
  match p with
  | .unpaired => 0 | .active => 1 | .solo => 2 | .standby => 3
  | .syncing => 4 | .takeover => 5 | .fenced => 6 | .stale => 7

def PairState.ofCode (n : Nat) : PairState :=
  match n with
  | 0 => .unpaired | 1 => .active | 2 => .solo | 3 => .standby
  | 4 => .syncing | 5 => .takeover | 6 => .fenced | _ => .stale

/-- Completions for writes to mirrored extents are held (R362, R351). -/
def State.holds (s : State) : Bool :=
  s.pair.state == .active || (s.pair.state == .solo && s.pair.holding)

/-- A slot whose owner's lease has expired is freed once no open stream names it (R215). -/
def State.freeOrphans (s : State) : State :=
  { s with progs := s.progs.filter (fun p => !p.2.orphan ||
      s.streams.any (fun e => e.2.openNow && e.2.desc.recipe == 6 && e.2.desc.progId == p.1)) }

/-- Writes to mirrored extents are tracked (R434). -/
def State.tracks (s : State) : Bool := s.pair.state == .active || s.pair.state == .solo

/-- A change of pair state: logged and posted to both PFs (R343). -/
def State.pairState (s : State) (p : PairState) : State :=
  let o := s.pair.state
  let s := s.modPair (fun q => { q with state := p })
  (s.logRec lgPAIR_STATE [o.code, p.code]).postPfs evPAIR_STATE 0
    [BitVec.ofNat 8 o.code, BitVec.ofNat 8 p.code]

end Sys2Proof.Machine
end

