-- ==== Sys2Proof/WellFormed.lean ====
section
/-! DEFINITION. Which commands are well formed: every operand lies in the range of its field or
numbers a unit that the package has (R8, R202, R255, R256, R386). -/
namespace Sys2Proof

/-- A command fits its buffer: reserved and check bytes have their lengths (R386). -/
def Cmd.wf (c : Cmd) : Bool :=
  decide (c.rsv18.length = 16) && decide (c.check.length = 24) && decide (c.body.length ≤ 4032)

/-- Every field of a message fits its place in the header and extension (R255, R256). -/
def Pkt.wf (p : Pkt) : Bool :=
  decide (p.ptype < 256) && decide (p.weir < 4) && decide (p.dstNode < 4096) &&
  decide (p.dpg < 4) && decide (p.srcNode < 4096) && decide (p.ssg < 4) &&
  decide (p.msgIdx ≤ p.msgLast) && decide (p.msgLast < 16) && decide (p.status < 16) && decide (p.budget < 256) &&
  decide (p.load < 8) && decide (p.subop < 256) && decide (p.opLen < 2 ^ 32) &&
  decide (p.cstream < 2 ^ 14) && decide (p.contrib < 4096) && decide (p.fmt < 16) &&
  decide (-32768 ≤ p.maxExp && p.maxExp < 32768) && decide (p.aop < 256) &&
  decide (p.payload.length ≤ 65536)

/-- A channel request names bytes of one 256-byte block of the pool that lies in its channel, and a class that exists
(R12, R309, R312). -/
def ChanReq.wf (r : ChanReq) (channel : Nat) : Bool :=
  decide (r.pa < 12 * 0x1200000000) && decide (1 ≤ r.len) && decide (r.pa % 256 + r.len ≤ 256) &&
  decide (Machine.packageChannel r.pa = channel) &&
  (match r.use with | .fabricRead c => decide (c < 8) | _ => true)

/-- The codewords that begin within a flow unit of 2,048 bits: at most one of 5,140, and RS(544,514) corrects up to 15
symbols (R223). -/
def FecRead.wf (r : FecRead) : Bool :=
  decide (r.cws.length ≤ 1) && r.cws.all (fun c => match c with | some n => decide (n ≤ 15) | none => true)

/-- A granule record names a granule of the package and carries whole blocks (R365). -/
def GranuleRec.wf (r : GranuleRec) : Bool :=
  decide (r.granule < 14155776) && r.mask.all (fun b => decide (b < 256)) &&
  decide (r.data.length = if r.whole then (if r.valid then 65536 else 0) else 256 * r.mask.length)

/-- A mirrored change names an entry of its table (R344). -/
def CtlMirror.wf (m : CtlMirror) : Bool :=
  match m with
  | .ext id entry => decide (id < 65536) && decide (entry.length = 16)
  | .revoke id => decide (id < 65536)
  | .win id d => decide (id < 1024) && decide (d.length = 32)
  | .winClass id c => decide (id < 1024) && decide (c < 8)
  | .table w _ es => decide (w < 1024) && es.all (fun e => decide (e.length = 16))
  | .lease vi _ _ => decide (vi < 1024)
  | .agent i n v _ => decide (i < 256) && decide (n < 4096) && decide (v < 1024)
  | .prog n o _ => decide (n < 256) && decide (o < 1024)
  | .progFree n => decide (n < 256)
  | .viSched v e => decide (v < 1024) && decide (e.length = 8)
  | .node n e => decide (n < 4096) && decide (e.length = 16)
  | .key v _ _ => decide (v < 1024)
  | .eq v _ _ => decide (v < 1024)
  | .pairCtl v => v.toNat &&& 0xFFFCFF06 == v.toNat
  | .form n => decide (n < 4096)
  | .keep gs => gs.all (fun g => decide (g < 14155776))
  | .role => true
  | .coordMove => true
  | .mend g _ => decide (g < 14155776)

/-- A key message carries a VI of the package (R392). -/
def SpdmVendor.wf (m : SpdmVendor) : Bool := decide (m.vi.toNat < 1024)

/-- A PLL feeds a unit that exists (R22). -/
def PllId.wf (p : PllId) : Bool :=
  match p with
  | .a d => decide (d < 2) | .c d => decide (d < 2) | .m g => decide (g < 12)
  | .l d => decide (d < 4) | .p d => decide (d < 2) | .k d => decide (d < 2)

/-- A thermal unit exists (R457). -/
def ThermalUnit.wf (u : ThermalUnit) : Bool :=
  match u with
  | .coreDie d => decide (d < 2) | .linkDie l => decide (l < 4) | .stack g => decide (g < 12)

/-- A command is well formed. -/
def Instr.wf (i : Instr) : Bool :=
  match i with
  | .cmdNop page c => decide (page < 1024) && c.wf
  | .logRead page c => decide (page < 1024) && c.wf
  | .crcRun page c => decide (page < 1024) && c.wf
  | .keyChange page c => decide (page < 1024) && c.wf
  | .viEnable page c => decide (page < 1024) && c.wf
  | .viDisable page c => decide (page < 1024) && c.wf
  | .progPolicySet page c => decide (page < 1024) && c.wf
  | .leaseOpen page c => decide (page < 1024) && c.wf
  | .leaseRenew page c => decide (page < 1024) && c.wf
  | .leaseClose page c => decide (page < 1024) && c.wf
  | .extGrant page c => decide (page < 1024) && c.wf
  | .extRevoke page c => decide (page < 1024) && c.wf
  | .extQuery page c => decide (page < 1024) && c.wf
  | .winSet page c => decide (page < 1024) && c.wf
  | .winSetDrained window => decide (window < 1024)
  | .winClassSet page c => decide (page < 1024) && c.wf
  | .tblUpdate page c => decide (page < 1024) && c.wf
  | .tblUpdateDrained window => decide (window < 1024)
  | .tblMissReply page c => decide (page < 1024) && c.wf
  | .nodeSet page c => decide (page < 1024) && c.wf
  | .cohAgentAdd page c => decide (page < 1024) && c.wf
  | .cohAgentRemove page c => decide (page < 1024) && c.wf
  | .cohSet page c => decide (page < 1024) && c.wf
  | .stepSubmit page c => decide (page < 1024) && c.wf
  | .stepCancel page c => decide (page < 1024) && c.wf
  | .stepScan page c => decide (page < 1024) && c.wf
  | .stepStampSet page c => decide (page < 1024) && c.wf
  | .progLoad page c => decide (page < 1024) && c.wf
  | .progUnload page c => decide (page < 1024) && c.wf
  | .engineSet page c => decide (page < 1024) && c.wf
  | .clusterStats page c => decide (page < 1024) && c.wf
  | .memSet page c => decide (page < 1024) && c.wf
  | .fordSet page c => decide (page < 1024) && c.wf
  | .memRemap page c => decide (page < 1024) && c.wf
  | .memStats page c => decide (page < 1024) && c.wf
  | .memRemapList page c => decide (page < 1024) && c.wf
  | .scrubStart page c => decide (page < 1024) && c.wf
  | .scrubAbort page c => decide (page < 1024) && c.wf
  | .linkSet page c => decide (page < 1024) && c.wf
  | .linkStats page c => decide (page < 1024) && c.wf
  | .xportSet page c => decide (page < 1024) && c.wf
  | .xportStats page c => decide (page < 1024) && c.wf
  | .schedSet page c => decide (page < 1024) && c.wf
  | .viSchedSet page c => decide (page < 1024) && c.wf
  | .schedStats page c => decide (page < 1024) && c.wf
  | .pairForm page c => decide (page < 1024) && c.wf
  | .pairAccept page c => decide (page < 1024) && c.wf
  | .pairRole page c => decide (page < 1024) && c.wf
  | .pairResync page c => decide (page < 1024) && c.wf
  | .pairMend page c => decide (page < 1024) && c.wf
  | .pairSet page c => decide (page < 1024) && c.wf
  | .pairDissolve page c => decide (page < 1024) && c.wf
  | .pairCoordMove page c => decide (page < 1024) && c.wf
  | .pairSync page c => decide (page < 1024) && c.wf
  | .pairStats page c => decide (page < 1024) && c.wf
  | .fwUpdate page c => decide (page < 1024) && c.wf
  | .fwActivate page c => decide (page < 1024) && c.wf
  | .chainAddrSet page c => decide (page < 1024) && c.wf
  | .clusterReset page c => decide (page < 1024) && c.wf
  | .regionReset page c => decide (page < 1024) && c.wf
  | .pkgReset page c => decide (page < 1024) && c.wf
  | .goWhileBusy page => decide (page < 1024)
  | .statusW1c page _ => decide (page < 1024)
  | .eqEnable page _ => decide (page < 1024)
  | .eqHeadWrite page _ => decide (page < 1024)
  | .counterReadClear page offset => decide (page < 1024) && decide (offset < 0x10000)
  | .registerWrite page offset width _ => decide (page < 1026) &&
      decide (if page < 1024 then offset < 0x10000 else 0x4000000 ≤ offset ∧ offset < 0x4000100) && [1, 2, 4, 8].contains width
  | .cvuInit complex unit _ => decide (complex < 2) && decide (unit < 4)
  | .cvuCheck complex unit _ => decide (complex < 2) && decide (unit < 4)
  | .cvuData8 complex unit _ => decide (complex < 2) && decide (unit < 4)
  | .cvuData16 complex unit _ => decide (complex < 2) && decide (unit < 4)
  | .cvuData32 complex unit _ => decide (complex < 2) && decide (unit < 4)
  | .cvuStatusClear complex unit _ => decide (complex < 2) && decide (unit < 4)
  | .rcvChunk port offset => decide (port < 2) && decide (offset < 2 ^ 32)
  | .rcvEnd port offset => decide (port < 2) && decide (offset < 2 ^ 32)
  | .keySet port m => decide (port < 2) && m.wf
  | .keyClear port m => decide (port < 2) && m.wf
  | .signKeySet port m => decide (port < 2) && m.wf
  | .spdmRequest port _ => decide (port < 2)
  | .pageAccess p => p.wf
  | .rdUnc p => p.wf
  | .rdShared p => p.wf
  | .rdOwn p => p.wf
  | .claim p => p.wf
  | .wrUnc p => p.wf
  | .atomicFetchAdd p => p.wf
  | .atomicSwap p => p.wf
  | .atomicCas p => p.wf
  | .atomicFp32Add p => p.wf
  | .atomicFetchMax p => p.wf
  | .copy p => p.wf
  | .wrBack p => p.wf
  | .evictClean p => p.wf
  | .contribution p => p.wf
  | .maxExpReport p => p.wf
  | .anchorReceive region stream anchor => decide (region < 12) && decide (stream < 16384) && decide (-128 ≤ anchor && anchor < 128)
  | .gatherWr p => p.wf
  | .rspI p => p.wf
  | .rspS p => p.wf
  | .rspEvicted p => p.wf
  | .answer p => p.wf
  | .hostMemRead vi window offset len tag => decide (vi < 1024) && decide (window < 1024) && decide (offset < 2 ^ 42) && decide (len ≤ 4096) && decide (tag < 2 ^ 32)
  | .hostMemWrite vi window offset data => decide (vi < 1024) && decide (window < 1024) && decide (offset < 2 ^ 42) && decide (data.length ≤ 4096)
  | .memRd port tag _ pa => decide (port < 2) && decide (tag < 2 ^ 32) && decide (pa < 2 ^ 40)
  | .memWr port tag pa data => decide (port < 2) && decide (tag < 2 ^ 32) && decide (pa < 2 ^ 40) && decide (data.length = 64)
  | .memClnEvct port pa => decide (port < 2) && decide (pa < 2 ^ 40)
  | .biRspS port pa => decide (port < 2) && decide (pa < 2 ^ 40)
  | .biRspI port pa => decide (port < 2) && decide (pa < 2 ^ 40)
  | .biConflict port pa => decide (port < 2) && decide (pa < 2 ^ 40)
  | .parkedRequestServe line => decide (line < 14495514624)
  | .snoopTimeout line agent => decide (line < 14495514624) && decide (agent < 256)
  | .lostDirtyMarkDone line => decide (line < 14495514624)
  | .fillDone granule => decide (granule < 14155776)
  | .missLimitExpire region window chunk => decide (region < 12) && decide (window < 1024) && decide (chunk < 2 ^ 42)
  | .leaseExpire vi => decide (vi < 1024)
  | .revokeDrainStart extent => decide (extent < 65536)
  | .revokeDrainEnd extent => decide (extent < 65536)
  | .revokeClear extent => decide (extent < 65536)
  | .revokeSnoopWaitEnd extent => decide (extent < 65536)
  | .engineTakeTile engine => decide (engine < 768)
  | .stealRecordArrive cluster => decide (cluster < 96)
  | .progReloadDone engine => decide (engine < 768)
  | .tileProgramEnd engine => decide (engine < 768)
  | .commitBatchAccept engine => decide (engine < 768)
  | .stampWrite granule => decide (granule < 14155776)
  | .lambRatioCompute stream group => decide (stream < 16384) && decide (group < 2 ^ 32)
  | .streamEnd stream => decide (stream < 16384)
  | .engineFault engine _ => decide (engine < 768)
  | .tileWatchdog engine => decide (engine < 768)
  | .selfTestDone engine _ => decide (engine < 768)
  | .clusterResetFault cluster => decide (cluster < 96)
  | .clusterResetEnd cluster => decide (cluster < 96)
  | .regionResetFault region => decide (region < 12)
  | .regionResetEnd region => decide (region < 12)
  | .nop engine _ => decide (engine < 768)
  | .vadd engine _ => decide (engine < 768)
  | .vsub engine _ => decide (engine < 768)
  | .vmul engine _ => decide (engine < 768)
  | .vfma engine _ => decide (engine < 768)
  | .vfnma engine _ => decide (engine < 768)
  | .vdiv engine _ => decide (engine < 768)
  | .vsqrt engine _ => decide (engine < 768)
  | .vmin engine _ => decide (engine < 768)
  | .vmax engine _ => decide (engine < 768)
  | .vabs engine _ => decide (engine < 768)
  | .vneg engine _ => decide (engine < 768)
  | .vmov engine _ => decide (engine < 768)
  | .vsel engine _ => decide (engine < 768)
  | .vbcast engine _ => decide (engine < 768)
  | .vext engine _ => decide (engine < 768)
  | .vins engine _ => decide (engine < 768)
  | .vand engine _ => decide (engine < 768)
  | .vor engine _ => decide (engine < 768)
  | .vxor engine _ => decide (engine < 768)
  | .vshl engine _ => decide (engine < 768)
  | .vshr engine _ => decide (engine < 768)
  | .vcmp engine _ => decide (engine < 768)
  | .pand engine _ => decide (engine < 768)
  | .por engine _ => decide (engine < 768)
  | .pnot engine _ => decide (engine < 768)
  | .pset engine _ => decide (engine < 768)
  | .vcvt engine _ => decide (engine < 768)
  | .pacc engine _ => decide (engine < 768)
  | .pget engine _ => decide (engine < 768)
  | .pres engine _ => decide (engine < 768)
  | .vpacc engine _ => decide (engine < 768)
  | .vpget engine _ => decide (engine < 768)
  | .sadd engine _ => decide (engine < 768)
  | .ssub engine _ => decide (engine < 768)
  | .smul engine _ => decide (engine < 768)
  | .sfma engine _ => decide (engine < 768)
  | .sdiv engine _ => decide (engine < 768)
  | .ssqrt engine _ => decide (engine < 768)
  | .smin engine _ => decide (engine < 768)
  | .smax engine _ => decide (engine < 768)
  | .siadd engine _ => decide (engine < 768)
  | .sisub engine _ => decide (engine < 768)
  | .sand engine _ => decide (engine < 768)
  | .sor engine _ => decide (engine < 768)
  | .sshl engine _ => decide (engine < 768)
  | .sshr engine _ => decide (engine < 768)
  | .smovi engine _ => decide (engine < 768)
  | .ins engine _ => decide (engine < 768)
  | .outs engine _ => decide (engine < 768)
  | .vld engine _ => decide (engine < 768)
  | .vst engine _ => decide (engine < 768)
  | .vldb engine _ => decide (engine < 768)
  | .sld engine _ => decide (engine < 768)
  | .sst engine _ => decide (engine < 768)
  | .flowUnitTransmit port => decide (port < 66)
  | .sequencedUnitReceive port unit fec => decide (port < 66) && decide (unit.length = 256) && fec.wf
  | .controlUnitReceive port unit fec => decide (port < 66) && decide (unit.length = 256) && fec.wf
  | .replayStart port r unit fec => decide (port < 66) && decide (r < 2 ^ 12) && decide (unit.length = 256) && fec.wf
  | .ack port n => decide (port < 66) && decide (n < 2 ^ 12)
  | .nak port n => decide (port < 66) && decide (n < 2 ^ 12)
  | .crdInc port n => decide (port < 66) && decide (n < 2 ^ 32)
  | .crdCum port vc n => decide (port < 66) && decide (vc < 8) && decide (n < 2 ^ 32)
  | .crdAudit port n => decide (port < 66) && decide (n < 2 ^ 32)
  | .sluice port vc _ => decide (port < 66) && decide (vc < 8)
  | .weirEcho port content => decide (port < 66) && decide (content < 2 ^ 36)
  | .wbAck region agent count => decide (region < 12) && decide (agent < 256) && decide (count < 2 ^ 32)
  | .hb port n => decide (port < 66) && decide (n < 2 ^ 32)
  | .down port => decide (port < 66)
  | .config port record => decide (port < 66) && decide (record.length = 32)
  | .creditReturn port vc => decide (port < 66) && decide (vc < 8)
  | .ackTimer port => decide (port < 66)
  | .nakResendTimer port => decide (port < 66)
  | .replayTimer port => decide (port < 66)
  | .creditReportTimer port => decide (port < 66)
  | .auditTimer port => decide (port < 66)
  | .lossOfSignal port => decide (port < 66)
  | .trainAttempt port => decide (port < 66)
  | .detectEnd port _ => decide (port < 66)
  | .trainDone port => decide (port < 66)
  | .trainTimeout port => decide (port < 66)
  | .retrainTimeout port => decide (port < 66)
  | .sprayWeightUpdate die => decide (die < 4)
  | .e2eTimeout die tag => decide (die < 4) && decide (tag < 2 ^ 32)
  | .asmTimeout die node ssg _ => decide (die < 4) && decide (node < 4096) && decide (ssg < 4)
  | .accCtxExpire die node ssg => decide (die < 4) && decide (node < 4096) && decide (ssg < 4)
  | .rspHoldTimeout node => decide (node < 4096)
  | .weirEchoSend die node _ => decide (die < 4) && decide (node < 4096)
  | .weirRateRecover node _ => decide (node < 4096)
  | .sluiceRenew die => decide (die < 4)
  | .sluiceLapse port vc => decide (port < 66) && decide (vc < 8)
  | .wbAckRefresh region => decide (region < 12)
  | .shaperAdmit inst index => decide (inst < 6) && decide (index < 1024)
  | .shaperSlotDue inst => decide (inst < 6)
  | .wEffUpdate port => decide (port < 66)
  | .loadUpdate region => decide (region < 12)
  | .channelRequestArrive channel r => decide (channel < 384) && r.wf channel
  | .channelIssue channel => decide (channel < 384)
  | .dramReadDone channel => decide (channel < 384)
  | .refreshSlot channel => decide (channel < 384)
  | .catchUpRefresh channel => decide (channel < 384)
  | .neighbourRefreshForce channel => decide (channel < 384)
  | .entryStarved channel id => decide (channel < 384) && decide (id < 2 ^ 32)
  | .starveLimit channel id => decide (channel < 384) && decide (id < 2 ^ 32)
  | .scrubPassEnd region => decide (region < 12)
  | .eventRecordWrite vi => decide (vi < 1024)
  | .pairCycleClose => true
  | .replCommitSend => true
  | .replRec r => r.wf
  | .replMark _ => true
  | .replCommit _ => true
  | .replAck _ => true
  | .replAckTimeout => true
  | .ctlMirror m => m.wf
  | .cmpDigest granule _ => decide (granule < 14155776)
  | .resyncRec r => r.wf
  | .resyncCursorSave region => decide (region < 12)
  | .resyncSweepDone => true
  | .heartbeatSend => true
  | .pairHbFrame _ => true
  | .girth _ _ => true
  | .heartbeatMiss _ => true
  | .girthRenewSend _ => true
  | .girthLapse _ => true
  | .takeoverStart => true
  | .cinchClaim => true
  | .cinchLineChange line _ => decide (line < 4)
  | .reqWaitExpire => true
  | .keepaliveWrite => true
  | .actReleaseTimeout => true
  | .soloHoldEnd => true
  | .reinDownStale => true
  | .capEvaluate die estimate => decide (die < 2) && decide (estimate < 65536)
  | .pwrBrakeAssert => true
  | .pwrBrakeRelease => true
  | .thermalThreshold unit temp => unit.wf && decide (temp < 256)
  | .thermalTrip unit => unit.wf
  | .dieCap _ => true
  | .smbusArp addr => decide (addr < 128)
  | .smbusWriteRefused code _ => decide (code < 256)
  | .enum _ => true
  | .read _ => true
  | .write _ => true
  | .reset _ => true
  | .chnNodeWrite _ => true
  | .chnRootDataWrite _ => true
  | .rootProgram slot => decide (slot < 4)
  | .rootRevoke slot => decide (slot < 4)
  | .chainBypassOpen => true
  | .vddAuxRise => true
  | .vddAuxFall => true
  | .mainRailFault _ => true
  | .railOrderError _ => true
  | .porRelease => true
  | .imageVerify => true
  | .bootReady => true
  | .perstAssert port => decide (port < 2)
  | .perstDeassert port => decide (port < 2)
  | .flr vi => decide (vi < 1024)
  | .sriovEnable port numVfs => decide (port < 2) && decide (numVfs < 256)
  | .hdmDbDisable port => decide (port < 2)
  | .hostLinkDown port => decide (port < 2)
  | .controlWatchdog complex => decide (complex < 2)
  | .packageReset _ => true
  | .packageResetEnd => true
  | .pllLockLoss pll => pll.wf
  | .hdmDbEnable port => decide (port < 2)
  | .weirPaceRelease region => decide (region < 12)
  | .controlWatchdogEnd complex => decide (complex < 2)
  | .chnRootDone => true
  | .aClockStallEnd die => decide (die < 2)

end Sys2Proof
end

