-- ==== Sys2Proof/Decode.lean ====
section
/-! DEFINITION. The words a command is spelled by. The table of commands gives no row any bits, so
no word of the table spells a command; the instruction words of the engines have an encoding of
their own (R202 to R206), decoded and encoded here. -/
namespace Sys2Proof

/-- The command a table word spells: the table gives no row bits. -/
def decodeTableWord (_nbits _w : Nat) : Option Instr := none

/-- The fields of an instruction word (R202). -/
def tackFields (w : Word64) : TackFields :=
  { pred := w.extractLsb' 51 3, pz := w.getLsbD 50, dst := w.extractLsb' 44 6,
    src1 := w.extractLsb' 38 6, src2 := w.extractLsb' 32 6, src3 := w.extractLsb' 26 6,
    fmt := w.extractLsb' 23 3, ssel := w.extractLsb' 21 2, xf := w.extractLsb' 0 21 }

/-- The instruction word of a class, an operation and fields (R202). -/
def tackWord (cls : BitVec 4) (op : BitVec 6) (f : TackFields) : Word64 :=
  cls ++ (op ++ (f.pred ++ (BitVec.ofBool f.pz ++ (f.dst ++ (f.src1 ++ (f.src2 ++ (f.src3 ++
    (f.fmt ++ (f.ssel ++ f.xf)))))))))

/-- The instruction of engine `e` that CLASS and OP name (R205); every other encoding is refused. -/
def tackInstr (e cls op : Nat) (f : TackFields) : Option Instr :=
  match cls, op with
  | 0, 0 => some (.nop e f)
  | 1, 0 => some (.vadd e f)
  | 1, 1 => some (.vsub e f)
  | 1, 2 => some (.vmul e f)
  | 1, 3 => some (.vfma e f)
  | 1, 4 => some (.vfnma e f)
  | 1, 5 => some (.vdiv e f)
  | 1, 6 => some (.vsqrt e f)
  | 1, 7 => some (.vmin e f)
  | 1, 8 => some (.vmax e f)
  | 1, 9 => some (.vabs e f)
  | 1, 10 => some (.vneg e f)
  | 2, 0 => some (.vmov e f)
  | 2, 1 => some (.vsel e f)
  | 2, 2 => some (.vbcast e f)
  | 2, 3 => some (.vext e f)
  | 2, 4 => some (.vins e f)
  | 2, 5 => some (.vand e f)
  | 2, 6 => some (.vor e f)
  | 2, 7 => some (.vxor e f)
  | 2, 8 => some (.vshl e f)
  | 2, 9 => some (.vshr e f)
  | 3, 0 => some (.vcmp e f)
  | 3, 1 => some (.pand e f)
  | 3, 2 => some (.por e f)
  | 3, 3 => some (.pnot e f)
  | 3, 4 => some (.pset e f)
  | 4, 0 => some (.vcvt e f)
  | 5, 0 => some (.pacc e f)
  | 5, 1 => some (.pget e f)
  | 5, 2 => some (.pres e f)
  | 5, 3 => some (.vpacc e f)
  | 5, 4 => some (.vpget e f)
  | 6, 0 => some (.sadd e f)
  | 6, 1 => some (.ssub e f)
  | 6, 2 => some (.smul e f)
  | 6, 3 => some (.sfma e f)
  | 6, 4 => some (.sdiv e f)
  | 6, 5 => some (.ssqrt e f)
  | 6, 6 => some (.smin e f)
  | 6, 7 => some (.smax e f)
  | 6, 8 => some (.siadd e f)
  | 6, 9 => some (.sisub e f)
  | 6, 10 => some (.sand e f)
  | 6, 11 => some (.sor e f)
  | 6, 12 => some (.sshl e f)
  | 6, 13 => some (.sshr e f)
  | 6, 14 => some (.smovi e f)
  | 7, 0 => some (.ins e f)
  | 7, 1 => some (.outs e f)
  | 7, 2 => some (.vld e f)
  | 7, 3 => some (.vst e f)
  | 7, 4 => some (.vldb e f)
  | 7, 5 => some (.sld e f)
  | 7, 6 => some (.sst e f)
  | _, _ => none

/-- The instruction that engine `e` reads from an instruction word (R202, R205). -/
def decodeTack (e : Nat) (w : Word64) : Option Instr :=
  tackInstr e (w.extractLsb' 60 4).toNat (w.extractLsb' 54 6).toNat (tackFields w)

/-- The instruction word of a tack instruction; other commands have none. -/
def encodeTack (i : Instr) : Option Word64 :=
  match i with
  | .nop _ f => some (tackWord 0 0 f)
  | .vadd _ f => some (tackWord 1 0 f)
  | .vsub _ f => some (tackWord 1 1 f)
  | .vmul _ f => some (tackWord 1 2 f)
  | .vfma _ f => some (tackWord 1 3 f)
  | .vfnma _ f => some (tackWord 1 4 f)
  | .vdiv _ f => some (tackWord 1 5 f)
  | .vsqrt _ f => some (tackWord 1 6 f)
  | .vmin _ f => some (tackWord 1 7 f)
  | .vmax _ f => some (tackWord 1 8 f)
  | .vabs _ f => some (tackWord 1 9 f)
  | .vneg _ f => some (tackWord 1 10 f)
  | .vmov _ f => some (tackWord 2 0 f)
  | .vsel _ f => some (tackWord 2 1 f)
  | .vbcast _ f => some (tackWord 2 2 f)
  | .vext _ f => some (tackWord 2 3 f)
  | .vins _ f => some (tackWord 2 4 f)
  | .vand _ f => some (tackWord 2 5 f)
  | .vor _ f => some (tackWord 2 6 f)
  | .vxor _ f => some (tackWord 2 7 f)
  | .vshl _ f => some (tackWord 2 8 f)
  | .vshr _ f => some (tackWord 2 9 f)
  | .vcmp _ f => some (tackWord 3 0 f)
  | .pand _ f => some (tackWord 3 1 f)
  | .por _ f => some (tackWord 3 2 f)
  | .pnot _ f => some (tackWord 3 3 f)
  | .pset _ f => some (tackWord 3 4 f)
  | .vcvt _ f => some (tackWord 4 0 f)
  | .pacc _ f => some (tackWord 5 0 f)
  | .pget _ f => some (tackWord 5 1 f)
  | .pres _ f => some (tackWord 5 2 f)
  | .vpacc _ f => some (tackWord 5 3 f)
  | .vpget _ f => some (tackWord 5 4 f)
  | .sadd _ f => some (tackWord 6 0 f)
  | .ssub _ f => some (tackWord 6 1 f)
  | .smul _ f => some (tackWord 6 2 f)
  | .sfma _ f => some (tackWord 6 3 f)
  | .sdiv _ f => some (tackWord 6 4 f)
  | .ssqrt _ f => some (tackWord 6 5 f)
  | .smin _ f => some (tackWord 6 6 f)
  | .smax _ f => some (tackWord 6 7 f)
  | .siadd _ f => some (tackWord 6 8 f)
  | .sisub _ f => some (tackWord 6 9 f)
  | .sand _ f => some (tackWord 6 10 f)
  | .sor _ f => some (tackWord 6 11 f)
  | .sshl _ f => some (tackWord 6 12 f)
  | .sshr _ f => some (tackWord 6 13 f)
  | .smovi _ f => some (tackWord 6 14 f)
  | .ins _ f => some (tackWord 7 0 f)
  | .outs _ f => some (tackWord 7 1 f)
  | .vld _ f => some (tackWord 7 2 f)
  | .vst _ f => some (tackWord 7 3 f)
  | .vldb _ f => some (tackWord 7 4 f)
  | .sld _ f => some (tackWord 7 5 f)
  | .sst _ f => some (tackWord 7 6 f)
  | _ => none

end Sys2Proof
end

