-- ==== Sys2Proof/Machine/Formats.lean ====
section
/-! DEFINITION. Number formats and rounding (R91 to R108), and the arithmetic of recipes and tack
programs (R156, R207): every value is an exact rational, rounded once. -/
namespace Sys2Proof.Machine

open Sys2Proof

/-- The real value of an element: NaN, an infinity, or sign and magnitude n / d. -/
inductive Val where
  | nan
  | inf (neg : Bool)
  | fin (neg : Bool) (n d : Nat)
deriving DecidableEq, Repr

def Val.zero : Val := .fin false 0 1

/-- An element format (R92): exponent and fraction bits, bias, whether it has infinities, the code
of the largest finite value and the canonical NaN. -/
structure ElemFmt where
  ebits : Nat
  fbits : Nat
  bias  : Nat
  hasInf : Bool
  maxCode : Nat
  nan   : Nat
  bytes : Nat
deriving DecidableEq, Repr

def elemFmt (c : Nat) : ElemFmt :=
  match c with
  | 0 => ⟨8, 23, 127, true, 0x7F7FFFFF, 0x7FC00000, 4⟩
  | 1 => ⟨8, 7, 127, true, 0x7F7F, 0x7FC0, 2⟩
  | 2 => ⟨5, 10, 15, true, 0x7BFF, 0x7E00, 2⟩
  | 3 => ⟨4, 3, 7, false, 0x7E, 0x7F, 1⟩
  | _ => ⟨5, 2, 15, true, 0x7B, 0x7E, 1⟩

def ElemFmt.signBit (f : ElemFmt) : Nat := 2 ^ (f.ebits + f.fbits)

/-- n / d times 2^e. -/
def scale2 (n d : Nat) (e : Int) : Nat × Nat :=
  if e ≥ 0 then (n * 2 ^ e.toNat, d) else (n, d * 2 ^ (-e).toNat)

/-- The exact value of a code (R92). -/
def decodeElem (f : ElemFmt) (c : Nat) : Val :=
  let neg := c / f.signBit % 2 == 1
  let m := c % f.signBit
  let e := m / 2 ^ f.fbits
  let fr := m % 2 ^ f.fbits
  if f.hasInf && e == 2 ^ f.ebits - 1 then (if fr = 0 then .inf neg else .nan)
  else if !f.hasInf && m > f.maxCode then .nan
  else
    let (sig, ex) : Nat × Int :=
      if e = 0 then (fr, 1 - f.bias - f.fbits) else (fr + 2 ^ f.fbits, (e : Int) - f.bias - f.fbits)
    let (n, d) := scale2 sig 1 ex
    .fin neg n d

/-- Floor of log2 (n / d) for n, d > 0. -/
def ilog2 (n d : Nat) : Int :=
  let e : Int := (Nat.log2 n : Int) - Nat.log2 d
  let (a, b) := scale2 n d (-e)
  if a < b then e - 1 else e

/-- Rounding of a value between neighbours `lo` = k and k + 1 that lies r / d above k: RNE when no
draw is given, SR with the draw otherwise (R106, R107). -/
def roundUp (draw : Option Nat) (k r d : Nat) : Nat :=
  if r = 0 then k else
  match draw with
  | none => if 2 * r < d then k else if 2 * r > d then k + 1 else if k % 2 = 0 then k else k + 1
  | some u => if u * d < r * 2 ^ 24 then k + 1 else k

/-- The code of the magnitude n / d, as if the format had no largest value. -/
def magCode (f : ElemFmt) (draw : Option Nat) (n d : Nat) : Nat :=
  if n = 0 then 0 else
  let emin : Int := 1 - (f.bias : Int)
  let e := max (ilog2 n d) emin
  let (a, b) := scale2 n d ((f.fbits : Int) - e)
  (e - emin).toNat * 2 ^ f.fbits + roundUp draw (a / b) (a % b) b

/-- The magnitude exceeds the largest finite value (R101). -/
def beyondMax (f : ElemFmt) (n d : Nat) : Bool :=
  match decodeElem f f.maxCode with
  | .fin _ n' d' => decide (n * d' > n' * d)
  | _ => false

/-- A conversion into an element format (R98, R100 to R102): the code, and whether it saturated. -/
def encodeElem (f : ElemFmt) (draw : Option Nat) (v : Val) : Nat × Bool :=
  match v with
  | .nan => (f.nan, false)
  | .inf neg =>
    if f.hasInf then (b2n neg * f.signBit + (2 ^ f.ebits - 1) * 2 ^ f.fbits, false)
    else (b2n neg * f.signBit + f.maxCode, true)
  | .fin neg n d =>
    if beyondMax f n d then (b2n neg * f.signBit + f.maxCode, true)
    else (b2n neg * f.signBit + magCode f draw n d, false)

/-- The result of an arithmetic operation in a format, rounded by RNE (R207): overflow gives an
infinity, or in FP8-E4M3 the largest finite value, which counts as saturated. -/
def roundOp (f : ElemFmt) (v : Val) : Nat × Bool :=
  match v with
  | .fin neg n d =>
    if f.hasInf then
      let c := magCode f none n d
      (b2n neg * f.signBit + (if c > f.maxCode then (2 ^ f.ebits - 1) * 2 ^ f.fbits else c), false)
    else encodeElem f none v
  | _ => encodeElem f none v

/-! ### Exact arithmetic with IEEE 754 special cases -/

def Val.neg (v : Val) : Val :=
  match v with
  | .nan => .nan
  | .inf s => .inf (!s)
  | .fin s n d => .fin (!s) n d

def Val.abs (v : Val) : Val :=
  match v with
  | .nan => .nan
  | .inf _ => .inf false
  | .fin _ n d => .fin false n d

/-- Sum of two values; an exact zero from opposite signs is +0 (IEEE 754, RNE). -/
def Val.add (x y : Val) : Val :=
  match x, y with
  | .nan, _ => .nan
  | _, .nan => .nan
  | .inf s, .inf t => if s = t then .inf s else .nan
  | .inf s, _ => .inf s
  | _, .inf t => .inf t
  | .fin s n d, .fin t m e =>
    if s = t then .fin s (n * e + m * d) (d * e)
    else if n * e = m * d then .fin false 0 1
    else if n * e > m * d then .fin s (n * e - m * d) (d * e)
    else .fin t (m * d - n * e) (d * e)

def Val.mul (x y : Val) : Val :=
  match x, y with
  | .nan, _ => .nan
  | _, .nan => .nan
  | .inf s, .inf t => .inf (s != t)
  | .inf s, .fin t m _ => if m = 0 then .nan else .inf (s != t)
  | .fin s n _, .inf t => if n = 0 then .nan else .inf (s != t)
  | .fin s n d, .fin t m e => .fin (s != t) (n * m) (d * e)

def Val.div (x y : Val) : Val :=
  match x, y with
  | .nan, _ => .nan
  | _, .nan => .nan
  | .inf _, .inf _ => .nan
  | .inf s, .fin t _ _ => .inf (s != t)
  | .fin s _ _, .inf t => .fin (s != t) 0 1
  | .fin s n d, .fin t m e =>
    if m = 0 then (if n = 0 then .nan else .inf (s != t)) else .fin (s != t) (n * e) (d * m)

/-- Integer square root, by bits from 2^b down. -/
def isqrtFrom (b n r : Nat) : Nat :=
  match b with
  | 0 => if (r + 1) * (r + 1) ≤ n then r + 1 else r
  | k + 1 =>
    let t := r + 2 ^ (k + 1)
    isqrtFrom k n (if t * t ≤ n then t else r)

def isqrt (n : Nat) : Nat := isqrtFrom (Nat.log2 n / 2 + 1) n 0

/-- A square root with enough bits below it, and a last bit that says it is not exact, so that one
rounding of it is the correct rounding of the root. -/
def Val.sqrt (x : Val) : Val :=
  match x with
  | .nan => .nan
  | .inf s => if s then .nan else .inf false
  | .fin s n d =>
    if n = 0 then .fin s 0 1 else if s then .nan else
    let k := (Nat.log2 d + 80) / 2 + 80
    let t := n * 2 ^ (2 * k) / d
    let r := isqrt t
    let exact := r * r * d == n * 2 ^ (2 * k)
    .fin false (2 * r + b2n (!exact)) (2 ^ (k + 1))

/-- x < y for finite or infinite values, with −0 equal to +0. -/
def Val.lt (x y : Val) : Bool :=
  match x, y with
  | .nan, _ => false
  | _, .nan => false
  | .inf s, .inf t => s && !t
  | .inf s, _ => s
  | _, .inf t => !t
  | .fin s n d, .fin t m e =>
    if n = 0 ∧ m = 0 then false
    else match s, t with
      | true, false => true
      | false, true => false
      | false, false => decide (n * e < m * d)
      | true, true => decide (m * d < n * e)

def Val.isNan (x : Val) : Bool :=
  match x with
  | .nan => true
  | _ => false

def Val.isNeg (x : Val) : Bool :=
  match x with
  | .nan => false
  | .inf s => s
  | .fin s _ _ => s

def Val.eqv (x y : Val) : Bool := !x.isNan && !y.isNan && !x.lt y && !y.lt x

/-- IEEE 754 minimumNumber and maximumNumber, −0 below +0 (R205). -/
def Val.minN (x y : Val) : Val :=
  if x.isNan then y else if y.isNan then x
  else if x.lt y then x else if y.lt x then y else if x.isNeg then x else y

def Val.maxN (x y : Val) : Val :=
  if x.isNan then y else if y.isNan then x
  else if x.lt y then y else if y.lt x then x else if x.isNeg then y else x

/-! ### FP32 operations as the recipes name them (R156) -/

def f32 (w : Word32) : Val := decodeElem (elemFmt 0) w.toNat
def toF32 (v : Val) : Word32 := BitVec.ofNat 32 (roundOp (elemFmt 0) v).1
def fAdd (a b : Word32) : Word32 := toF32 ((f32 a).add (f32 b))
def fSub (a b : Word32) : Word32 := toF32 ((f32 a).add (f32 b).neg)
def fMul (a b : Word32) : Word32 := toF32 ((f32 a).mul (f32 b))
def fDiv (a b : Word32) : Word32 := toF32 ((f32 a).div (f32 b))
def fFma (a b c : Word32) : Word32 := toF32 (((f32 a).mul (f32 b)).add (f32 c))

/-- One level of pairing of psum (R156): adjacent values are added, a last single one stays. -/
def psumLevel : List Word32 → List Word32
  | [] => []
  | [x] => [x]
  | x :: y :: r => fAdd x y :: psumLevel r

def psumGo (k : Nat) (l : List Word32) : List Word32 :=
  match k with
  | 0 => l
  | n + 1 => if l.length ≤ 1 then l else psumGo n (psumLevel l)

/-- The pairwise sum in fixed order (R156); no value gives +0 (R209). -/
def psum (l : List Word32) : Word32 := (psumGo (Nat.log2 l.length + 2) l).headD 0

/-! ### Stochastic rounding draws (R108) -/

def srDraw (seed : Word64) (step site i : Nat) : Nat :=
  let c : Word64 := 0x9E3779B97F4A7C15#64
  let k := seed ^^^ (BitVec.ofNat 64 step * c)
  let z := k + (BitVec.ofNat 64 (site * 2 ^ 48) ||| BitVec.ofNat 64 i) + c
  let z := (z ^^^ (z >>> 30)) * 0xBF58476D1CE4E5B9#64
  let z := (z ^^^ (z >>> 27)) * 0x94D049BB133111EB#64
  let z := z ^^^ (z >>> 31)
  (z >>> 40).toNat

/-- How a conversion rounds: mode (0 RNE, 1 SR), seed, step, site (R106, R108). -/
structure Rnd where
  mode : Nat
  seed : Word64
  step : Nat
  site : Nat
deriving DecidableEq, Repr

def Rnd.rne : Rnd := ⟨0, 0, 0, 0⟩
def Rnd.draw (r : Rnd) (i : Nat) : Option Nat :=
  if r.mode = 1 then some (srDraw r.seed r.step r.site i) else none

/-! ### Block formats -/

/-- Bytes of a block (R91). -/
def blockBytes (c : Nat) : Nat := if c = 5 then 68 else if c = 6 then 50 else 34
def isBlock (c : Nat) : Bool := decide (5 ≤ c)

/-- Bytes of `n` elements (R91, R93). -/
def fmtBytes (c n : Nat) : Nat :=
  if isBlock c then cdiv n 64 * blockBytes c else n * (elemFmt c).bytes

/-- Grid magnitudes of Riffle-4 (R96) in twelfths. -/
def riffle4 : List Nat := [0, 1, 2, 3, 4, 6, 8, 12]
/-- Grid magnitudes of Riffle-6 (R97) in units of 2^-5. -/
def riffle6 : List Nat :=
  (List.range 32).map (fun c => if c < 8 then c else (8 + c % 8) * 2 ^ (c / 8 - 1))
/-- Grid of a block format and its unit: magnitude of code k is grid k / unit. -/
def gridOf (c : Nat) : List Nat × Nat :=
  if c = 5 then (List.range 128, 1) else if c = 6 then (riffle6, 32) else (riffle4, 12)

/-- Sign and magnitude code of element k of a block. -/
def blockElem (c : Nat) (b : Bytes) (k : Nat) : Bool × Nat :=
  if c = 6 then
    let v := leNat (slice b 2 48) / 2 ^ (6 * k) % 64
    (decide (v ≥ 32), v % 32)
  else
    let v := (lget 0#8 b (2 + k / 2)).toNat / (if k % 2 = 0 then 1 else 16) % 16
    (decide (v ≥ 8), v % 8)

/-- The 64 values of a block (R94 to R97). -/
def decodeBlock (c : Nat) (b : Bytes) : List Val :=
  (List.range 64).map (fun k =>
    if c = 5 then
      let q := sext 8 (lget 0#8 b (4 + k)).toNat
      match (Val.fin (decide (q < 0)) q.natAbs 1).mul (decodeElem (elemFmt 0) (fld b 0 4)) with
      | .fin s n d => if n = 0 then .fin false 0 1 else .fin s n d
      | v => v
    else
      let e := (lget 0#8 b 1).toNat
      let f := (lget 0#8 b 0).toNat
      let (s, m) := blockElem c b k
      if e = 0 then .fin false 0 1
      else if e = 255 then .nan
      else
        let (g, u) := gridOf c
        let (n, d) := scale2 ((lget 0 g m) * (256 + f)) (u * 256) ((e : Int) - 127)
        if m = 0 then .fin false 0 1 else .fin s n d)

/-- Rounding of a value n / d onto a rising grid in units 1 / u (R105): the code. Above the grid
gives the last code. -/
def gridCode (g : List Nat) (u : Nat) (draw : Option Nat) (n d : Nat) : Nat :=
  let below := (g.takeWhile (fun x => decide (x * d ≤ n * u))).length - 1
  let lo := lget 0 g below
  if below + 1 ≥ g.length then below
  else
    let hi := lget 0 g (below + 1)
    let r := n * u - lo * d
    let w := (hi - lo) * d
    if r = 0 then below else
    match draw with
    | none => if 2 * r < w then below else if 2 * r > w then below + 1
              else if below % 2 = 0 then below else below + 1
    | some x => if x * w < r * 2 ^ 24 then below + 1 else below

/-- What an encoding or conversion produced: bytes, elements saturated, non-finite blocks, blocks
at the scale floor (R115). -/
structure Conv where
  data  : Bytes
  sat   : Nat
  nonfin : Nat
  floor : Nat
deriving DecidableEq, Repr

def Conv.empty : Conv := ⟨[], 0, 0, 0⟩
def Conv.append (a b : Conv) : Conv :=
  ⟨a.data ++ b.data, a.sat + b.sat, a.nonfin + b.nonfin, a.floor + b.floor⟩

/-- Magnitude as a pair, 0 for values that are not finite. -/
def Val.mag (v : Val) : Nat × Nat :=
  match v with
  | .fin _ n d => (n, d)
  | _ => (0, 1)

def Val.isFin (v : Val) : Bool :=
  match v with
  | .fin _ _ _ => true
  | _ => false

/-- The largest magnitude of a block. -/
def amax (vs : List Val) : Nat × Nat :=
  vs.foldl (fun a v => let m := v.mag; if m.1 * a.2 > a.1 * m.2 then m else a) (0, 1)

/-- The smallest FP32 code at or above a positive magnitude (R104). -/
def f32Ceil (n d : Nat) : Nat :=
  let c := magCode (elemFmt 0) (some (2 ^ 24)) n d
  match decodeElem (elemFmt 0) c with
  | .fin _ n' d' => if n' * d < n * d' then c + 1 else c
  | _ => c

/-- Pack the codes of a Riffle block after its header. -/
def packCodes (c : Nat) (codes : List (Bool × Nat)) : Bytes :=
  let w := if c = 6 then 6 else 4
  let n := codes.foldr (fun x a => (if x.2 = 0 then 0 else b2n x.1 * 2 ^ (w - 1)) + x.2 + a * 2 ^ w) 0
  toLe (blockBytes c - 2) n

/-- Scale header (E, F) of a Riffle block for a largest magnitude (R103), with flags for case 3
and case 4. -/
def riffleScale (c : Nat) (n d : Nat) : Nat × Nat × Bool × Bool :=
  let (sn, sd) := if c = 6 then (n * 8, d * 15) else (n, d)
  let k := ilog2 sn sd
  let (a, b) := scale2 sn sd (-k)
  let f0 := cdiv ((a - b) * 256) b
  let e0 : Int := k + 127
  let (e1, f1) := if f0 = 256 then (e0 + 1, 0) else (e0, f0)
  if e1 < 1 then (1, 0, true, false)
  else if e1 > 254 then (254, 255, false, true)
  else (e1.toNat, f1, false, false)

/-- Encode 64 values as one block (R100, R103 to R105); `i` is the index of its first element. -/
def encodeBlock (c : Nat) (r : Rnd) (i : Nat) (vs : List Val) : Conv :=
  if vs.any (fun v => !v.isFin) then
    if c = 5 then ⟨toLe 4 0x7FC00000 ++ zeros 64, 0, 1, 0⟩
    else ⟨[0xFF#8, 0xFF#8] ++ zeros (blockBytes c - 2), 0, 1, 0⟩
  else
    let (n, d) := amax vs
    if n = 0 then ⟨zeros (blockBytes c), 0, 0, 0⟩
    else
      let (g, u) := gridOf c
      let idx := (List.range 64).zip vs
      if c = 5 then
        let sc := f32Ceil n (d * 127)
        let (sn, sd) := (decodeElem (elemFmt 0) sc).mag
        let q := idx.map (fun x =>
          let (vn, vd) := x.2.mag
          let m := gridCode g u (r.draw (i + x.1)) (vn * sd) (vd * sn)
          BitVec.ofNat 8 (if x.2.isNeg then 256 - m else m))
        ⟨toLe 4 sc ++ q, 0, 0, 0⟩
      else
        let (e, f, low, high) := riffleScale c n d
        let (sn, sd) := scale2 (256 + f) 256 ((e : Int) - 127)
        let top := lget 0 g (g.length - 1)
        let codes := idx.map (fun x =>
          let (vn, vd) := x.2.mag
          (x.2.isNeg, gridCode g u (r.draw (i + x.1)) (vn * sd) (vd * sn)))
        let clipped := (idx.filter (fun x =>
          let (vn, vd) := x.2.mag
          decide (vn * sd * u > top * (vd * sn)))).length
        ⟨[BitVec.ofNat 8 f, BitVec.ofNat 8 e] ++ packCodes c codes, if high then clipped else 0, 0, b2n low⟩

/-- The values of `n` elements stored in a format (R92 to R97). -/
def decodeArray (c n : Nat) (b : Bytes) : List Val :=
  if isBlock c then
    ((List.range (cdiv n 64)).flatMap (fun k => decodeBlock c (slice b (k * blockBytes c) (blockBytes c)))).take n
  else
    let w := (elemFmt c).bytes
    (List.range n).map (fun k => decodeElem (elemFmt c) (fld b (k * w) w))

/-- Split a list into pieces of 64, the last filled up with zeros (R93). -/
def blocks64 (k : Nat) (vs : List Val) : List (List Val) :=
  match k with
  | 0 => []
  | n + 1 => (vs.take 64 ++ List.replicate (64 - (vs.take 64).length) Val.zero) :: blocks64 n (vs.drop 64)

/-- Encode values into a format; `i` is the element index of the first (R98, R106, R108). -/
def encodeArray (c : Nat) (r : Rnd) (i : Nat) (vs : List Val) : Conv :=
  if isBlock c then
    let bl := blocks64 (cdiv vs.length 64) vs
    ((List.range bl.length).zip bl).foldl
      (fun a x => a.append (encodeBlock c r (i + 64 * x.1) x.2)) Conv.empty
  else
    ((List.range vs.length).zip vs).foldl (fun a x =>
      let (k, s) := encodeElem (elemFmt c) (r.draw (i + x.1)) x.2
      a.append ⟨toLe (elemFmt c).bytes k, b2n s, 0, 0⟩) Conv.empty

/-- Convert `n` elements from one format to another; equal codes copy the bits (R98). -/
def convertArray (src dst n : Nat) (r : Rnd) (i : Nat) (b : Bytes) : Conv :=
  if src = dst then ⟨slice b 0 (fmtBytes src n), 0, 0, 0⟩
  else encodeArray dst r i (decodeArray src n b)

/-! ### The Confluence grid (R116 to R120) -/

/-- An element on the grid of anchor `a`: the integer and whether it saturated; `none` when the
element is not finite. -/
def quantise (a : Int) (v : Val) : Option (Int × Bool) :=
  match v with
  | .fin neg n d =>
    let (x, y) := scale2 n d (96 - a)
    let q := x / y
    let m := if q ≥ 2 ^ 112 then 2 ^ 112 - 1 else q
    let (l, h) := scale2 n d (-(a + 16))
    let sat := decide (l ≥ h)
    let m := if sat then 2 ^ 112 - 1 else m
    some (if neg then -(m : Int) else (m : Int), sat)
  | _ => none

/-- The exact value of an accumulator (R120). -/
def accVal (a : Int) (s : Int) : Val :=
  let (n, d) := scale2 s.natAbs 1 (a - 96)
  .fin (decide (s < 0)) n d

/-! ### Scalars of a stream (R157) -/

/-- 1 − β, rounded once. -/
def oneMinus (b : Word32) : Word32 := toF32 ((Val.fin false 1 1).add (f32 b).neg)

def Val.pow (v : Val) (k : Nat) : Val :=
  match v with
  | .nan => .nan
  | .inf s => if k = 0 then .fin false 1 1 else .inf (s && k % 2 == 1)
  | .fin s n d => .fin (s && k % 2 == 1) (n ^ k) (d ^ k)

/-- 1 / (1 − β^s), rounded once; +∞ when 1 − β^s is exactly 0. -/
def biasScale (b : Word32) (s : Nat) : Word32 :=
  let den := (Val.fin false 1 1).add ((f32 b).pow s).neg
  toF32 ((Val.fin false 1 1).div den)

end Sys2Proof.Machine
end

