-- ==== Sys2Proof/Machine/Ecc.lean ====
section
/-! DEFINITION. The code of a DRAM word (R327, R328): RS(36,32) over GF(2^8) with 0x11D. -/
namespace Sys2Proof.Machine

open Sys2Proof

/-- Kinds of a stored word (R327). -/
inductive WordKind where
  | clean | marked | poisoned
deriving DecidableEq, Repr

/-- Multiplication by α = 2 in GF(2^8) generated by 0x11D. -/
def gfDouble (a : Nat) : Nat := if a ≥ 128 then (2 * a - 256) ^^^ 0x1D else 2 * a

/-- Multiplication in GF(2^8), by the low `n` bits of `b`. -/
def gfMulN (n a b : Nat) : Nat :=
  match n with
  | 0 => 0
  | k + 1 => (if b % 2 = 1 then a else 0) ^^^ gfMulN k (gfDouble a) (b / 2)

def gfMul (a b : Nat) : Nat := gfMulN 8 a b

/-- α^k. -/
def gfPow (k : Nat) : Nat :=
  match k with
  | 0 => 1
  | n + 1 => gfDouble (gfPow n)

/-- The value of a word's polynomial at `x`; byte i is the coefficient of x^(35 - i). -/
def gfEval (x : Nat) (bs : Bytes) : Nat := bs.foldl (fun a b => gfMul a x ^^^ b.toNat) 0

/-- The syndromes S_0 to S_3 of 36 bytes. -/
def syndromes (bs : Bytes) : List Nat := (List.range 4).map (fun j => gfEval (gfPow j) bs)

/-- The syndrome pattern of a kind. -/
def patternOf (k : WordKind) : List Nat :=
  match k with
  | .clean => [0, 0, 0, 0]
  | .marked => [0, 0, 0, 1]
  | .poisoned => [0, 0, 0, 2]

/-- The check polynomial of pattern (0, 0, 0, p): p times (x+1)(x+2)(x+4), scaled so that its value
at α^3 is p. -/
def s3Delta (p : Nat) : List Nat := [0xA2, 0x49, 0x92, 0x79].map (gfMul p)

/-- Remainder of the data polynomial times x^4 by the generator (x+1)(x+2)(x+4)(x+8). -/
def rsRem (data : Bytes) : List Nat :=
  data.foldl (fun r b =>
    match r with
    | [a, b1, c, d] =>
      let f := a ^^^ b.toNat
      [b1 ^^^ gfMul f 0x0F, c ^^^ gfMul f 0x36, d ^^^ gfMul f 0x78, gfMul f 0x40]
    | _ => r) [0, 0, 0, 0]

/-- The four check bytes of 32 data bytes for a kind (R327). -/
def rsCheck (k : WordKind) (data : Bytes) : Word32 :=
  let d := match k with
    | .clean => [0, 0, 0, 0]
    | .marked => s3Delta 1
    | .poisoned => s3Delta 2
  BitVec.ofNat 32 (leNat ((List.zipWith (· ^^^ ·) (rsRem data) d).map (BitVec.ofNat 8)))

/-- A word as read: its kind, its data bytes corrected, and whether a byte was corrected; `none`
when the word is uncorrectable (R328). -/
structure Decoded where
  kind      : WordKind
  data      : Bytes
  corrected : Bool
deriving DecidableEq, Repr

/-- The single-byte error, if any, whose syndromes are `e`: place and value. -/
def oneByte (e : List Nat) : Option (Nat × Nat) :=
  match e with
  | [e0, e1, e2, e3] =>
    if e0 = 0 then none else
    (List.range 36).findSome? (fun i =>
      let x := gfPow (35 - i)
      if gfMul e0 x = e1 ∧ gfMul e1 x = e2 ∧ gfMul e2 x = e3 then some (i, e0) else none)
  | _ => none

/-- Decode 32 data bytes with their stored check bytes (R328). -/
def rsDecode (data : Bytes) (chk : Word32) : Option Decoded :=
  let r := data ++ toLe 4 chk.toNat
  let s := syndromes r
  let kinds := [WordKind.clean, .marked, .poisoned]
  match kinds.find? (fun k => s == patternOf k) with
  | some k => some ⟨k, data, false⟩
  | none =>
    kinds.findSome? (fun k =>
      match oneByte (List.zipWith (· ^^^ ·) s (patternOf k)) with
      | some (i, v) =>
        let fixed := patch r i [BitVec.ofNat 8 ((lget 0#8 r i).toNat ^^^ v)]
        some ⟨k, fixed.take 32, true⟩
      | none => none)

end Sys2Proof.Machine
end

