-- ==== Sys2Proof/Machine/Dram.lean ====
section
/-! DEFINITION. Pool memory: the bytes of DRAM in one canonical form, reads and writes with the
code and kinds of R327 to R329, the valid bitmap (R48 to R50), zero-fills, step stamps and commit
cycle numbers in the metadata areas (R47), and the dirty blocks of mirrored granules (R360). -/
namespace Sys2Proof.Machine

open Sys2Proof

/-- The form of the memory: addresses strictly rising, no byte equal to zero (what an unlisted
address reads as, assumption 3). -/
def Memory.wf (m : List Host.Cell) : Bool :=
  match m with
  | [] => true
  | [c] => c.2 != 0#8
  | c :: d :: r => c.2 != 0#8 && decide (c.1 < d.1) && Memory.wf (d :: r)

/-- The byte at an address. -/
def memByte (m : List Host.Cell) (a : Nat) : Byte :=
  match m.find? (fun c => c.1 == a) with
  | some c => c.2
  | none => 0#8

/-- `n` bytes from `a` on of a memory whose first address is not below `a`. -/
def memTake (m : List Host.Cell) (a n : Nat) : Bytes :=
  match n with
  | 0 => []
  | k + 1 =>
    match m with
    | [] => 0#8 :: memTake [] (a + 1) k
    | c :: r => if c.1 = a then c.2 :: memTake r (a + 1) k else 0#8 :: memTake (c :: r) (a + 1) k

def memBytes (m : List Host.Cell) (a n : Nat) : Bytes :=
  memTake (m.dropWhile (fun c => decide (c.1 < a))) a n

/-- The cells of a byte string at `a`: zero bytes are not listed. -/
def memCells (a : Nat) : Bytes → List Host.Cell
  | [] => []
  | b :: r => if b = 0#8 then memCells (a + 1) r else (a, b) :: memCells (a + 1) r

/-- Write a byte string at `a`. -/
def memWrite (m : List Host.Cell) (a : Nat) (bs : Bytes) : List Host.Cell :=
  m.filter (fun c => decide (c.1 < a)) ++ memCells a bs ++
  m.filter (fun c => decide (a + bs.length ≤ c.1))

/-- Write zeros to `n` bytes at `a`. -/
def memClear (m : List Host.Cell) (a n : Nat) : List Host.Cell :=
  m.filter (fun c => decide (c.1 < a ∨ a + n ≤ c.1))

/-! ### Words and their kinds -/

/-- The word (32 bytes, index PA >> 5) as the decoder sees it (R328). -/
def Dram.word (d : Dram) (w : Nat) : Option Decoded :=
  let data := memBytes d.mem (32 * w) 32
  match afind d.check w with
  | none => some ⟨.clean, data, false⟩
  | some c => rsDecode data c

/-- Store a word's data in a kind. Clean words are not listed in the check table. -/
def Dram.setWord (d : Dram) (w : Nat) (data : Bytes) (k : WordKind) : Dram :=
  { d with mem := memWrite d.mem (32 * w) data,
           check := match k with
             | .clean => tdel d.check w
             | k => tput d.check w (rsCheck k data) }

/-- The listed words that a range touches. -/
def Dram.listed (d : Dram) (pa n : Nat) : List Nat :=
  if n = 0 then [] else
  (d.check.filter (fun e => decide (pa / 32 ≤ e.1 ∧ e.1 ≤ (pa + n - 1) / 32))).map (·.1)

/-- The granule's DRAM is read: its valid bit is 1, or it lies in a reserved range (R48). -/
def State.isValid (s : State) (g : Nat) : Bool :=
  s.dram.valid.contains g || outOfPool (g * granuleBytes) granuleBytes

/-- What a read finds. -/
structure RdRes where
  data   : Bytes
  poison : Bool
  lost   : Bool
deriving DecidableEq, Repr

def State.chanStat (s : State) (pa : Nat) (f : ChanStats → ChanStats) : State :=
  s.modChan (packageChannel pa) (fun c => { c with stats := f c.stats })

/-- A word is decoded: a corrected one counts at its channel and for a VI, an uncorrectable one at its channel (R328, R339,
R340). -/
def State.countWord (s : State) (vi : Option Nat) (w : Nat) : State :=
  match s.dram.word w with
  | some d =>
    s.when d.corrected (fun s =>
      let s := s.chanStat (32 * w) (fun c => { c with eccCorrected := c.eccCorrected + 1 })
      match vi with | some v => s.count v 0x3268 1 | none => s)
  | none => s.chanStat (32 * w) (fun c => { c with eccUncorrected := c.eccUncorrected + 1 })

/-- A read meets a word: it is counted, and an uncorrectable one is rewritten with its data as read and the poisoned
pattern (R329). -/
def State.noteWord (s : State) (vi : Option Nat) (w : Nat) : State :=
  let s := s.countWord vi w
  if (s.dram.word w).isSome then s
  else { s with dram := s.dram.setWord w (memBytes s.dram.mem (32 * w) 32) .poisoned }

/-- The read of one listed word: corrected, marked, poisoned or uncorrectable (R328, R329). -/
def readListed (vi : Option Nat) (pa : Nat) (acc : RdRes × State) (w : Nat) : RdRes × State :=
  let (r, s) := acc
  (match s.dram.word w with
    | some d =>
      let off := 32 * w - pa
      let skip := pa - 32 * w
      let fixed := (d.data.drop skip).take (r.data.length - off)
      { data := patch r.data off fixed, poison := r.poison || d.kind == .poisoned, lost := r.lost || d.kind == .marked }
    | none => { r with poison := true }, s.noteWord vi w)

/-- Read bytes that lie in one granule. -/
def readOne (vi : Option Nat) (pa n : Nat) (s : State) : RdRes × State :=
  if s.isValid (granuleOf pa) then
    (s.dram.listed pa n).foldl (readListed vi pa)
      (⟨memBytes s.dram.mem pa n, false, false⟩, s)
  else (⟨zeros n, false, false⟩, s)

/-- The pieces of a range that lie in one granule each, as (PA, length); `k` bounds their number. -/
def pieces (k pa n : Nat) : List (Nat × Nat) :=
  match k with
  | 0 => []
  | k + 1 =>
    if n = 0 then [] else
    let m := min n (granuleBytes - pa % granuleBytes)
    (pa, m) :: pieces k (pa + m) (n - m)

def piecesOf (pa n : Nat) : List (Nat × Nat) := pieces (n / granuleBytes + 2) pa n

/-- A DRAM read of pool memory (R48, R328, R329), counted for a VI (R340). -/
def State.read (s : State) (vi : Option Nat) (pa n : Nat) : RdRes × State :=
  (piecesOf pa n).foldl (fun acc p =>
    let (r, s) := readOne vi p.1 p.2 acc.2
    (⟨acc.1.data ++ r.data, acc.1.poison || r.poison, acc.1.lost || r.lost⟩, s))
    (⟨[], false, false⟩, s)

/-- What a write finds: a poisoned word it covers in part; a marked line it covers in part. -/
structure WrRes where
  poison : Bool
  lost   : Bool
deriving DecidableEq, Repr

/-- The effect of a write on one listed word of the old memory `d` (R85, R329). -/
def writeListed (d : Dram) (pa : Nat) (bs : Bytes) (acc : WrRes × Dram) (w : Nat) :
    WrRes × Dram :=
  let (r, new) := acc
  let endA := pa + bs.length
  let fullWord := decide (pa ≤ 32 * w ∧ 32 * w + 32 ≤ endA)
  let line := w / 2 * 64
  let fullLine := decide (pa ≤ line ∧ line + 64 ≤ endA)
  let written := memBytes new.mem (32 * w) 32
  let old := memBytes d.mem (32 * w) 32
  match d.word w with
  | some x =>
    match x.kind with
    | .poisoned =>
      if fullWord then (r, new.setWord w written .clean)
      else ({ r with poison := true },
            { new with mem := memWrite new.mem (32 * w) old,
                       check := tput new.check w (tget 0 d.check w) })
    | k =>
      let merged :=
        if fullWord then written
        else patch x.data (pa - 32 * w) (slice bs (32 * w - pa) (min (32 * w + 32) endA - max pa (32 * w)))
      if k == .marked && !fullLine then ({ r with lost := true }, new.setWord w merged .marked)
      else (r, new.setWord w merged .clean)
  | none =>
    if fullWord then (r, new.setWord w written .clean)
    else ({ r with poison := true }, new.setWord w old .poisoned)

/-- A write to memory, word by word (R329). -/
def Dram.write (d : Dram) (pa : Nat) (bs : Bytes) : WrRes × Dram :=
  (d.listed pa bs.length).foldl (writeListed d pa bs)
    (⟨false, false⟩, { d with mem := memWrite d.mem pa bs })

/-- A write of DRAM. A word that it covers in part is read and merged, and counts as any read (R311, R328, R339). -/
def State.dramWrite (s : State) (pa : Nat) (bs : Bytes) : WrRes × State :=
  let inPart (w : Nat) : Bool := !decide (pa ≤ 32 * w ∧ 32 * w + 32 ≤ pa + bs.length)
  let t := ((s.dram.listed pa bs.length).filter inPart).foldl (fun s w => s.countWord none w) s
  let (r, d) := s.dram.write pa bs
  (r, { t with dram := d })

/-! ### Extents and dirty blocks -/

/-- The extent that holds a granule: one that is not FREE (R51, R52). -/
def State.extentOf (s : State) (g : Nat) : Option (Nat × Ext) :=
  s.exts.find? (fun e => e.2.state != .free && decide (e.2.first ≤ g ∧ g < e.2.first + e.2.count))

def State.mirroredAt (s : State) (g : Nat) : Bool :=
  match s.extentOf g with
  | some e => e.2.mirrored
  | none => false

def State.coherentAt (s : State) (g : Nat) : Bool :=
  match s.extentOf g with
  | some e => e.2.coherent
  | none => false

/-- The 256-byte blocks of a granule that a range touches. -/
def blocksIn (g pa n : Nat) : List Nat :=
  if n = 0 then [] else
  let lo := max pa (g * granuleBytes)
  let hi := min (pa + n) ((g + 1) * granuleBytes)
  if lo < hi then span (lo % granuleBytes / 256) ((hi - 1) % granuleBytes / 256 + 1 - lo % granuleBytes / 256)
  else []

/-- Record dirty blocks of a granule in its region's table (R360). -/
def State.dirtyBlocks (s : State) (g : Nat) (bl : List Nat) : State :=
  if s.tracks && s.mirroredAt g then
    s.modRegion (regionOfGranule g) (fun r =>
      { r with dirty := tput r.dirty g (bl.foldl insSet (tget [] r.dirty g)) })
  else s

def State.touch (s : State) (pa n : Nat) : State :=
  (piecesOf pa n).foldl (fun s p => s.dirtyBlocks (granuleOf p.1) (blocksIn (granuleOf p.1) p.1 p.2)) s

/-! ### The valid bitmap -/

/-- Set or clear the valid bit of a granule in the region's SRAM and in its backing (R48, R49). The byte of the backing is
that of the SRAM; in a word of the backing that cannot be read the write leaves the word poisoned (R329). -/
def State.setValid (s : State) (g : Nat) (b : Bool) : State :=
  let valid := if b then insSet s.dram.valid g else s.dram.valid.filter (· != g)
  let first := g - g % stackGranules % 8
  let new := (List.range 8).foldl (fun n i => n + b2n (valid.contains (first + i)) * 2 ^ i) 0
  let s := (s.dramWrite (backingAddr g) [BitVec.ofNat 8 new]).2
  { s with dram := { s.dram with valid := valid } }

/-- Zero-fill a granule and set its valid bit (R49). -/
def State.fillGranule (s : State) (g : Nat) : State :=
  let a := g * granuleBytes
  let s := { s with dram := { s.dram with
      mem := memClear s.dram.mem a granuleBytes,
      check := s.dram.check.filter (fun e => decide (e.1 < a / 32 ∨ (a + granuleBytes) / 32 ≤ e.1)) } }
  (s.setValid g true).dirtyBlocks g (List.range 256)

/-- Zero-fill without tracking for the pair (R437). -/
def State.fillQuiet (s : State) (g : Nat) : State :=
  let a := g * granuleBytes
  { s with dram := { s.dram with
      mem := memClear s.dram.mem a granuleBytes,
      check := s.dram.check.filter (fun e => decide (e.1 < a / 32 ∨ (a + granuleBytes) / 32 ≤ e.1)) } }.setValid g true

/-- A write that is never tracked for the pair: workspaces and LAMB hold areas (R136, R437). -/
def State.storeQuiet (s : State) (pa : Nat) (bs : Bytes) : State :=
  let s := (piecesOf pa bs.length).foldl (fun s p =>
    if s.isValid (granuleOf p.1) then s else s.fillQuiet (granuleOf p.1)) s
  (s.dramWrite pa bs).2

/-- A write of pool memory, to granules that may be invalid: those are zero-filled first (R49). -/
def State.write (s : State) (pa : Nat) (bs : Bytes) : WrRes × State :=
  let s := (piecesOf pa bs.length).foldl (fun s p =>
    if s.isValid (granuleOf p.1) then s else s.fillGranule (granuleOf p.1)) s
  let (r, s) := s.dramWrite pa bs
  (r, s.touch pa bs.length)

/-- A write whose result needs no answer. -/
def State.store (s : State) (pa : Nat) (bs : Bytes) : State := (s.write pa bs).2

/-- Write the lost-dirty mark of a line: the data bits stay, poison stays (R84, R329). -/
def State.markLine (s : State) (pa : Nat) : State :=
  let g := granuleOf pa
  let s := if s.isValid g then s else s.fillGranule g
  let s := [pa / 64 * 2, pa / 64 * 2 + 1].foldl (fun s w =>
    let s := if (afind s.dram.check w).isSome then s.countWord none w else s
    match s.dram.word w with
    | some x => if x.kind == .poisoned then s
                else { s with dram := s.dram.setWord w x.data .marked }
    | none => { s with dram := s.dram.setWord w (memBytes s.dram.mem (32 * w) 32) .poisoned }) s
  s.touch (pa / 64 * 64) 64

/-! ### Metadata of granules -/

/-- The word holds data that can be read. -/
def Dram.readable (d : Dram) (w : Nat) : Bool :=
  match d.word w with
  | some x => x.kind != .poisoned
  | none => false

/-- The step stamp of a granule; `none` when its word is uncorrectable or poisoned, until the stamp is written
(R330). -/
def State.stamp (s : State) (g : Nat) : Option Nat :=
  match s.dram.word (stampAddr g / 32) with
  | some x => if x.kind == .poisoned || s.dram.noStamp.contains g then none else some (fld x.data (stampAddr g % 32) 2)
  | none => none

/-- The stamp as a read of the metadata finds it: the word is decoded, and counts (R328, R339). -/
def State.readStamp (s : State) (g : Nat) : Option Nat × State :=
  let w := stampAddr g / 32
  (s.stamp g, if (afind s.dram.check w).isSome then s.noteWord none w else s)

/-- Write a stamp (R153, R154). Into a word that cannot be read it goes all the same (R330), and the stamps of
the 15 other granules of the word stay lost until each is written. -/
def State.setStamp (s : State) (g : Nat) (v : Nat) : State :=
  let w := stampAddr g / 32
  if s.dram.readable w then
    let s := (s.dramWrite (stampAddr g) (toLe 2 v)).2
    { s with dram := { s.dram with noStamp := s.dram.noStamp.filter (· != g) } }
  else
    let s := s.countWord none w
    let d := s.dram.setWord w (patch (memBytes s.dram.mem (32 * w) 32) (stampAddr g % 32) (toLe 2 v)) .clean
    { s with dram := { d with noStamp := ((span (g / 16 * 16) 16).foldl insSet d.noStamp).filter (· != g) } }

/-- Clear a range of a metadata table; a word that it covers in part and that cannot be read stays so. -/
def Dram.zeroRange (d : Dram) (a n : Nat) : Dram :=
  let d := (d.listed a n).foldl (fun (d : Dram) w =>
    let lo := max a (32 * w)
    (d.write lo (zeros (min (a + n) (32 * w + 32) - lo))).2) d
  { d with mem := (d.listed a n).foldl (fun m w => memWrite m (32 * w) (memBytes d.mem (32 * w) 32)) (memClear d.mem a n) }

/-- The commit cycle number of a granule; an uncorrectable word reads as zero (R372). -/
def State.cycleNo (s : State) (g : Nat) : Nat :=
  match s.dram.word (cycleAddr g / 32) with
  | some x => if x.kind == .poisoned then 0 else fld x.data (cycleAddr g % 32) 4
  | none => 0

def State.setCycleNo (s : State) (g : Nat) (v : Nat) : State :=
  (s.dramWrite (cycleAddr g) (toLe 4 v)).2

/-- Clear the valid bits, stamps and commit cycle numbers of a run of granules (step 6 of R56). -/
def State.clearGranules (s : State) (first count : Nat) : State :=
  let inRun (g : Nat) : Bool := decide (first ≤ g ∧ g < first + count)
  let gone := s.dram.valid.filter inRun
  let s := gone.foldl (fun s g => s.setValid g false) s
  let runs := (List.range 12).filterMap (fun r =>
    let lo := max first (r * stackGranules)
    let hi := min (first + count) ((r + 1) * stackGranules)
    if lo < hi then some (lo, hi - lo) else none)
  let s := runs.foldl (fun s x =>
    let a := stampAddr x.1
    let lost := (s.dram.listed a (2 * x.2)).filter (fun w => !s.dram.readable w)
    let s := lost.foldl (fun s w => s.setStamp (x.1 + (max a (32 * w) - a) / 2) 0) s
    let edge (a n : Nat) : List Nat := (s.dram.listed a n).filter (fun w => !decide (a ≤ 32 * w ∧ 32 * w + 32 ≤ a + n))
    let t := (edge a (2 * x.2) ++ edge (cycleAddr x.1) (4 * x.2)).foldl (fun s w => s.countWord none w) s
    { t with dram := (s.dram.zeroRange a (2 * x.2)).zeroRange (cycleAddr x.1) (4 * x.2) }) s
  { s with dram := { s.dram with noStamp := s.dram.noStamp.filter (fun g => !inRun g) } }

/-- Add to the `MEM_POISON` counter of a VI (R340). -/
def State.countPoison (s : State) (vi : Nat) (p : Bool) : State := if p then s.count vi 0x3270 1 else s

end Sys2Proof.Machine
end

