-- ==== Sys2Proof/Machine/Operands.lean ====
section
/-! DEFINITION. Every operand form of the commands: the byte layouts of headers, operands,
descriptors and table entries (R35, R39, R51, R121, R146 to R148, R260, R296, R297, R386, R391),
of bypass words and link records (R229, R243), and of fabric addresses (R33). -/
namespace Sys2Proof.Machine

open Sys2Proof

/-! ### Fabric addresses (R33) -/

def addrNode (a : Word64) : Nat := bitf a.toNat 63 52
def addrWindow (a : Word64) : Nat := bitf a.toNat 51 42
def addrOffset (a : Word64) : Nat := bitf a.toNat 41 0
def mkAddr (node window off : Nat) : Word64 :=
  BitVec.ofNat 64 (node * 2 ^ 52 + window * 2 ^ 42 + off % 2 ^ 42)

/-! ### Operands of commands (R147) -/

def Operand.absent : Operand := ⟨0, 0, 0⟩
def Operand.present (o : Operand) : Bool := o.len != 0

/-- An operand entry; `none` when a reserved bit is not zero. -/
def parseOperand (b : Bytes) (off : Nat) : Option Operand :=
  let w := fld b off 2
  let o := fld b (off + 2) 6
  let l := fld b (off + 8) 8
  if w ≥ 2 ^ 10 ∨ o ≥ 2 ^ 42 ∨ l ≥ 2 ^ 43 then none else some ⟨w, o, l⟩

def encodeOperand (o : Operand) : Bytes := toLe 2 o.window ++ toLe 6 o.off ++ toLe 8 o.len

/-! ### Windows (R35) -/

/-- A window descriptor; `none` when KIND or PAGE_SIZE is 3, a reserved bit is set, or a value is
out of its range. The class is not part of it. -/
def parseWin (b : Bytes) : Option Win :=
  let f := fld b 0 1
  let kind := bitf f 1 0
  let ps := fld b 1 1
  let vi := fld b 2 2
  let lim := fld b 8 8
  let pa := fld b 0x10 8
  let seq := fld b 0x18 4
  let ml := fld b 0x1C 2
  if kind = 3 ∨ f ≥ 32 ∨ (kind ≠ 0 ∧ (ps ≥ 3 ∧ kind = 2)) ∨ ps ≥ 4 ∨ vi ≥ 1024 ∨ fld b 6 2 ≠ 0 ∨
     fld b 0x1E 2 ≠ 0 ∨ lim > 0x40000000000 ∨ lim % granuleBytes ≠ 0 ∨
     (kind = 1 ∧ (pa % granuleBytes ≠ 0 ∨ pa ≥ 2 ^ 40)) ∨ (kind = 2 ∧ ml > 10000) then none
  else some
    { kind := kind, writeEn := tbit f 2, atomicEn := tbit f 3, collEn := tbit f 4, pageSize := ps,
      ownerVi := vi, extentId := fld b 4 2, limit := lim, basePa := pa,
      tblSeq := if kind = 2 then BitVec.ofNat 32 seq else 0, missLimit := if kind = 2 then ml else 0,
      cls := 3 }

def encodeWin (w : Win) : Bytes :=
  toLe 1 (w.kind + 4 * b2n w.writeEn + 8 * b2n w.atomicEn + 16 * b2n w.collEn) ++ toLe 1 w.pageSize ++
  toLe 2 w.ownerVi ++ toLe 2 w.extentId ++ toLe 2 0 ++ toLe 8 w.limit ++ toLe 8 w.basePa ++
  toLe 4 w.tblSeq.toNat ++ toLe 2 w.missLimit ++ toLe 2 0

/-- Shift of a page (R35): 64 KiB, 2 MiB, 1 GiB. -/
def pageShift (ps : Nat) : Nat := if ps = 0 then 16 else if ps = 1 then 21 else 30

/-! ### Mirror entries (R39) -/

/-- A mirror entry; the flag is VALID. `none` when a reserved bit is set or the run is out of its
group. -/
def parseRun (b : Bytes) : Option (Bool × Run) :=
  let h := fld b 0 2
  let st := fld b 2 1
  let ln := fld b 3 1
  if bitf h 14 12 ≠ 0 ∨ st ≥ 64 ∨ ln = 0 ∨ ln ≥ 128 ∨ st + ln > 64 ∨ fld b 0x0B 1 ≠ 0 ∨
     fld b 0x0E 2 ≠ 0 then none
  else some (tbit h 15, ⟨bitf h 9 0, bitf h 11 10, st, ln, fld b 4 4, fld b 8 3, fld b 0xC 2⟩)

/-- A mirror entry as R39 lays it out, valid. -/
def encodeRun (r : Run) : Bytes :=
  toLe 2 (r.window % 1024 + 1024 * (r.size % 4) + 2 ^ 15) ++ toLe 1 r.start ++ toLe 1 r.len ++ toLe 4 r.group ++
  toLe 3 r.paPage ++ toLe 1 0 ++ toLe 2 r.extent ++ toLe 2 0

/-! ### Extents (R51) -/

def ExtState.code (x : ExtState) : Nat :=
  match x with
  | .free => 0 | .active => 1 | .revoking => 2 | .reclaiming => 3

def encodeExt (e : Ext) : Bytes :=
  toLe 4 e.first ++ toLe 4 e.count ++ toLe 2 e.ownerVi ++
  toLe 2 (e.state.code + 4 * b2n e.coherent + 8 * b2n e.mirrored) ++ toLe 4 e.generation.toNat

def parseExt (b : Bytes) : Ext :=
  let s := fld b 0xA 2
  { first := fld b 0 4 % 2 ^ 24, count := fld b 4 4 % 2 ^ 24, ownerVi := fld b 8 2 % 1024,
    state := match s % 4 with | 0 => .free | 1 => .active | 2 => .revoking | _ => .reclaiming,
    coherent := tbit s 2, mirrored := tbit s 3, generation := BitVec.ofNat 32 (fld b 0xC 4) }

/-! ### Node entries (R260) -/

/-- A node entry; `none` when a value is outside its field's range. -/
def parseNode (b : Bytes) : Option NodeEnt :=
  let f := fld b 8 1
  let g := bitf f 2 1
  let up := fld b 9 1
  let w := fld b 0xA 2
  let cw := fld b 0xC 2
  if f ≥ 16 ∨ g = 3 ∨ up ≥ 2 ^ (2 ^ g) ∨ w < 4 ∨ w > 1024 ∨ (cw ≠ 0 ∧ (cw < 8 ∨ cw > 256)) ∨
     fld b 0xE 2 ≠ 0 then none
  else some ⟨BitVec.ofNat 64 (fld b 0 8), tbit f 0, g, tbit f 3, up, w, cw⟩

def encodeNode (n : NodeEnt) : Bytes :=
  toLe 8 n.portMask.toNat ++ toLe 1 (b2n n.valid + 2 * n.groups + 8 * b2n n.colSrc) ++ toLe 1 n.grpUp ++
  toLe 2 n.window ++ toLe 2 n.colWindow ++ toLe 2 0

/-! ### Scheduling entries (R297) -/

def parseViSched (b : Bytes) : Option ViSched :=
  let r := fld b 0 2
  let d := fld b 2 2
  let w := fld b 4 1
  let c := fld b 5 1
  if r > 8192 ∨ d = 0 ∨ d > 4096 ∨ w = 0 ∨ c ≥ 8 ∨ fld b 6 2 ≠ 0 then none else some ⟨r, d, w, c⟩

def encodeViSched (v : ViSched) : Bytes :=
  toLe 2 v.rate ++ toLe 2 v.depth ++ toLe 1 v.weight ++ toLe 1 v.classMin ++ toLe 2 0

/-! ### The collective descriptor (R121, R146, R148) -/

def parseGather (b : Bytes) (off : Nat) : Option GatherEnt :=
  let x := fld b (off + 8) 1
  let y := fld b (off + 9) 1
  match parseOperand b (off + 0x10) with
  | none => none
  | some r =>
    if y ≥ 4 ∨ fld b (off + 0xA) 6 ≠ 0 then none
    else some ⟨BitVec.ofNat 64 (fld b off 8), bitf x 3 0, bitf x 5 4, tbit x 6, tbit x 7, y, r⟩

/-- All of a list, or nothing. -/
def allSome {α : Type} (l : List (Option α)) : Option (List α) :=
  l.foldr (fun x a => match x, a with | some v, some r => some (v :: r) | _, _ => none) (some [])

/-- The descriptor of 592 bytes; `none` when a reserved field or bit is not zero. -/
def parseDesc (b : Bytes) : Option Desc :=
  let st := fld b 2 1
  let m := fld b 0x11 1
  let f80 := fld b 0x80 1
  let f81 := fld b 0x81 1
  let cs := fld b 0 2
  let nc := fld b 0x12 2
  let sk := fld b 0x14 2
  -- a stream that does not reduce ignores the Confluence block but for SHARD_ELEMS (R121)
  let red := tbit st 0
  let ops := [0x20, 0x30, 0x40, 0x50].map (parseOperand b)
  let ws := (List.range 12).map (fun g => parseOperand b (0x90 + 16 * g))
  let ga := (List.range (min 8 (bitf f81 3 0))).map (fun k => parseGather b (0x150 + 32 * k))
  match allSome ops, allSome ws, allSome ga with
  | some [sop, sel, gr, co], some ws, some ga =>
    if cs ≥ 2 ^ 14 ∨ st ≥ 8 ∨ f80 ≥ 128 ∨ f81 ≥ 16 ∨ fld b 0x84 12 ≠ 0 then none
    else some
      { raw := b, cstream := cs, stages := st, recipe := fld b 3 1,
        step := BitVec.ofNat 32 (fld b 4 4), seed := BitVec.ofNat 64 (fld b 8 8),
        anchor := sext 8 (fld b 0x10 1), prePass := red && tbit m 0, satDiscard := red && tbit m 1,
        nContrib := nc % 2 ^ 13, skew := sk % 2 ^ 13, wsSlots := fld b 0x16 2, elems := fld b 0x18 6,
        stateOp := sop, select := sel, groups := gr, complete := co,
        hp := (List.range 8).map (fun k => BitVec.ofNat 32 (fld b (0x60 + 4 * k) 4)),
        sumFmt := bitf f80 3 0, rnd3 := bitf f80 5 4, momBf16 := tbit f80 6,
        progId := fld b 0x82 2, ws := ws, gather := ga }
  | _, _, _ => none

/-! ### Command header (R386) and answer (R391) -/

/-- The 64-byte header of a command with its OPCODE, as the command buffer holds it. -/
def cmdHeader (opcode : Nat) (c : Cmd) : Bytes :=
  toLe 2 opcode ++ toLe 2 c.flags.toNat ++ toLe 2 c.vi.toNat ++ toLe 2 c.tag.toNat ++
  toLe 4 c.length.toNat ++ toLe 4 c.rsv0c.toNat ++ toLe 8 c.counter.toNat ++ slice c.rsv18 0 16 ++
  slice c.check 0 24

/-- The command that the buffer holds: its OPCODE and fields. -/
def parseCmd (b : Bytes) : Nat × Cmd :=
  (fld b 0 2,
   { flags := BitVec.ofNat 16 (fld b 2 2), vi := BitVec.ofNat 16 (fld b 4 2),
     tag := BitVec.ofNat 16 (fld b 6 2), length := BitVec.ofNat 32 (fld b 8 4),
     rsv0c := BitVec.ofNat 32 (fld b 0xC 4), counter := BitVec.ofNat 64 (fld b 0x10 8),
     rsv18 := slice b 0x18 16, check := slice b 0x28 24,
     body := slice b 0x40 (min 4032 (fld b 8 4)) })

/-- The answer of a command without its keyed check. -/
def answerHeader (opcode status len detail repeated : Nat) (c : Cmd) : Bytes :=
  toLe 2 opcode ++ toLe 2 status ++ toLe 2 c.vi.toNat ++ toLe 2 c.tag.toNat ++ toLe 4 len ++
  toLe 2 detail ++ toLe 2 repeated ++ toLe 8 c.counter.toNat ++ zeros 16

/-! ### Event payloads (R398) -/

def evStream (n : Nat) : Bytes := toLe 2 n
def evTile (n t : Nat) : Bytes := toLe 2 n ++ toLe 2 0 ++ toLe 4 t

/-! ### Register images -/

/-- VI_ID (R381). -/
def State.viId (s : State) (n : Nat) : Nat :=
  s.aon.nodeId % 4096 * 2 ^ 36 + s.pair.index % 2 * 2 ^ 35 + s.pair.state.code * 2 ^ 32 +
  b2n (s.vi n).key.isSome * 2 ^ 23 + b2n (s.leaseRuns n) * 2 ^ 22 +
  (if isPf n then 0 else if isTenant n then 2 else 1) * 2 ^ 20 + complexOf n * 2 ^ 16 + n % 1024

/-- DEV_ID (R382): its version reads 0 until the part is ready (R415). -/
def State.devId (s : State) : Nat :=
  (if s.ready then s.boot.fwVer.toNat else 0) * 2 ^ 32 + 0x1272 * 2 ^ 16 + Config.stepping.toNat

/-- STATUS (R383). -/
def Page.statusReg (p : Page) : Nat :=
  p.lastTag.toNat * 2 ^ 48 + p.lastStatus.toNat * 2 ^ 32 + 8 * b2n p.overrun + 4 * b2n p.done +
  2 * b2n p.taken + b2n p.busy

/-- EQ_CTL (R396). -/
def Page.eqCtl (p : Page) : Nat :=
  p.eqSize * 2 ^ 16 + 4 * b2n p.doneIe + 2 * b2n p.eqIe + b2n p.eqEn

/-- Records in a ring of EQ_SIZE n. -/
def ringSize (n : Nat) : Nat := 2 ^ (6 + n)

/-- The moment at which the body of the flash image has been read (step 4 of R412): the header from 0.2 ms after the end
of power-on reset on, the body from 0.4 ms on at 100 MB/s. -/
def State.bodyRead (s : State) : Nat := s.boot.porAt + us 400 + ns (10 * min (fld s.boot.flash 0x0C 4) 0x1000000)

/-- BOOT_PHASE as it reads (R415): until the boot ROM has started the flash read it is 0x01, and once the body has been
read 0x03. A recovery image is verified within the step that ends it, so 0x05 is not seen (assumption 205). -/
def State.bootPhase (s : State) : Nat :=
  if s.boot.phase = 0x02 then
    (if s.now < s.boot.porAt + us 200 then 0x01 else if s.now < s.bodyRead then 0x02 else 0x03)
  else s.boot.phase

/-- BOOT_STATUS (R415). -/
def State.bootStatus (s : State) (port : Nat) : Nat :=
  s.boot.err * 2 ^ 16 + b2n (s.complex port).rcvReady * 2 ^ 8 + s.bootPhase

/-- CHN_NODE and CHN_STATUS (R422). -/
def State.chnNode (s : State) : Nat :=
  b2n s.aon.nodeValid * 2 ^ 31 + b2n s.aon.pendingId.isSome * 2 ^ 30 + s.aon.nodeId
def State.chnStatus (s : State) : Nat :=
  b2n s.aon.addressed * 2 ^ 31 + b2n s.boot.por * 2 ^ 30 + s.pair.state.code * 2 ^ 27 +
  s.boot.err * 2 ^ 8 + s.boot.phase

end Sys2Proof.Machine
end

