-- ==== Sys2Proof/Machine/Route.lean ====
section
/-! DEFINITION. Where packets go: spraying (R262), sequence numbers and send contexts of what the
part originates (R263 to R265, R272), answers (R255, R257, R263, R281), completions held for a pair
cycle (R362), and the account of a gather write that is answered (R165, R166). -/
namespace Sys2Proof.Machine

open Sys2Proof

/- Class indices of R71. -/
abbrev vcRSP : Nat := 1
abbrev vcSNP : Nat := 2
abbrev vcREQ : Nat := 3
abbrev vcCOL : Nat := 4

/-! ### Spraying -/

/-- A received sluice stop for class `v` is in force on a port (R276). -/
def State.stopped (s : State) (p v : Nat) : Bool := decide (s.now < tget 0 (s.port p).tx.stopUntil v)

/-- Ports through which node `d` is reached and that are ACTIVE (R260, R262). -/
def State.activePorts (s : State) (d : Nat) : List Nat :=
  let e := s.node d
  (List.range 64).filter (fun p => e.valid && tbit e.portMask.toNat p && (s.port p).state == .active)

/-- Ports eligible for a packet of class `v` toward node `d` (R262). -/
def State.eligible (s : State) (v d : Nat) : List Nat :=
  (s.activePorts d).filter (fun p => (s.port p).weight != 0 && !s.stopped p v)

/-- The largest selection count, lowest index on a tie. -/
def largest (c : Tbl Int) : List Nat → Option Nat
  | [] => none
  | p :: r =>
    match largest c r with
    | none => some p
    | some q => if tget 0 c q > tget 0 c p then some q else some p

/-- Choose the port of one packet with the selection state of region `g` (R262). -/
def State.spray (s : State) (g : Nat) (ports : List Nat) : Option Nat × State :=
  let w (p : Nat) : Int := (s.port p).weight
  let c := ports.foldl (fun c p => tset 0 c p (tget 0 c p + w p)) (s.region g).spray
  match largest c ports with
  | none => (none, s)
  | some p =>
    let total := ports.foldl (fun a p => a + w p) 0
    (some p, s.modRegion g (fun r => { r with spray := tset 0 c p (tget 0 c p - total) }))

/-! ### What the part originates -/

/-- Sequence groups of a node. -/
def NodeEnt.groupCount (e : NodeEnt) : Nat := 2 ^ e.groups

/-- The first number from `n` on whose residue names a reachable group (R265). -/
def seqFrom (e : NodeEnt) (k n : Nat) : Option Nat :=
  match k with
  | 0 => none
  | k + 1 => if tbit e.grpUp (n % e.groupCount) then some n else seqFrom e k ((n + 1) % 2 ^ 32)

/-- Bytes of a message on the wire: header and extension of every packet and the payload. -/
def wireBytes (p : Pkt) : Nat := p.payload.length + 64 * (p.msgLast + 1)

/-- Sends of a link die toward a node. -/
def LinkDie.toward (d : LinkDie) (n : Nat) : List Send := d.sends.filter (fun x => x.node == n)

/-- FLOOR toward a node (R265): the lowest unanswered number, or the next one. -/
def LinkDie.floorOf (d : LinkDie) (n next : Nat) : Nat :=
  (d.toward n).foldl (fun f x => if later 32 f x.msg.seq.toNat then x.msg.seq.toNat else f) next

/-- Cut a message into its packets (R259). -/
def packetsOf (p : Pkt) : List Pkt :=
  let n := max 1 (cdiv p.payload.length 4096)
  (List.range n).map (fun i =>
    { p with msgIdx := i, msgLast := n - 1, payload := (p.payload.drop (4096 * i)).take 4096,
             addr := p.addr + BitVec.ofNat 64 (4096 * i) })

/-- What came of an attempt to send. -/
inductive Sent where
  | sent | waits | abandoned
deriving DecidableEq, Repr

/-- Types whose request holds a request context until its answer leaves (R272). -/
def holdsCtx (t : Nat) : Bool := decide (1 ≤ t ∧ t ≤ 4) || t == 8

/-- The link die is out of reset (R251), has its L-clock (R26) and takes the message from its ingress: with no free
request context it takes no REQ or COL message (R272). A message that did not come through the transport needs none. -/
def State.admits (s : State) (p : Pkt) : Bool :=
  let d := s.die p.dpg
  !d.inReset && !s.boot.unlocked.contains (.l p.dpg) && !(d.inbox.contains p && (holdsCtx p.ptype || p.ptype == 9) && decide (d.req.length ≥ 65536))

/-- A message that the transport delivered leaves the ingress buffer of its link die and holds a
request context (R272, R273). -/
def State.takeIn (s : State) (p : Pkt) : State :=
  s.modDie p.dpg (fun d =>
    if d.inbox.contains p then
      let req := if holdsCtx p.ptype then d.req ++ [(p.srcNode, p.ssg, p.seq)] else d.req
      { d with inbox := d.inbox.erase p,
               reqOcc := if 1 ≤ p.ptype ∧ p.ptype ≤ 4 then d.reqOcc - wireBytes p else d.reqOcc,
               colOcc := if p.ptype = 8 ∨ p.ptype = 9 then d.colOcc - wireBytes p else d.colOcc,
               req := req,
               stats := tset 0 d.stats 0x50 (max (tget 0 d.stats 0x50) req.length) }
    else d)

/-- Put a packet whose port is chosen where it queues: snoops at the port, others at the shaper. -/
def State.place (s : State) (o : OutPkt) : State :=
  if o.pkt.ptype = 5 then s.modPort o.port (fun p => { p with snpq := p.snpq ++ [o] }) else s.emit o

/-- The messages toward a node that any link die of the part has still unanswered (R265). -/
def State.toward (s : State) (n : Nat) : List Send := (List.range 4).flatMap (fun l => (s.die l).toward n)

/-- Bytes on the wire of the messages that `f` names. -/
def sentBytes (l : List Send) (f : Send → Bool) : Nat := (l.filter f).foldl (fun a x => a + wireBytes x.msg) 0

/-- The tag after `t`: none comes again before all others, so that a late answer finds no newer context (R269). Tag 0
is no context's. -/
def nextTagAfter (t : Nat) : Nat := if t + 1 < 2 ^ 32 then t + 1 else 1

/-- Number a message that the part originates toward node `n` and send its packets (R263 to R265,
R272, R282). It waits while no port is eligible, no context is free or a window is full; it is abandoned
when no port of the node is ACTIVE or no group is reachable (R281). The windows bound what the part has unanswered,
whichever of its link dies sent it. -/
def State.launch (s : State) (o : OutPkt) (n : Nat) : Sent × State :=
  let v := if o.pkt.ptype = 5 then vcSNP else vcCOL
  let e := s.node n
  if (s.activePorts n).isEmpty || e.grpUp % 2 ^ e.groupCount == 0 then (.abandoned, s) else
  match s.spray o.reg (s.eligible v n) with
  | (none, _) => (.waits, s)
  | (some p, s1) =>
    let l := dieOfPort p
    let d := s.die l
    let start := (tget 0 d.seqs n).toNat
    match seqFrom e 4 start with
    | none => (.abandoned, s)
    | some q =>
      let fl := d.floorOf n q
      let msg := { o.pkt with dstNode := n, srcNode := s.aon.nodeId, ssg := l, dpg := q % e.groupCount,
                              seq := BitVec.ofNat 32 q, floor := BitVec.ofNat 32 fl,
                              tag := BitVec.ofNat 32 d.nextTag,
                              msgLast := max 1 (cdiv o.pkt.payload.length 4096) - 1 }
      let bytes := wireBytes msg + sentBytes (s.toward n) (fun _ => true)
      let col := wireBytes msg + sentBytes (s.toward n) (fun x => x.msg.ptype == 9 && x.msg.dpg == msg.dpg)
      if d.sends.length ≥ 16384 ∨ (q + 2 ^ 32 - fl) % 2 ^ 32 ≥ 8192 ∨ bytes > e.window * 4096 ∨
         (v = vcCOL ∧ col > e.colWindow * 4096) then (.waits, s)
      else
        let s2 := s1.modDie l (fun d =>
          { (d.stat 0x08 (packetsOf msg).length) with
            seqs := tset 0 d.seqs n (BitVec.ofNat 32 (q + 1)), nextTag := nextTagAfter d.nextTag,
            sends := d.sends ++ [⟨msg.tag.toNat, n, msg, s.now, 0, o.ref, s.fabric.e2eTimeout, s.fabric.e2eRetry, o.reg, false⟩] })
        (.sent, ((packetsOf msg).foldl (fun (a : Nat × State) pk =>
            let (port, t) := if a.1 = 0 then (some p, a.2)
              else a.2.spray o.reg ((a.2.eligible v n).filter (fun x => dieOfPort x == l))
            (a.1 + 1, t.place { o with pkt := pk, dest := .node n, port := port.getD p })) (0, s2)).2)

/-! ### The account of gather writes (R165, R166) -/

/-- Count one more at place `i` of a list of eight. -/
def bump8 (l : List Nat) (i : Nat) : List Nat :=
  (List.range 8).map (fun k => lget 0 l k + b2n (k == i))

/-- Record how a tile ended, once (R166). -/
def Stream.endTile (x : Stream) (tile : Nat) (o : Outcome) : Stream :=
  if (afind x.outcomes tile).isSome then x else { x with outcomes := x.outcomes ++ [(tile, o)] }

/-- The outcome of a tile that went well. -/
def Stream.goodEnd (x : Stream) (tile : Nat) : Outcome :=
  ⟨.updated, if x.satTiles.contains tile then stSATURATED else stOK, x.satTiles.contains tile⟩

/-- The gather write of (tile, destination) has an answer (R165, R166). Destination 8 stands for the
write of a reduce stream's sums. -/
def Stream.gatherAnswered (x : Stream) (tile dest status : Nat) : Stream :=
  if !x.unanswered.contains (tile, dest) then x else
  let x := { x with unanswered := x.unanswered.erase (tile, dest) }
  if dest = 8 then
    x.endTile tile (if status = stOK then x.goodEnd tile else ⟨.failed, status, x.satTiles.contains tile⟩)
  else
    let x := if status = stOK then { x with delivered := bump8 x.delivered dest }
      else if lget 0 x.firstFail dest = 0 then
        { x with firstFail := (List.range 8).map (fun k => if k = dest then status else lget 0 x.firstFail k) }
      else x
    if x.desc.stages / 2 % 2 = 0 && !(x.unanswered.any (fun u => u.1 == tile)) then
      x.endTile tile (x.goodEnd tile)
    else x

/-- Count the outcomes that a stream gained (R166, R174). -/
def State.countOutcomes (s : State) (owner : Nat) (old new : List (Nat × Outcome)) : State :=
  (new.drop old.length).foldl (fun s o =>
    match o.2.ended with
    | .updated => s.count owner 0x31F8 1
    | .stale => s.count owner 0x3200 1
    | .failed => s.count owner 0x3208 1) s

/-- Who holds the reservation of a LAMB tile between its passes, in place of an engine (R155, R162). -/
def betweenPasses (stream tile : Nat) : Nat := 768 + stream * 2 ^ 28 + tile

/-- A tile of a stream ends (R166), and with it a reservation that it held between its passes. -/
def State.endTile (s : State) (stream tile : Nat) (o : Outcome) : State :=
  match s.stream stream with
  | none => s
  | some x =>
    let y := x.endTile tile o
    let s := s.modHome (fun h => { h with reserved := h.reserved.filter (fun r => r.2.1 != betweenPasses stream tile) })
    (s.modStream stream (fun _ => y)).countOutcomes x.owner x.outcomes y.outcomes

/-- The gather write of (tile, destination) has an answer; delivered bytes are counted (R174). -/
def State.gatherAnswered (s : State) (stream tile dest status : Nat) : State :=
  match s.stream stream with
  | none => s
  | some x =>
    let fmt := ((x.desc.gather)[dest]?.map (·.fmt)).getD 0
    let bytes := if status = stOK && x.unanswered.contains (tile, dest) && decide (dest < 8) then
      fmtBytes fmt 4096 else 0
    let y := x.gatherAnswered tile dest status
    ((s.modStream stream (fun _ => y)).countOutcomes x.owner x.outcomes y.outcomes).count x.owner 0x3210 bytes

/-- The message of a send context is abandoned (R270): its originator learns `RETRY_LATER` with the abandoned flag. -/
def State.abandon (s : State) (l : Nat) (x : Send) : State :=
  let s := s.modDie l (fun d => { (d.stat 0x30 1) with sends := d.sends.filter (fun y => y.tag != x.tag) })
  match x.ref with
  | some (n, t, d) => (s.modStream n (fun y => { y with abandoned := y.abandoned ++ [(t, d)] })).gatherAnswered n t d stRETRY
  | none => s

/-- Every fabric port of a link die is down: none is in ACTIVE, or in a retrain (R242, R281). -/
def State.dieDown (s : State) (l : Nat) : Bool :=
  (span (16 * l) 16).all (fun p =>
    let q := s.port p
    !(q.state == .active || q.state == .retrain || (q.state == .config && q.wasRetrain)))

/-- Messages in flight whose node no ACTIVE port reaches any more, or whose link die has every port down, are
abandoned at once (R281). -/
def State.abandonLost (s : State) : State :=
  (List.range 4).foldl (fun s l => (s.die l).sends.foldl (fun s x =>
    if s.dieDown l || (s.activePorts x.node).isEmpty then s.abandon l x else s) s) s

/-! ### Answers -/

/-- The answer to a request (R255, R257). Local gather writes have no packet. -/
def answerPkt (s : State) (p : Pkt) (load status subop : Nat) (info : Word64) (data : Bytes) : Pkt :=
  { Pkt.zero with ptype := 0x0A, dstNode := p.srcNode, dpg := p.ssg, srcNode := s.aon.nodeId,
                  ssg := p.dpg, seq := p.seq, tag := p.tag, status := status, load := load,
                  subop := subop, info := info, payload := data }

/-- An answer toward a node: held while no port of the node is ACTIVE (R281). The selection state of the region
that answered sprays it (R31, R262). -/
def State.sendToNode (s : State) (o : OutPkt) (n : Nat) : State :=
  if (s.activePorts n).isEmpty then s.modFabric (fun f => { f with rspHold := f.rspHold ++ [(o, s.now)] })
  else
    match s.spray o.reg (s.eligible vcRSP n) with
    | (some p, s) => s.emit { o with port := p }
    | (none, s) => s.emit { o with port := noPort }

/-- Answers held toward nodes that can be reached again are sprayed (R281). -/
def State.releaseRsp (s : State) : State :=
  let held := s.fabric.rspHold
  let s := s.modFabric (fun f => { f with rspHold := [] })
  held.foldl (fun s h =>
    match h.1.dest with
    | .node n => if (s.activePorts n).isEmpty then s.modFabric (fun f => { f with rspHold := f.rspHold ++ [h] })
                 else s.sendToNode h.1 n
    | _ => s.emit h.1) s

/-- The acceptance context of a message is answered (R267), and its request context is free (R272): its answer has
left the part, or its notice has been acknowledged. Until now the number was in state 01 (R266). -/
def State.markAnswered (s : State) (l node ssg : Nat) (seq : Word32) : State :=
  s.modDie l (fun d =>
    { d with
      ctxs := d.ctxs.map (fun c =>
        if c.node == node && c.ssg == ssg then
          { c with usedAt := if afind c.states seq.toNat = some 1 then s.now else c.usedAt, states := c.states.map (fun x => if x.1 == seq.toNat then (x.1, 2) else x) } else c)
      req := d.req.filter (fun r => !(r.1 == node && r.2.1 == ssg && r.2.2 == seq)) })

/-- The send context that an answer closes (R265, R269): that of its tag and number toward its source. -/
def State.sendOf (s : State) (p : Pkt) : Option Send :=
  (s.die p.dpg).sends.find? (fun x => x.tag == p.tag.toNat && x.node == p.srcNode && x.msg.seq == p.seq)

def State.closeSend (s : State) (l tag : Nat) : State :=
  s.modDie l (fun d => { d with sends := d.sends.filter (fun x => x.tag != tag) })

/-- An answer leaves the part (R267, R272): it is framed for its port, or discarded by R281. -/
def State.answerLeft (s : State) (o : OutPkt) : State :=
  match o.dest with
  | .node n => if o.pkt.ptype = 0x0A then s.markAnswered o.pkt.ssg n o.pkt.dpg o.pkt.seq else s
  | .host _ => s
  | .rein => s

/-- Send an answer on its way out. -/
def State.sendAnswer (s : State) (o : OutPkt) : State :=
  match o.dest with
  | .node n => s.sendToNode o n
  | .host _ => s.emit o
  | .rein => s.emit o

/-- Answer a request from region `g`. `hold` is set for the completion of a write to a mirrored
extent (R362). -/
def State.reply (s : State) (g : Nat) (o : Origin) (p : Pkt) (vi : Option Nat) (cls : Nat) (hold : Bool)
    (status subop : Nat) (info : Word64) (data : Bytes) : State :=
  let pk := answerPkt s p (s.region g).load status subop info data
  let keep (out : Option OutPkt) (loc : Option (Nat × Nat × Nat × Nat)) : State :=
    s.modCyc (fun c => { c with heldAns := c.heldAns ++ [⟨c.cycle, out, loc⟩] })
  let deliver (d : Dest) : State :=
    let out : OutPkt := ⟨pk, d, vi, cls, noPort, none, g⟩
    if hold && s.holds then keep (some out) none else s.sendAnswer out
  match o with
  | .fabric _ => deliver (.node p.srcNode)
  | .hostIo v => if p.ptype = 2 then s else deliver (.host (complexOf v))
  | .cxl port _ => deliver (.host port)
  | .local st t d =>
    if hold && s.holds then keep none (some (st, t, d, status)) else s.gatherAnswered st t d status

/-- An answer by a link die or host port: checks 1 to 3 and the transport (R298). No data region is known then; it
is sprayed with the selection state of region 0 (assumption 169). -/
def State.replyEdge (s : State) (o : Origin) (p : Pkt) (vi : Option Nat) (cls status : Nat) : State :=
  match o with
  | .fabric l =>
    let load := min 7 (8 * (s.die l).reqOcc / 0x800000)
    let pk := answerPkt s p load status (if p.ptype = 1 then 2 else 4) 0 []
    s.sendAnswer ⟨pk, .node p.srcNode, vi, cls, noPort, none, 0⟩
  | o => s.reply 0 o p vi cls false status (if p.ptype = 1 then 2 else 4) 0 []

/-- Release a completion that was held for a pair cycle: its data region sends it. -/
def State.releaseHeld (s : State) (h : HeldAns) : State :=
  match h.out, h.loc with
  | some o, _ => s.sendAnswer o
  | none, some (st, t, d, x) => s.gatherAnswered st t d x
  | none, none => s

end Sys2Proof.Machine
end

