-- ==== Sys2Proof/Machine/Translate.lean ====
section
/-! DEFINITION. From a window and an offset to pool addresses: the translation region (R30), the
translation cache and the mirror (R38, R39, R42), host-served misses (R43, R44), the checks of the
data region (checks 5 to 7 of R34, R379), and requests that touch several pages (R58 to R60). -/
namespace Sys2Proof.Machine

open Sys2Proof

/-- The hash h mod 12 of R30. -/
def transHash (w o : Nat) : Nat :=
  (w % 1024 ^^^ bitf o 30 21 ^^^ bitf o 40 31 ^^^ (if tbit o 41 then 0x200 else 0)) % 12

/-- The region that translates: the next one not in reset (R30). -/
def State.transRegion (s : State) (w o : Nat) : Option Nat :=
  ((List.range 12).map (fun k => (transHash w o + k) % 12)).find? (fun g => !(s.region g).inReset)

/-- The run maps the page of an offset. -/
def Run.hits (r : Run) (w sh o : Nat) : Bool :=
  r.window == w && r.group == o / 2 ^ (sh + 6) &&
  decide (r.start ≤ o / 2 ^ sh % 64 ∧ o / 2 ^ sh % 64 < r.start + r.len)

/-- The PA of an offset that the run maps. -/
def Run.pa (r : Run) (sh o : Nat) : Nat :=
  r.paPage * 2 ^ 16 + (o / 2 ^ sh % 64 - r.start) * 2 ^ sh + o % 2 ^ sh

/-- Drop the oldest entry of a set that has become too full. Lists hold the newest entry first; the
set index of an entry is `set`. -/
def trimSet (set : Run → Nat) (ways : Nat) (r : Run) (l : List Run) : List Run :=
  if l.length ≤ ways then l else
  let mine := l.filter (fun x => set x == set r)
  if mine.length ≤ ways then l
  else match mine.getLast? with
    | some old => l.erase old
    | none => l

/-- The set of a run in a translation cache: one of 1,024 (R38). -/
def tcSetOf (x : Run) : Nat := Config.tcSet x.window x.group % 1024

/-- The set of a run in a mirror segment: one of 1,048,576 (R39). -/
def mirrorSetOf (x : Run) : Nat := Config.mirrorSet x.window x.group % 1048576

/-- Enter a run into a translation cache, most recently used first (R38, R42). -/
def cacheRun (l : List Run) (r : Run) : List Run := trimSet tcSetOf 8 r (r :: l.filter (· != r))

/-- Enter a run into a mirror segment; the entry inserted earliest gives way (R39). -/
def mirrorRun (l : List Run) (r : Run) : List Run := trimSet mirrorSetOf 4 r (r :: l)

/-! ### The mirror segment in DRAM (R39, R42, R47, R330)

`Region.mirror` lists what a segment holds, inserted last first. The 64 bytes of each set lie in the metadata area of the
region's stack; an entry's way is its place among the entries of its set (assumption 112). -/

/-- The address of a set of a region's segment (R47). -/
def mirrorSetAddr (g n : Nat) : Nat := metaBase g + 0x1000000 + 64 * n

/-- The entries of a set by way. -/
def mirrorWays (l : List Run) (n : Nat) : List Run := l.filter (fun x => mirrorSetOf x == n)

/-- The bytes of a set. -/
def mirrorSetBytes (l : List Run) (n : Nat) : Bytes := slice ((mirrorWays l n).flatMap encodeRun) 0 64

/-- A segment takes new contents: the sets that change are written. -/
def State.setMirror (s : State) (g : Nat) (l : List Run) : State :=
  let old := (s.region g).mirror
  let sets := ((old ++ l).map mirrorSetOf).foldl insSet []
  let d := sets.foldl (fun (d : Dram) n =>
    if mirrorWays old n == mirrorWays l n then d else (d.write (mirrorSetAddr g n) (mirrorSetBytes l n)).2) s.dram
  State.modRegion { s with dram := d } g (fun r => { r with mirror := l })

/-- The runs that `keep` does not name leave every segment. -/
def State.filterMirrors (s : State) (keep : Run → Bool) : State :=
  (List.range 12).foldl (fun s g =>
    if (s.region g).mirror.all keep then s else s.setMirror g ((s.region g).mirror.filter keep)) s

/-- Step 2 of R42: the set of a window and group is read and checked. Entries in a word that cannot be read are absent
(R330). -/
def State.checkSet (s : State) (g w group : Nat) : State :=
  let n := Config.mirrorSet w group % 1048576
  let a := mirrorSetAddr g n
  let words := s.dram.listed a 64
  if words.isEmpty then s
  else
    let s := (words.foldl (readListed none a) (⟨zeros 64, false, false⟩, s)).2
    let ways := mirrorWays (s.region g).mirror n
    let bad := ((List.range ways.length).zip ways).filter (fun x => !s.dram.readable ((a + 16 * x.1) / 32))
    if bad.isEmpty then s
    else s.setMirror g ((s.region g).mirror.filter (fun r => !bad.any (fun x => x.2 == r)))

/-- The extent is the page granule of a tenant (R379). -/
def State.isPageExt (s : State) (ext : Nat) : Bool :=
  ext != 0 && s.vis.any (fun e => isTenant e.1 && e.2.pageExt == ext)

/-- The status with which accesses to an extent that is leaving ACTIVE are answered (S of R56). -/
def State.revokeStatus (s : State) (ext : Nat) : Nat :=
  match afind s.revokes ext with
  | some r => r.status
  | none => stREVOKED

/-- Checks 5 to 7 of R34, and the page granule of R379: the first that fails, by its place in the order of
R34, with its status. -/
def State.checkAt (s : State) (ext pa len : Nat) : Option (Nat × Nat) :=
  let e := s.ext ext
  if e.state == .free then some (6, stREVOKED)
  else if !s.leaseRuns e.ownerVi then
    some (5, if (s.vi e.ownerVi).lease.closed then stREVOKED else stLEASE_EXPIRED)
  else if e.state != .active then some (6, s.revokeStatus ext)
  else if outOfPool pa len || s.isPageExt ext then some (7, stBOUND)
  else none

/-- The status of the first of checks 5 to 7 that fails. -/
def State.checkData (s : State) (ext pa len : Nat) : Option Nat := (s.checkAt ext pa len).map (·.2)

/-- The lowest miss tag not in use. -/
def freeTag (l : List Miss) : Nat :=
  ((List.range 256).find? (fun t => !l.any (fun m => m.tag == t))).getD 0

/-- Open a miss entry and post TRANSLATION_MISS (R43, R44). -/
def State.openMiss (s : State) (g w : Nat) (win : Win) (kind o : Nat) : State :=
  let r := s.region g
  let tag := freeTag r.miss
  let due := if win.missLimit = 0 then none else some (s.now + fastEdge s (ms win.missLimit))
  let s := s.modRegion g (fun r => { r with miss := r.miss ++ [⟨w, o / 2 ^ 21, tag, win.tblSeq, s.now, due, win.ownerVi⟩] })
  (s.count win.ownerVi 0x3110 1).post win.ownerVi evTRANSLATION_MISS 0
    (toLe 2 w ++ toLe 2 (tag + 256 * g) ++ toLe 1 kind ++ toLe 1 (o / 2 ^ 16 % 32) ++
     toLe 4 win.tblSeq.toNat ++ toLe 8 (o / 2 ^ 21 * 2 ^ 21))

/-- A lookup that found neither cache nor mirror entry (R43). -/
def State.missLookup (s : State) (g w : Nat) (win : Win) (kind o : Nat) : Look × State :=
  let c := o / 2 ^ 21
  let r := s.region g
  if r.miss.any (fun m => m.window == w && m.chunk == c) then (.wait g c, s.count win.ownerVi 0x3118 1)
  else if r.miss.length ≥ 256 then (.fail 4 stRETRY, s.count win.ownerVi 0x3128 1)
  else (.wait g c, s.openMiss g w win kind o)

/-- Look one page of a translated window up (R38, R39, R42, R43). A region without its C-clock translates
nothing (R26). -/
def State.lookupPage (s : State) (w : Nat) (win : Win) (kind o len : Nat) : Look × State :=
  match s.transRegion w o with
  | none => (.fail 4 stRETRY, s)
  | some g =>
    if s.boot.unlocked.contains (.c (g / 6)) then (.fail 4 stRETRY, s) else
    let sh := pageShift win.pageSize
    let r := s.region g
    match r.tcache.find? (fun x => x.hits w sh o) with
    | some x =>
      let s := (s.modRegion g (fun r => { r with tcache := x :: r.tcache.erase x })).count win.ownerVi 0x3100 1
      (.ok ⟨x.pa sh o, len, x.extent⟩, s)
    | none =>
      let s := s.checkSet g w (o / 2 ^ (sh + 6))
      match (s.region g).mirror.find? (fun x => x.hits w sh o) with
      | some x =>
        let s := (s.modRegion g (fun r => { r with tcache := cacheRun r.tcache x })).count win.ownerVi 0x3108 1
        (.ok ⟨x.pa sh o, len, x.extent⟩, s)
      | none => s.missLookup g w win kind o

/-- The pieces of a range of offsets that lie in one page each. -/
def pagePieces (k sh o n : Nat) : List (Nat × Nat) :=
  match k with
  | 0 => []
  | k + 1 =>
    if n = 0 then [] else
    let m := min n (2 ^ sh - o % 2 ^ sh)
    (o, m) :: pagePieces k sh (o + m) (n - m)

/-- Look up every page of a range of an access before any byte moves (R58). A raw window is one piece (R36). -/
def State.lookRange (s : State) (part w o len kind : Nat) : List PageLook × State :=
  let win := s.win w
  let sh := pageShift win.pageSize
  if win.kind = 2 then
    (pagePieces (len / 2 ^ sh + 2) sh o len).foldl (fun (a : List PageLook × State) p =>
      let (l, s) := a.2.lookupPage w win kind p.1 p.2
      (a.1 ++ [⟨w, part, p.1 - o, p.1, p.2, kind, l⟩], s)) ([], s)
  else
    ([⟨w, part, 0, o, len, kind,
       if win.kind = 1 then .ok ⟨win.basePa + o, len, win.extentId⟩ else .fail 2 stNOT_MAPPED⟩], s)

/-- A woken waiter repeats the lookup of a page (R44). -/
def State.relook (s : State) (p : PageLook) : List PageLook × State :=
  let (l, s) := s.lookRange p.part p.window p.off p.len p.kind
  (l.map (fun q => { q with rel := q.rel + p.rel }), s)

/-- The page waits for the miss entry of a window and chunk in a region. -/
def PageLook.on (p : PageLook) (g w c : Nat) : Bool := p.window == w && p.res == .wait g c

def PageLook.waits (p : PageLook) : Bool :=
  match p.res with
  | .wait _ _ => true
  | .ok _ => false
  | .fail _ _ => false

/-- A miss entry closes for the pages that wait for it: each takes the status, or is looked up again (R46). -/
def State.closeLooks (s : State) (g w c : Nat) (status : Option Nat) (l : List PageLook) : List PageLook × State :=
  l.foldl (fun (a : List PageLook × State) p =>
    if p.on g w c then
      match status with
      | some st => (a.1 ++ [{ p with res := .fail 4 st }], a.2)
      | none => let (x, s) := a.2.relook p; (a.1 ++ x, s)
    else (a.1 ++ [p], a.2)) ([], s)

/-- The outcome of a page: checks 5 to 7 of R34 are those of the data region, made once it is resolved. -/
def State.lookOutcome (s : State) (p : PageLook) : Look :=
  match p.res with
  | .ok x => match s.checkAt x.ext x.pa x.len with
    | some (k, st) => .fail k st
    | none => .ok x
  | y => y

/-- What the translation of an access has come to (R58): every page resolved; a miss to wait for; `RETRY_LATER`
as a whole; or a first failing page at an offset, with the status of the earliest check that fails there. -/
inductive TRes where
  | ok
  | wait (region window chunk : Nat)
  | retry
  | bad (off status : Nat)
deriving DecidableEq, Repr

/-- The first miss that a page of the list waits for. -/
def firstWait (l : List (PageLook × Look)) : Option TRes :=
  l.findSome? (fun x => match x.2 with | .wait g c => some (.wait g x.1.window c) | .ok _ => none | .fail _ _ => none)

/-- The failures of a list as (offset, check, status). -/
def failedPages (l : List (PageLook × Look)) : List (Nat × Nat × Nat) :=
  l.filterMap (fun x => match x.2 with | .fail k st => some (x.1.rel, k, st) | .ok _ => none | .wait _ _ => none)

/-- Judge the pages of an access (R58). Pages beyond the first failing one never count. -/
def State.judge (s : State) (l : List PageLook) : TRes :=
  let m := l.map (fun p => (p, s.lookOutcome p))
  let bad := failedPages m
  match bad with
  | [] => (firstWait m).getD .ok
  | b0 :: br =>
    let b := br.foldl (fun a x => min a x.1) b0.1
    let here := bad.filter (fun x => x.1 == b)
    match firstWait (m.filter (fun x => decide (x.1.rel < b))) with
    | some t => t
    | none =>
      if here.any (fun x => x.2.2 == stRETRY) then .retry
      else match firstWait (m.filter (fun x => x.1.rel == b)) with
        | some t => t
        | none => .bad b ((here.foldl (fun (a : Nat × Nat) x => if x.2.1 < a.1 then x.2 else a) (8, stBOUND)).2)

/-- The resolved pieces of a range of an access, in ascending order. -/
def lookSegs (l : List PageLook) (part : Nat) : List Seg :=
  l.filterMap (fun p => if p.part = part then (match p.res with | .ok x => some x | .wait _ _ => none | .fail _ _ => none) else none)

/-- The access touches more than one page of a translated window: some range of it is split (R58). -/
def manyPages (l : List PageLook) : Bool := l.any (fun p => p.rel != 0)

/-- Distinct runs of a window in the mirror: those that the segment of any region holds. -/
def State.runsOf (s : State) (w : Nat) : List Run :=
  (s.regions.flatMap (fun q => q.2.mirror.filter (fun r => r.window == w))).foldl (fun l r =>
    if l.contains r then l else l ++ [r]) []

/-- A page of a group has a chunk that hashes to region `g` (R39). -/
def pageInRegion (w sh group p g : Nat) : Bool :=
  let a := (group * 64 + p) * 2 ^ sh
  (span (a / 2 ^ 21) ((a + 2 ^ sh - 1) / 2 ^ 21 + 1 - a / 2 ^ 21)).any (fun c => transHash w (c * 2 ^ 21) == g)

/-- The pages of a group that are mapped, as (group, start, length). -/
abbrev Mapped := List (Nat × Nat × Nat)

/-- The mapped pages of a window (R40): those that the segment of a region to which one of their chunks hashes holds. A
page whose run has left that segment is not mapped, though other segments may hold the run still (assumption 168). -/
def State.mappedPages (s : State) (w : Nat) : Mapped :=
  s.regions.flatMap (fun q => (q.2.mirror.filter (fun r => r.window == w)).flatMap (fun r =>
    ((span r.start r.len).filter (fun p => pageInRegion w (pageShift r.size) r.group p q.1)).map (fun p => (r.group, p, 1))))

/-! ### Operands of commands and descriptors

The part's own accesses pass checks 2 to 7 of R34 and wait for their misses as requests do (R43). Until an access
of this kind has an outcome, the lookups of the pages it waits for are kept. -/

/-- In place of a status: the access waits for a miss or a zero-fill. Statuses are below 2^16. -/
def parkWait : Nat := 2 ^ 64

/-- The operation of the part's own has ended: its lookups are gone. -/
def State.endOp (s : State) (who : OpWho) : State :=
  { s with opLooks := s.opLooks.filter (fun x => x.who != who),
           home := { s.home with places := s.home.places.filter (fun p => p.who != .op who) } }

def OpLook.is (x : OpLook) (who : OpWho) (op : Operand) (write : Bool) : Bool :=
  x.who == who && x.op == op && x.write == write

/-- The lookups of an operand: those that are kept, or new ones. -/
def State.opPages (s : State) (who : OpWho) (op : Operand) (write : Bool) : List PageLook × State :=
  match s.opLooks.find? (fun x => x.is who op write) with
  | some x => (x.looks, s)
  | none =>
    let (l, s) := s.lookRange 0 op.window op.off op.len (b2n write)
    (l, if l.any PageLook.waits then { s with opLooks := s.opLooks ++ [⟨who, op, write, l⟩] } else s)

/-- Checks 2 to 7 of R34 on an operand that the part itself reads or writes: its status, `parkWait` while a miss
is open. -/
def State.opSegs (s : State) (who : OpWho) (op : Operand) (write : Bool) : Nat × List Seg × State :=
  let win := s.win op.window
  if win.kind = 0 then (stNOT_MAPPED, [], s)
  else if op.off + op.len > win.limit ∨ (write && !win.writeEn) then (stBOUND, [], s)
  else
    let (l, s) := s.opPages who op write
    match s.judge l with
    | .ok => (stOK, lookSegs l 0, s)
    | .wait _ _ _ => (parkWait, [], s)
    | .retry => (stRETRY, [], s)
    | .bad _ st => (st, [], s)

/-- Read translated pieces (R48, R329). -/
def State.readSegs (s : State) (vi : Option Nat) (segs : List Seg) : RdRes × State :=
  segs.foldl (fun acc x =>
    let (r, s) := acc.2.read vi x.pa x.len
    (⟨acc.1.data ++ r.data, acc.1.poison || r.poison, acc.1.lost || r.lost⟩, s))
    (⟨[], false, false⟩, s)

/-- Write a byte string over translated pieces (R329). -/
def State.writeSegs (s : State) (segs : List Seg) (bs : Bytes) : WrRes × State :=
  (segs.foldl (fun (a : (WrRes × Bytes) × State) x =>
    let (r, t) := a.2.write x.pa (a.1.2.take x.len)
    ((⟨a.1.1.poison || r.poison, a.1.1.lost || r.lost⟩, a.1.2.drop x.len), t))
    ((⟨false, false⟩, bs), s)) |> fun r => (r.1.1, r.2)

end Sys2Proof.Machine
end

