-- ==== Sys2Proof/Machine/Home.lean ====
section
/-! DEFINITION. The home agents: caching agents (R64), the snoop filter (R67 to R70), the snoops and
next states of the transition table (R75, R76), open transactions (R65, R82), and writeback
acknowledgements (R73, R277), and the accesses of the part's own to coherent lines (R62, R66). A line is numbered by its PA >> 6. -/
namespace Sys2Proof.Machine

open Sys2Proof

/-- What a request does to a line of a coherent extent (R66): atomics count as writes. -/
inductive LineOp where
  | shared | own | claim | rd | wr
deriving DecidableEq, Repr

def LineOp.cacheable (o : LineOp) : Bool :=
  match o with
  | .shared => true
  | .own => true
  | .claim => true
  | .rd => false
  | .wr => false

/-! ### Agents -/

/-- The agent index of a fabric node (R64). -/
def State.agentOfNode (s : State) (n : Nat) : Option Nat :=
  (s.home.agents.find? (fun a => !a.2.host && a.2.node == n)).map (·.1)

def State.agent (s : State) (x : Nat) : Option Agent := afind s.home.agents x

/-- The record of an agent index: the agent, or the one whose state ended last under the index (R77). -/
def State.agentRec (s : State) (x : Nat) : Option Agent :=
  match s.agent x with
  | some a => some a
  | none => afind s.home.ended x

/-- The agent index that a fabric node had last, once its state has ended (R77). -/
def State.endedOfNode (s : State) (n : Nat) : Option Nat :=
  (s.home.ended.find? (fun a => !a.2.host && a.2.node == n && (s.agent a.1).isNone)).map (·.1)

/-- The state of an agent is over: its index is free, and its record stays until the index is given again (R77, R83). -/
def State.retireAgent (s : State) (x : Nat) : State :=
  match s.agent x with
  | none => s
  | some a => s.modHome (fun h => { h with agents := tdel h.agents x, ended := tput h.ended x a })

/-- An index is given to a new agent: what an earlier one of the index or node has left is gone, and no region has
accepted a notice of the new one (R64, R77, R277). A notice of the earlier one that still waits in the part is discarded and
its message answered, as R77 does with one that comes after its agent is gone (assumption 215). -/
def State.newAgent (s : State) (x : Nat) (a : Agent) : State :=
  let old (b : Buffered) : Bool := b.agent == x && !a.host
  let owed (o : WbOwed) : Bool := (s.agentRec x).any (fun r => !r.host && r.node == o.node)
  let node := ((s.agentRec x).map (·.node)).getD 0
  let s := (s.fabric.wbOwed.filter owed).foldl (fun s o => s.markAnswered o.die o.node o.ssg o.seq) s
  let s := ((s.home.heldWb ++ s.home.inbox).filter old).foldl (fun s b =>
    match b.ack with
    | some (l, ssg, seq) => s.markAnswered l node ssg seq
    | none => s) s
  { s with
    home := { s.home with agents := tput s.home.agents x a,
                          heldWb := s.home.heldWb.filter (fun b => !old b), inbox := s.home.inbox.filter (fun b => !old b),
                          ended := (tdel s.home.ended x).filter (fun e => e.2.host || e.2.node != a.node) }
    fabric := { s.fabric with wbOwed := s.fabric.wbOwed.filter (fun o => !owed o) }
    regions := s.regions.map (fun (r : Nat × Region) => (r.1, { r.2 with
      wbCount := tdel r.2.wbCount x, wbUsed := tdel r.2.wbUsed x, wbEver := r.2.wbEver.filter (· != x) })) }

/-- The agent of a host port, while HDM-DB is enabled on it. -/
def State.hostAgent (s : State) (d : Nat) : Option Nat := (s.agent d).map (fun _ => d)

/-- The VIs whose coherence counters an event at a line concerns (R90): those of the caching agents that have part
in it, and the owner of the line's extent, each once. -/
def State.cohVis (s : State) (ags : List Nat) (line : Nat) : List Nat :=
  ((ags.filterMap (fun x => (s.agentRec x).map (·.vi))) ++
   (match s.extentOf (granuleOf (64 * line)) with | some e => [e.2.ownerVi] | none => [])).foldl insSet []

/-- Count an event at a line in a coherence counter (R90). -/
def State.countCoh (s : State) (ags : List Nat) (line off : Nat) : State :=
  (s.cohVis ags line).foldl (fun s v => s.count v off 1) s

/-! ### The filter -/

def homeOf (line : Nat) : Nat := stackOf (64 * line)

/-- The set of a line (R67). -/
def lineSet (line : Nat) : Nat :=
  let l := 64 * line % stackBytes / 64
  bitf l 14 0 ^^^ bitf l 29 15

def State.dirEnt (s : State) (line : Nat) : Option Dir := afind s.home.dir line

/-- Enter or replace a line's entry as the one used last; an entry that lists no agent is freed. Only what writes an
entry makes it the most recently used: an uncached read that leaves it as it is does not (assumption 174). -/
def State.dirPut (s : State) (line : Nat) (d : Dir) : State :=
  s.modHome (fun h =>
    { h with clock := h.clock + 1,
             dir := if d.ags.isEmpty && d.state != .L then tdel h.dir line
                    else tput h.dir line { d with used := h.clock + 1 } })

def State.dirDel (s : State) (line : Nat) : State := s.modHome (fun h => { h with dir := tdel h.dir line })

def State.dirPin (s : State) (line : Nat) (b : Bool) : State :=
  s.modHome (fun h => { h with dir := amod h.dir line (fun d => { d with pin := b }) })

/-- Take an agent out of a line's entry. -/
def State.dropAgent (s : State) (line x : Nat) : State :=
  match s.dirEnt line with
  | some d => s.dirPut line { d with ags := d.ags.filter (· != x) }
  | none => s

/-- The entries of a line's set in its home. -/
def State.waysOf (s : State) (line : Nat) : List (Nat × Dir) :=
  s.home.dir.filter (fun e => homeOf e.1 == homeOf line && lineSet e.1 == lineSet line)

/-- The entry used least recently. -/
def oldestWay (l : List (Nat × Dir)) : Option Nat :=
  (l.foldl (fun (a : Option (Nat × Dir)) e =>
    match a with
    | none => some e
    | some b => if e.2.used < b.2.used then some e else a) none).map (·.1)

/-- The victim of a full set (R70): the least recently used S entry, then O entry, not pinned. -/
def State.victim (s : State) (line : Nat) : Option Nat :=
  let ways := (s.waysOf line).filter (fun e => !e.2.pin)
  match oldestWay (ways.filter (fun e => e.2.state == .S)) with
  | some v => some v
  | none => oldestWay (ways.filter (fun e => e.2.state == .O))

/-! ### Snoops and transactions -/

/-- Send a snoop to an agent (R71, R78). -/
def State.sendSnoop (s : State) (x line : Nat) (k : SnoopKind) : State :=
  match s.agent x with
  | none => s
  | some a =>
    let pk := { Pkt.zero with ptype := 5, subop := if k == .share then 0 else 1,
                              srcNode := s.aon.nodeId, dstNode := a.node,
                              addr := BitVec.ofNat 64 (s.aon.nodeId * 2 ^ 52 + 64 * line) }
    if a.host then s.emit ⟨pk, .host x, none, 7, noPort, none, 0⟩
    else
      let o : OutPkt := ⟨pk, .node a.node, none, 7, noPort, none, homeOf line⟩
      match s.launch o a.node with
      | (.sent, t) => t
      | (.waits, t) => t.emit o
      | (.abandoned, t) => t

def State.txn (s : State) (line : Nat) : Option Txn := afind s.home.txns line

/-- Open a transaction that waits for snoops (R65): the entry is pinned. -/
def State.openTxn (s : State) (line : Nat) (w : TxnFor) (sn : List (Nat × SnoopKind)) : State :=
  let due := s.now + fastEdge s (us s.home.snpTimeoutUs)
  let s := s.modHome (fun h =>
    { h with txns := tput h.txns line ⟨w, sn.map (fun x => ⟨x.1, x.2, due, h.snpTimeoutUs, 0, false⟩), false, [], []⟩ })
  let s := s.dirPin line true
  sn.foldl (fun s x => (s.sendSnoop x.1 line x.2).countCoh [x.1] line 0x3140) s

/-- The snoops of a revocation belong to no request of the home (R65, R88). -/
def TxnFor.isRevoke (f : TxnFor) : Bool :=
  match f with
  | .revoke _ => true
  | .request _ => false
  | .evict => false
  | .engine _ => false
  | .remove _ => false
  | .orphan => false

/-- The transaction table of a line's home has no entry left (R65). The snoops of a revocation take none
(assumption 192). -/
def State.homeFull (s : State) (line : Nat) : Bool :=
  decide ((s.home.txns.filter (fun t => homeOf t.1 == homeOf line && !t.2.forWhat.isRevoke)).length ≥ 2048)

/-- The requests that are parked for a line, in the order of the home (R65). -/
def State.parkedAt (s : State) (line : Nat) : List Waiting := s.waiting.filter (fun w => w.why == .parked line)

/-- The pending queue of a region's home is full (R65): the requests and the accesses of the part's own that are
parked in it. -/
def State.queueFull (s : State) (g : Nat) : Bool :=
  decide ((s.waiting.filter (fun w => match w.why with
    | .parked l => homeOf l == g
    | .miss _ _ _ => false | .fill _ => false | .fillRoom _ => false | .txn _ => false | .mesh _ => false
    | .stamp _ => false | .retryMiss => false | .cycle => false | .role => false)).length +
    (s.home.places.filter (fun p => p.parked && homeOf p.line == g)).length ≥ 8192)

/-- Something that came to a line before place `k` of the order of arrival waits there (R65, R66). -/
def State.before (s : State) (line k : Nat) : Bool :=
  (s.parkedAt line).any (fun w => decide (w.ord < k)) || s.home.places.any (fun p => p.line == line && decide (p.ord < k))

/-- Places of accesses of the part's own are given up. -/
def State.dropPlaces (s : State) (f : OwnWho → Bool) : State :=
  s.modHome (fun h => { h with places := h.places.filter (fun p => !f p.who) })

/-- What the home does with a request for a line before it can be served. -/
inductive Prep where
  | ok
  | park
  | opened
  | retry
deriving DecidableEq, Repr

/-- An eviction that makes room in the set of a line runs already: each line that waits for a way of the set
starts one of its own (R70). -/
def State.roomComing (s : State) (line : Nat) : Bool :=
  let same (l : Nat) : Bool := homeOf l == homeOf line && lineSet l == lineSet line
  let running := s.home.txns.filter (fun t => same t.1 && t.2.forWhat == .evict)
  let others := (s.waiting.filterMap (fun w => match w.why with
    | .parked l => if same l && l != line && (s.dirEnt l).isNone && (s.txn l).isNone then some l else none
    | .miss _ _ _ => none | .fill _ => none | .fillRoom _ => none | .txn _ => none | .mesh _ => none
    | .stamp _ => none | .retryMiss => none | .cycle => none | .role => none)).foldl insSet []
  decide (running.length > others.length)

/-- Room in the set of a line that is about to be granted (R70); an eviction takes an entry of the transaction
table (R65). -/
def State.makeRoom (s : State) (line : Nat) : Prep × State :=
  if (s.waysOf line).length < 16 then (.ok, s)
  else if s.roomComing line || s.homeFull line then (.park, s)
  else match s.victim line with
    | none => (.park, s)
    | some v =>
      let ags := ((s.dirEnt v).map (·.ags)).getD []
      (.park, (s.openTxn v .evict (ags.map (fun a => (a, .inv)))).countCoh ags v 0x3148)

/-- The snoops that a request needs before it is served from the resulting state (R69, R75). -/
def snoopsFor (d : Dir) (op : LineOp) (x : Option Nat) : List (Nat × SnoopKind) :=
  match d.state with
  | .L => []
  | .S =>
    match op with
    | .rd => []
    | .shared => if d.ags.length < 4 then [] else (d.ags.take 1).map (fun a => (a, .inv))
    | .own => d.ags.map (fun a => (a, .inv))
    | .claim => (d.ags.filter (fun a => some a != x)).map (fun a => (a, .inv))
    | .wr => d.ags.map (fun a => (a, .inv))
  | .O =>
    match op with
    | .rd => d.ags.map (fun a => (a, .share))
    | .shared => d.ags.map (fun a => (a, .share))
    | .own => d.ags.map (fun a => (a, .inv))
    | .claim => d.ags.map (fun a => (a, .inv))
    | .wr => d.ags.map (fun a => (a, .inv))

/-- The request is from an agent that the filter lists, so its notice is in flight (R76). A `CLAIM` from the listed
owner, which R75 and R76 do not give, waits in the same way (assumption 175). -/
def noticeInFlight (d : Dir) (op : LineOp) (x : Option Nat) : Bool :=
  match x with
  | none => false
  | some a => d.ags.contains a && !(op == .claim && d.state == .S)

/-- A request comes after others that wait for the line. The transaction that has just closed may be its own. -/
def State.behind (s : State) (id line : Nat) : Bool :=
  match s.waiting.find? (fun w => w.id == id) with
  | none => s.before line s.reqNo
  | some w => if w.why == .txn line then false else s.before line (if w.why == .parked line then w.ord else s.reqNo)

/-- Prepare a line for request `id` of agent `x` (R65, R69, R70, R75, R76, R82, R85). It waits behind what is parked
for the line already, and while the transaction table is full. -/
def State.prepLine (s : State) (id : Nat) (op : LineOp) (x : Option Nat) (line : Nat) : Prep × State :=
  match s.txn line with
  | some t => if t.stuck then (.retry, s) else (.park, s)
  | none =>
    if s.behind id line || s.homeFull line then (.park, s) else
    match s.dirEnt line with
    | none => if op.cacheable then s.makeRoom line else (.ok, s)
    | some d =>
      if d.state == .L || noticeInFlight d op x then (.park, s)
      else
        let sn := snoopsFor d op x
        if sn.isEmpty then (.ok, s)
        else
          let s := if d.state == .S && op == .shared then (sn.foldl (fun s a => s.countCoh [a.1] line 0x3150) s)
                   else s
          (.opened, s.openTxn line (.request id) sn)

/-- Grant a line to agent `x` after its snoops (R75): the next state, and whether X already held the
data. -/
def State.grantLine (s : State) (op : LineOp) (x line : Nat) : Bool × State :=
  let d := (s.dirEnt line).getD ⟨.S, false, [], 0⟩
  let had := d.ags.contains x
  match op with
  | .shared => (false, s.dirPut line { d with state := .S, ags := d.ags ++ [x] })
  | .own => (false, s.dirPut line { d with state := .O, ags := [x] })
  | .claim => (had, s.dirPut line { d with state := .O, ags := [x] })
  | .rd => (false, s)
  | .wr => (false, s)

/-- An answer of agent `x` to its snoop of a line: the directory keeps it as a sharer or drops it. -/
def State.snoopResult (s : State) (x line : Nat) (keep : Bool) : State :=
  match s.dirEnt line with
  | none => s
  | some d =>
    if !d.ags.contains x then s
    else if keep then s.dirPut line { d with state := .S }
    else s.dirPut line { d with ags := d.ags.filter (· != x) }

/-- The S2M `BIConflictAck` of a line on a host port (R78), under a packet type of the model's own. -/
def State.conflictAck (s : State) (d line : Nat) : State :=
  s.emit ⟨{ Pkt.zero with ptype := 0x20, addr := BitVec.ofNat 64 (64 * line) }, .host d, none, 7, noPort, none, 0⟩

/-- Snoops of a line that are on their way to a node, or to any node, and whose answers come too late now (R82). -/
def State.lateSnoops (s : State) (line : Nat) (node : Option Nat) : State :=
  s.modFabric (fun f => { f with dies := f.dies.map (fun (e : Nat × LinkDie) => (e.1, { e.2 with sends := e.2.sends.map (fun x =>
    if x.msg.ptype == 5 && x.msg.addr.toNat % 2 ^ 40 / 64 == line && (node.isNone || node == some x.node) then
      { x with late := true } else x) })) })

/-- A transaction is over (R65): BIConflictAck goes to the host ports that wait for it (R78), and the entry
unpins. -/
def State.dropTxn (s : State) (line : Nat) : State :=
  match s.txn line with
  | none => s
  | some t =>
    let s := t.conflicts.foldl (fun s d => s.conflictAck d line) s
    ((s.modHome (fun h => { h with txns := tdel h.txns line })).dirPin line false).lateSnoops line none

/-- Answers of host port `x` to copies of a snoop that is over are still to come (R82). -/
def State.oweAnswers (s : State) (x line n : Nat) : State :=
  if n = 0 then s
  else
    let old := ((s.home.owed.find? (fun o => o.1 == x && o.2.1 == line)).map (·.2.2)).getD 0
    s.modHome (fun h => { h with owed := h.owed.filter (fun o => !(o.1 == x && o.2.1 == line)) ++ [(x, line, old + n)] })

/-- A transaction ends with its snoops unanswered: the answers of hosts come too late as well (R82, R88). -/
def State.cutTxn (s : State) (line : Nat) : State :=
  match s.txn line with
  | none => s
  | some t => (t.snoops.foldl (fun s y => if y.agent < 2 then s.oweAnswers y.agent line (y.timeouts + 1) else s) s).dropTxn line

/-- Close one snoop of a transaction; `some` says what a transaction served that is now complete. -/
def State.closeSnoop (s : State) (line x : Nat) : Option TxnFor × State :=
  match s.txn line with
  | none => (none, s)
  | some t =>
    let left := t.snoops.filter (fun y => y.agent != x)
    let s := match s.agentRec x with
      | some a =>
        if a.host then s.oweAnswers x line (((t.snoops.find? (fun (y : Snoop) => y.agent == x)).map Snoop.timeouts).getD 0)
        else s.lateSnoops line (some a.node)
      | none => s
    let rest := if t.keeps.isEmpty then [] else ((s.dirEnt line).map Dir.ags).getD []
    if left.isEmpty && !rest.isEmpty then
      -- a batch has been written over the line meanwhile: the holders left are invalidated too (R438, assumption 191)
      (none, ((s.dropTxn line).openTxn line t.forWhat (rest.map (fun a => (a, .inv)))).modHome (fun h =>
        { h with txns := amod h.txns line (fun u => { u with keeps := t.keeps }) }))
    else if left.isEmpty then (some t.forWhat, s.dropTxn line)
    else (none, s.modHome (fun h => { h with txns := amod h.txns line (fun t => { t with snoops := left }) }))

/-! ### Notices -/

/-- Send the writeback acknowledgement of an agent on the ports of its node (R277). -/
def State.sendWbAck (s : State) (g x : Nat) : State :=
  match s.agentRec x with
  | none => s
  | some a =>
    if a.host then s else
    match s.spray g (s.activePorts a.node) with
    | (none, s) => s
    | (some p, s) =>
      s.modPort p (fun q => q.push (bypassWord 8
        (a.node % 4096 * 2 ^ 24 + 1 * 2 ^ 22 + tget 0 (s.region g).wbCount x % 64 * 2 ^ 16 + g * 2 ^ 12 +
         s.aon.nodeId % 4096)))

/-- A notice of agent `x` has been accepted by region `g`: it occupies a writeback buffer until the
acknowledgement reaches the agent (R73, R277). `ack` names its message, which is answered when the acknowledgement
leaves (R267). -/
def State.acceptNotice (s : State) (g x : Nat) (ack : Option (Nat × Nat × Word32)) : State :=
  let s := s.modRegion g (fun r =>
    { r with wbCount := tset 0 r.wbCount x (tget 0 r.wbCount x + 1),
             wbUsed := tset 0 r.wbUsed x (tget 0 r.wbUsed x + 1), wbEver := insSet r.wbEver x })
  let s := match ack, s.agentRec x with
    | some (l, ssg, seq), some a =>
      s.modFabric (fun f => { f with wbOwed := f.wbOwed ++ [(⟨l, a.node, ssg, seq, g, tget 0 (s.region g).wbCount x⟩ : WbOwed)] })
    | _, _ => s
  s.sendWbAck g x

/-! ### Accesses of the part's own to coherent lines (R62, R66)

Operands of commands and descriptors, residual slices, records and stored ratios are read as RD_UNC and written as
WR_UNC. What meets a line whose holders must be snooped first is done once the snoops are answered. -/

/-- In place of a status: the access waits for a line. Statuses are below 2^16. -/
def lineWait (line : Nat) : Nat := 2 ^ 16 + line

/-- The access waits: for a line, or for a miss or a zero-fill (`parkWait`). -/
def isWait (st : Nat) : Bool := decide (2 ^ 16 ≤ st)

/-- Lines with an entry in the filter or an open transaction in coherent pieces, given as (PA, length). -/
def State.heldLines (s : State) (l : List (Nat × Nat)) : List Nat :=
  ((s.home.dir.map (·.1) ++ s.home.txns.map (·.1)).foldl insSet []).filter (fun n =>
    l.any (fun x => decide (0 < x.2 ∧ x.1 < 64 * n + 64 ∧ 64 * n < x.1 + x.2)) && s.coherentAt (granuleOf (64 * n)))

/-- The first line of coherent pieces whose home has no entry left in its transaction table (R65). -/
def State.fullLine (s : State) (l : List (Nat × Nat)) : Option Nat :=
  (l.find? (fun x => decide (0 < x.2) && s.coherentAt (granuleOf x.1) && s.homeFull (x.1 / 64))).map (fun x => x.1 / 64)

/-- The place of an access in the order of a line: the one it has, else the next one. -/
def State.placeOf (s : State) (who : OwnWho) (line : Nat) : Nat :=
  match who with
  | .req id =>
    match s.waiting.find? (fun w => w.id == id) with
    | some w => if w.why == .parked line then w.ord else s.reqNo
    | none => s.reqNo
  | y => ((s.home.places.find? (fun p => p.who == y && p.line == line)).map (·.ord)).getD s.reqNo

/-- An access of the part's own takes its place at a line (R65): it is parked, and counted as such (R90), or its own
snoops are under way. A contribution has its place as a request. -/
def State.takePlace (s : State) (who : OwnWho) (line : Nat) (parked : Bool) : State :=
  match who with
  | .req _ => s
  | y =>
    if s.home.places.any (fun p => p.who == y && p.line == line) then s
    else
      let s : State := { s with reqNo := s.reqNo + 1, home := { s.home with
        places := s.home.places ++ [⟨y, line, parked, s.reqNo, s.now⟩] } }
      s.when parked (fun s => s.countCoh [] line 0x3158)

/-- The access has its lines: the time for which it was parked is counted (R90), and its places are gone. -/
def State.leavePlaces (s : State) (who : OwnWho) : State :=
  let mine := s.home.places.filter (fun p => p.who == who)
  let s := (mine.filter (·.parked)).foldl (fun s p =>
    (s.cohVis [] p.line).foldl (fun s v => s.countMax v 0x3160 ((s.now - p.since) / 1260)) s) s
  if mine.isEmpty then s else s.dropPlaces (· == who)

/-- Snoop what an access of the part's own needs of the lines it meets, in the order of the home (R65, R75): the first
line that it waits for, if any. -/
def State.ownAccess (s : State) (who : OwnWho) (op : LineOp) (l : List (Nat × Nat)) : Option Nat × State :=
  match s.fullLine l with
  | some n => (some n, s.takePlace who n true)
  | none =>
    let r := (s.heldLines l).foldl (fun (a : Option Nat × State) n =>
      let waits (s : State) (parked : Bool) : Option Nat × State := (some (a.1.getD n), s.takePlace who n parked)
      match a.2.txn n with
      | some _ => waits a.2 true
      | none =>
        if a.2.before n (a.2.placeOf who n) then waits a.2 true else
        match a.2.dirEnt n with
        | none => a
        | some d =>
          let sn := snoopsFor d op none
          if d.state == .L then waits a.2 true
          else if sn.isEmpty then a
          else if a.2.homeFull n then waits a.2 true
          else waits (a.2.openTxn n (.engine (granuleOf (64 * n))) sn) false) (none, s)
    if r.1.isNone then (none, r.2.leavePlaces who) else r

def segRanges (l : List Seg) : List (Nat × Nat) := l.map (fun x => (x.pa, x.len))

/-! ### Zero-fills under accesses of the part's own (R49)

A write of the part's own that needs a fill performs it in its own step, once the fill table has room for it. -/

/-- The granule pieces of ranges, as (granule, whole). -/
def fillPieces (l : List (Nat × Nat)) : List (Nat × Bool) :=
  l.flatMap (fun x => (piecesOf x.1 x.2).map (fun p => (granuleOf p.1, p.2 == granuleBytes)))

/-- A fill in progress holds the access, or a write needs a new fill that the full table cannot take yet. -/
def State.fillHolds (s : State) (l : List (Nat × Nat)) (write : Bool) : Bool :=
  (fillPieces l).any (fun p =>
    let t := (s.region (regionOfGranule p.1)).fills
    t.contains p.1 || (write && !p.2 && !s.isValid p.1 && decide (t.length ≥ 64)))

/-- Count the zero-fills that writes of ranges bring, for the owner of the window they go through (R61,
assumption 188). -/
def State.countFills (s : State) (w : Nat) (l : List (Nat × Nat)) : State :=
  let gs := ((fillPieces l).filter (fun p => !p.2 && !s.isValid p.1)).map (·.1)
  s.count (s.win w).ownerVi 0x3130 (gs.foldl insSet []).length

/-- A read of the part's own met a lost-dirty mark: it has the last written-back data and is counted (R85, R90,
assumption 167). -/
def State.countLost (s : State) (pa : Nat) (lost : Bool) : State := if lost then s.countCoh [] (pa / 64) 0x3188 else s

/-- The granules of pieces. -/
def rangeGranules (l : List (Nat × Nat)) : List Nat := (l.flatMap (fun x => (piecesOf x.1 x.2).map (fun p => granuleOf p.1)))

/-- The reservation of a granule: whether its batch is accepted (R155). -/
def State.reservation (s : State) (g : Nat) : Option Bool :=
  match s.home.reserved.filter (fun r => r.1 == g) with
  | [] => none
  | l => some (l.any (·.2.2))

/-- The regions of an access of the part's own serve it: none is in reset or without its clocks (R17, R26). -/
def State.rangesServe (s : State) (l : List (Nat × Nat)) : Bool := l.all (fun x => s.stackServes (stackOf x.1))

/-- A read of a reserved granule is held from acceptance to the stamp's write (R155). -/
def State.readHeld (s : State) (l : List (Nat × Nat)) : Bool := (rangeGranules l).any (fun g => s.reservation g == some true)

/-- A plain write to a reserved granule is answered `RETRY_LATER` (R155). -/
def State.writeBarred (s : State) (l : List (Nat × Nat)) : Bool := (rangeGranules l).any (fun g => (s.reservation g).isSome)

/-- A write to the granule brings a new dirty-table entry (R360). -/
def State.newEntry (s : State) (g : Nat) : Bool :=
  s.tracks && s.mirroredAt g && (afind (s.region (regionOfGranule g)).dirty g).isNone

/-- Writes to granules need new dirty-table entries that their regions cannot give (R360, R361): two cycles have closed
and not been acknowledged, or a table of 4,096 has no room for all of them. -/
def State.lacksEntries (s : State) (gs : List Nat) : Bool :=
  let new := (gs.filter (fun g => s.newEntry g)).foldl insSet []
  !new.isEmpty &&
  ((s.cyc.shipping.isSome && s.cyc.closedWait.isSome) ||
   new.any (fun g => decide ((s.region (regionOfGranule g)).dirty.length +
     (new.filter (fun k => regionOfGranule k == regionOfGranule g)).length > 4096)))

/-- The same for one granule. -/
def State.tableFull (s : State) (g : Nat) : Bool := s.lacksEntries [g]

/-- A write of ranges waits for an entry of a dirty table (R361). -/
def State.needsEntry (s : State) (l : List (Nat × Nat)) : Bool := s.lacksEntries (rangeGranules l)

/-- The VI that an operation of the part's own is counted for (R340). -/
def State.opVi (s : State) (who : OpWho) : Option Nat :=
  match who with
  | .cmd v => some v
  | .event v => some v
  | .complete n => (s.stream n).map (·.owner)
  | .ratio n _ => (s.stream n).map (·.owner)
  | .scrub id => (s.regions.findSome? (fun r => r.2.scrub.bind (fun b => if b.id = id then some b.vi else none)))

/-- Read an operand: its status and bytes. -/
def State.readOp (s : State) (who : OpWho) (vi : Nat) (op : Operand) : Nat × Bytes × State :=
  match s.opSegs who op false with
  | (0, segs, s) =>
    if !s.rangesServe (segRanges segs) then (stRETRY, [], s)
    else if s.readHeld (segRanges segs) || s.fillHolds (segRanges segs) false then (parkWait, [], s)
    else match s.ownAccess (.op who) .rd (segRanges segs) with
    | (some n, s) => (lineWait n, [], s)
    | (none, s) =>
      let (r, s) := s.readSegs (some vi) segs
      (if r.poison then stPOISON else stOK, r.data,
       (s.countPoison vi r.poison).countLost ((segs.head?.map (·.pa)).getD 0) (r.lost && !r.poison))
  | (st, _, s) => (st, [], s)

/-- Write the start of an operand: its status. -/
def State.writeOp (s : State) (who : OpWho) (op : Operand) (bs : Bytes) : Nat × State :=
  if bs.length > op.len then (stBOUND, s) else
  match s.opSegs who { op with len := bs.length } true with
  | (0, segs, s) =>
    if !s.rangesServe (segRanges segs) || s.writeBarred (segRanges segs) then (stRETRY, s)
    else if s.fillHolds (segRanges segs) true || s.needsEntry (segRanges segs) then (parkWait, s)
    else match s.ownAccess (.op who) .wr (segRanges segs) with
    | (some n, s) => (lineWait n, s)
    | (none, s) =>
      let (r, s) := (s.countFills op.window (segRanges segs)).writeSegs segs bs
      (if r.poison then stPOISON else stOK,
       match s.opVi who with | some v => s.countPoison v r.poison | none => s)
  | (st, _, s) => (st, s)

end Sys2Proof.Machine
end

