-- ==== Sys2Proof/Machine/Request.lean ====
section
/-! DEFINITION. The path of a request (R30 to R34): the checks, translation with its waits, the
order of the home and of the fill table, and its effect on the pool with its answer (R48, R49, R57
to R59, R63, R75, R85, R155, R257, R329). -/
namespace Sys2Proof.Machine

open Sys2Proof

/-- What a request does. -/
inductive ReqKind where
  | rd | shared | own | claim | wr | atomic | copy
deriving DecidableEq, Repr

/-- The kind of a message (R257); a gather write is a write. -/
def kindOf (p : Pkt) : ReqKind :=
  if p.ptype = 1 then
    (if p.subop = 1 then .shared else if p.subop = 2 then .own else if p.subop = 3 then .claim else .rd)
  else if p.ptype = 3 then .atomic
  else if p.ptype = 4 then .copy
  else .wr

def ReqKind.cacheable (k : ReqKind) : Bool := k == .shared || k == .own || k == .claim
def ReqKind.writes (k : ReqKind) : Bool := k == .wr || k == .atomic || k == .copy

/-- The operation that a kind is at the home (R66). -/
def ReqKind.lineOp (k : ReqKind) : LineOp :=
  match k with
  | .rd => .rd
  | .copy => .rd
  | .shared => .shared
  | .own => .own
  | .claim => .claim
  | .wr => .wr
  | .atomic => .wr

/-- Bytes of the operation. -/
def reqLen (p : Pkt) : Nat := if p.ptype = 2 ∨ p.ptype = 9 then p.payload.length else p.opLen

/-- Access kind of a TRANSLATION_MISS (R398). -/
def ReqKind.access (k : ReqKind) : Nat :=
  match k with
  | .wr => 1
  | .copy => 1
  | .atomic => 2
  | .rd => 0
  | .shared => 0
  | .own => 0
  | .claim => 0

/-! ### The list of requests in the part -/

def State.waitOf (s : State) (id : Nat) : Option Waiting := s.waiting.find? (fun w => w.id == id)

def State.modWait (s : State) (id : Nat) (f : Waiting → Waiting) : State :=
  { s with waiting := s.waiting.map (fun w => if w.id == id then f w else w) }

/-- The payload of a fabric write or contribution through a translated window stays in its link die's ingress
buffer until the data region pulls it, which it does when it performs or refuses the message (R30, R273,
assumption 173). -/
def State.staysIn (s : State) (o : Origin) (p : Pkt) : Bool :=
  match o with
  | .fabric _ => decide ((s.win (addrWindow p.addr)).kind = 2 ∧ !p.payload.isEmpty) && (p.ptype == 2 || p.ptype == 8 || p.ptype == 9)
  | .hostIo _ => false
  | .cxl _ _ => false
  | .local _ _ _ => false

/-- Ingress bytes of a message whose payload is kept, or no longer. -/
def State.ingress (s : State) (p : Pkt) (add : Bool) : State :=
  s.modDie p.dpg (fun d =>
    let f (n : Nat) : Nat := if add then n + wireBytes p else n - wireBytes p
    if p.ptype = 2 then { d with reqOcc := f d.reqOcc } else { d with colOcc := f d.colOcc })

/-- Enter a request that has passed checks 1 to 3 into the part, with its subscriber VI and class (R285). -/
def State.admitReq (s : State) (o : Origin) (p : Pkt) (vi : Option Nat) (cls : Nat) (pl : Option Plan) : Nat × State :=
  let stays := s.staysIn o p
  let w : Waiting := ⟨s.reqNo, p, o, .retryMiss, s.reqNo, s.now, vi, cls, [], stays, pl⟩
  (s.reqNo, State.when { s with reqNo := s.reqNo + 1, waiting := s.waiting ++ [w] } stays (fun s => s.ingress p true))

/-- A request that is parked leaves its line: the time for which it was parked is counted for the VIs of its agent and
of the extent (R90). -/
def State.unpark (s : State) (w : Waiting) : State :=
  match w.why with
  | .parked line =>
    let x := match w.origin with
      | .fabric _ => s.agentOfNode w.pkt.srcNode
      | .cxl port _ => s.hostAgent port
      | .hostIo _ => none
      | .local _ _ _ => none
    (s.cohVis x.toList line).foldl (fun s v => s.countMax v 0x3160 ((s.now - w.since) / 1260)) s
  | _ => s

/-- The request is answered: it leaves the part. -/
def State.dropReq (s : State) (id : Nat) : State :=
  let s := (s.waiting.filter (fun w => w.id == id)).foldl (fun s w => s.unpark w) s
  let kept := (s.waiting.filter (fun w => w.id == id && w.ingress)).map (·.pkt)
  kept.foldl (fun s p => s.ingress p false) { s with waiting := s.waiting.filter (fun w => w.id != id) }

/-- The request waits: for the same thing as before it keeps its place and its time, else it goes to the end. -/
def State.holdReq (s : State) (id : Nat) (why : Why) : State :=
  match s.waitOf id with
  | none => s
  | some w =>
    if w.why == why then s
    else
      let s := s.unpark w
      { s with reqNo := s.reqNo + 1,
               waiting := s.waiting.filter (fun x => x.id != id) ++ [{ w with why := why, ord := s.reqNo, since := s.now }] }

/-- The region that answers a request from its lookups (R30, R298): of the first page that fails or waits, the region
that translates it where that ends it, and else the one that holds it; where every page is resolved, that of the first. -/
def State.answerRegion (s : State) (l : List PageLook) : Nat :=
  let ends (p : PageLook) : Option Nat :=
    match p.res with
    | .wait g _ => some g
    | .fail _ _ => some ((s.transRegion p.window p.off).getD 0)
    | .ok x => (s.checkAt x.ext x.pa x.len).map (fun _ => stackOf x.pa)
  let first (best : Option (Nat × Nat)) (p : PageLook) : Option (Nat × Nat) :=
    match ends p with
    | some g => match best with
      | some b => if p.rel < b.1 then some (p.rel, g) else best
      | none => some (p.rel, g)
    | none => best
  match l.foldl first none with
  | some b => b.2
  | none => ((l.findSome? (fun p => match p.res with | .ok x => some (stackOf x.pa) | _ => none))).getD 0

/-- End a request with a status and no data (R57). -/
def State.failReq (s : State) (id status : Nat) : State :=
  match s.waitOf id with
  | none => s
  | some w =>
    let k := kindOf w.pkt
    let g := (w.plan.bind (fun p => (p.src ++ p.dst).head?)).map (fun x => stackOf x.pa)
    (s.dropReq id).reply (g.getD (s.answerRegion w.looks)) w.origin w.pkt w.vi w.cls false status (if k.writes then 4 else 2) 0 []

/-! ### Reservations, fills and lines -/

def Seg.granules (x : Seg) : List Nat := if x.len = 0 then [] else
  span (granuleOf x.pa) (granuleOf (x.pa + x.len - 1) + 1 - granuleOf x.pa)

def Seg.lines (x : Seg) : List Nat := if x.len = 0 then [] else
  span (x.pa / 64) ((x.pa + x.len - 1) / 64 + 1 - x.pa / 64)

/-- The granule is wholly covered by the piece. -/
def Seg.covers (x : Seg) (g : Nat) : Bool :=
  decide (x.pa ≤ g * granuleBytes ∧ (g + 1) * granuleBytes ≤ x.pa + x.len)

/-- What stands in the way of a request's data access. -/
inductive Gate where
  | go
  | hold (why : Why)
  | answer (status : Nat)
deriving DecidableEq, Repr

/-- Regions in reset (R17), queues unavailable (R26), reservations (R155, R438) and fills in progress (R49). -/
def State.dataGate (s : State) (k : ReqKind) (src dst : List Seg) : Gate :=
  if (src ++ dst).any (fun x => !s.stackServes (stackOf x.pa)) then .answer stRETRY
  else if (dst.flatMap Seg.granules).any (fun g => (s.reservation g).isSome) then .answer stRETRY
  else if (k == .own || k == .claim) && (src.any (fun x => s.coherentAt (granuleOf x.pa) &&
      (s.reservation (granuleOf x.pa)).isSome)) then .answer stRETRY
  else match (src.flatMap Seg.granules).find? (fun g => s.reservation g == some true) with
    | some g => .hold (.stamp g)
    | none =>
      if s.lacksEntries (dst.flatMap Seg.granules) then .hold .cycle else
      match ((src ++ dst).flatMap Seg.granules).find? (fun g =>
          (s.region (regionOfGranule g)).fills.contains g) with
      | some g => .hold (.fill g)
      | none => .go

/-- Prepare lines one after another at their homes (R65). -/
def State.prepLines (s : State) (id : Nat) (op : LineOp) (x : Option Nat) : List Nat → Gate × State
  | [] => (.go, s)
  | l :: r =>
    match s.prepLine id op x l with
    | (.ok, s) => s.prepLines id op x r
    | (.park, s) => (.hold (.parked l), s)
    | (.opened, s) => (.hold (.txn l), s)
    | (.retry, s) => (.answer stRETRY, s)

/-- The lines of pieces that lie in coherent extents. -/
def State.coherentLines (s : State) (segs : List Seg) : List Nat :=
  (segs.filter (fun x => (s.ext x.ext).coherent)).flatMap Seg.lines

/-- The owner of the window that a request goes through; a CXL.mem access names the PA itself. -/
def Waiting.windowVi (w : Waiting) : Option Nat :=
  match w.origin with
  | .cxl _ _ => none
  | .fabric _ => w.vi
  | .hostIo _ => w.vi
  | .local _ _ _ => w.vi

/-- Open the zero-fill of the first invalid granule that a write does not cover (R49), counted for the owner of
the window of the write, if it has one (R61). -/
def State.fillGate (s : State) (vi : Option Nat) (dst : List Seg) : Gate × State :=
  match (dst.flatMap (fun x => (x.granules.filter (fun g => !s.isValid g && !x.covers g)))).head? with
  | none => (.go, s)
  | some g =>
    let r := regionOfGranule g
    if (s.region r).fills.length ≥ 64 then (.answer stRETRY, s)
    else
      let s := s.modRegion r (fun q => { q with fills := q.fills ++ [g] })
      (.hold (.fill g), match vi with | some v => s.count v 0x3130 1 | none => s)

/-! ### Effects -/

/-- The status of an access that met poison or a lost-dirty mark, in the order of R85. -/
def accessStatus (poison lost : Bool) (other : Nat) : Nat :=
  if poison then stPOISON else if lost then stLOST_DIRTY else other

def State.countAccess (s : State) (vi : Option Nat) (x : Option Nat) (pa status : Nat) (rd : Bool) : State :=
  let s := match vi with
    | some v => s.countPoison v (status == stPOISON)
    | none => s
  if status = stLOST_DIRTY && rd then s.countCoh x.toList (pa / 64) 0x3188 else s

/-- The atomic operation of R257 on the 8 old bytes. -/
def atomicNew (aop : Nat) (old opnd : Bytes) : Bytes :=
  let a := leNat old
  let b := fld opnd 0 8
  if aop = 1 then toLe 8 (a + b)
  else if aop = 2 then toLe 8 b
  else if aop = 3 then (if a = b then slice opnd 8 8 else old)
  else if aop = 4 then
    toLe 4 (fAdd (BitVec.ofNat 32 (fld old 0 4)) (BitVec.ofNat 32 (fld opnd 0 4))).toNat ++ slice old 4 4
  else if sext 64 a < sext 64 b then toLe 8 b else old

/-- What a request did: the state after it, its status, SUBOP, INFO and data. -/
structure Done where
  status : Nat
  subop  : Nat
  info   : Word64
  data   : Bytes
deriving DecidableEq, Repr

def mirroredSegs (s : State) (segs : List Seg) : Bool := segs.any (fun x => (s.ext x.ext).mirrored)

/-- A read of pieces (R48, R59, R329). -/
def State.doRead (s : State) (pl : Plan) : Done × State :=
  let (r, s) := s.readSegs pl.vi pl.src
  (⟨accessStatus r.poison r.lost (if pl.cut.isSome then stPARTIAL else stOK), 2,
    BitVec.ofNat 64 (pl.cut.getD 0), r.data⟩, s)

/-- A cacheable read of one line (R63, R75). A host that claims a line gets data (R78). -/
def State.doCache (s : State) (k : ReqKind) (x : Option Nat) (pl : Plan) : Done × State :=
  let pa := ((pl.src.head?.map (·.pa)).getD 0) / 64 * 64
  let ext := (pl.src.head?.map (·.ext)).getD 0
  if (s.ext ext).coherent then
    match x with
    | none => (⟨stBOUND, 2, 0, []⟩, s)
    | some a =>
      let (had, s) := s.grantLine k.lineOp a (pa / 64)
      if k == .claim && had && decide (2 ≤ a) then (⟨stOK, 3, BitVec.ofNat 64 pa, []⟩, s)
      else
        let (r, s) := s.read pl.vi pa 64
        (⟨accessStatus r.poison r.lost stOK, if k == .shared then 0 else 1, BitVec.ofNat 64 pa, r.data⟩, s)
  else
    let (r, s) := s.read pl.vi pa 64
    (⟨accessStatus r.poison r.lost stOK, 2, BitVec.ofNat 64 pa, r.data⟩, s)

/-- A write of pieces (R59, R85, R329). -/
def State.doWrite (s : State) (data : Bytes) (pl : Plan) : Done × State :=
  let (r, s) := s.writeSegs pl.dst data
  (⟨accessStatus r.poison r.lost (if pl.cut.isSome then stPARTIAL else stOK), 4,
    BitVec.ofNat 64 (pl.cut.getD 0), []⟩, s)

/-- An atomic (R257): a poisoned word is left unchanged (R329). -/
def State.doAtomic (s : State) (aop : Nat) (opnd : Bytes) (pl : Plan) : Done × State :=
  let (r, s) := s.readSegs pl.vi pl.dst
  if r.poison then (⟨stPOISON, 4, 0, []⟩, s)
  else
    let (q, s) := s.writeSegs pl.dst (atomicNew aop r.data opnd)
    (⟨accessStatus q.poison (q.lost || r.lost) stOK, 4, BitVec.ofNat 64 (leNat r.data), []⟩, s)

/-- A copy (R59, R257). Poisoned source data moves nothing (assumption 23). -/
def State.doCopy (s : State) (pl : Plan) : Done × State :=
  let (r, s) := s.readSegs pl.vi pl.src
  if r.poison then (⟨stPOISON, 4, 0, []⟩, s)
  else
    let (q, s) := s.writeSegs pl.dst r.data
    (⟨accessStatus q.poison (q.lost || r.lost) (if pl.cut.isSome then stPARTIAL else stOK), 4,
      BitVec.ofNat 64 (pl.cut.getD 0), []⟩, s)

/-- Perform a request whose way is free. -/
def State.perform (s : State) (p : Pkt) (x : Option Nat) (pl : Plan) : Done × State :=
  match kindOf p with
  | .rd => s.doRead pl
  | .shared => s.doCache .shared x pl
  | .own => s.doCache .own x pl
  | .claim => s.doCache .claim x pl
  | .wr => s.doWrite p.payload pl
  | .atomic => s.doAtomic p.aop p.payload pl
  | .copy => s.doCopy pl

/-- The caching agent that sent a request (R64). -/
def State.requester (s : State) (w : Waiting) : Option Nat :=
  match w.origin with
  | .fabric _ => s.agentOfNode w.pkt.srcNode
  | .cxl port _ => s.hostAgent port
  | .hostIo _ => none
  | .local _ _ _ => none

/-- The home has taken the request in already (R65). -/
def Why.atHome (y : Why) : Bool :=
  match y with
  | .parked _ => true
  | .txn _ => true
  | .fill _ => true
  | .fillRoom _ => true
  | .stamp _ => true
  | .miss _ _ _ => false
  | .mesh _ => false
  | .retryMiss => false
  | .cycle => false
  | .role => false

/-- A request is held after its way was prepared; one that is newly parked is counted (R90). -/
def State.holdCoh (s : State) (id : Nat) (x : Option Nat) (why : Why) : State :=
  let was := (s.waitOf id).map (·.why)
  let t := s.holdReq id why
  match why with
  | .parked l => if was == some why then t else t.countCoh x.toList l 0x3158
  | .miss _ _ _ => t | .fill _ => t | .fillRoom _ => t | .txn _ => t | .mesh _ => t
  | .stamp _ => t | .retryMiss => t | .cycle => t | .role => t

/-- A home with a full pending queue takes no further request of the REQ class (R65): its region. -/
def State.meshHold (s : State) (w : Waiting) (lines : List Nat) : Option Nat :=
  if w.why.atHome || !(decide (1 ≤ w.pkt.ptype ∧ w.pkt.ptype ≤ 4)) then none
  else (lines.map homeOf).find? (fun g => s.queueFull g)

/-- Serve a translated request from the home on. -/
def State.serve (s : State) (id : Nat) : State :=
  match s.waitOf id with
  | none => s
  | some w =>
    match w.plan with
    | none => s
    | some pl =>
      let k := kindOf w.pkt
      let x := s.requester w
      let coh := s.coherentLines pl.src
      if s.cyc.roleStep ≠ 0 && w.why == .retryMiss then s.holdReq id .role else
      if k.cacheable && x.isNone && !coh.isEmpty then s.failReq id stBOUND else
      match s.dataGate k pl.src pl.dst with
      | .answer st => s.failReq id st
      | .hold why => s.holdReq id why
      | .go =>
        match s.meshHold w (coh ++ s.coherentLines pl.dst) with
        | some g => s.holdReq id (.mesh g)
        | none =>
        let (g1, s) := s.prepLines id k.lineOp x (if k.writes && !(k == .copy) then [] else coh)
        match g1 with
        | .answer st => s.failReq id st
        | .hold why => s.holdCoh id x why
        | .go =>
          let (g2, s) := s.prepLines id .wr x (s.coherentLines pl.dst)
          match g2 with
          | .answer st => s.failReq id st
          | .hold why => s.holdCoh id x why
          | .go =>
            match s.fillGate w.windowVi pl.dst with
            | (.answer st, s) => s.failReq id st
            | (.hold why, s) => s.holdReq id why
            | (.go, s) =>
              let (d, s) := s.perform w.pkt x pl
              let first := (((pl.src ++ pl.dst).head?).map (·.pa)).getD 0
              let s := s.countAccess pl.vi x first d.status (!k.writes)
              (s.dropReq id).reply (stackOf first) w.origin w.pkt pl.vi pl.cls (mirroredSegs s pl.dst)
                d.status d.subop d.info d.data

/-! ### The checks and translation -/

/-- Cut pieces to `n` bytes. -/
def takeSegs (n : Nat) : List Seg → List Seg
  | [] => []
  | x :: r => if n = 0 then [] else { x with len := min n x.len } :: takeSegs (n - x.len) r

/-- The window address of a copy's source (R257). -/
def copySrc (p : Pkt) : Word64 := BitVec.ofNat 64 (fld p.payload 0 8)

/-- Look up every page of a request (R58): the source of a copy is range 1, everything else range 0. -/
def State.lookReq (s : State) (p : Pkt) : List PageLook × State :=
  let k := kindOf p
  let n := if k.cacheable then 64 else reqLen p
  let o := if k.cacheable then addrOffset p.addr / 64 * 64 else addrOffset p.addr
  let (l, s) := s.lookRange 0 (addrWindow p.addr) o n k.access
  if k == .copy then
    let (m, s) := s.lookRange 1 (addrWindow (copySrc p)) (addrOffset (copySrc p)) n 0
    (l ++ m, s)
  else (l, s)

/-- The translation of a request whose first `cut` bytes go on (R58, R59). -/
def Waiting.planOf (w : Waiting) (cut : Option Nat) : Plan :=
  let k := kindOf w.pkt
  let part (i : Nat) : List Seg := match cut with
    | some m => takeSegs m (lookSegs w.looks i)
    | none => lookSegs w.looks i
  if k == .copy then ⟨w.vi, w.cls, part 1, part 0, cut⟩
  else if k.writes then ⟨w.vi, w.cls, [], part 0, cut⟩
  else ⟨w.vi, w.cls, part 0, [], cut⟩

/-- Judge the pages of a request: it waits, is served, or is answered (R58). A plain read, write or copy of more
than one page completes up to the first failing page (R59); a request of one page takes the status of its check. -/
def State.judgeReq (s : State) (id : Nat) : State :=
  match s.waitOf id with
  | none => s
  | some w =>
    let go (cut : Option Nat) : State := (s.modWait id (fun w => { w with plan := some (w.planOf cut) })).serve id
    match s.judge w.looks with
    | .ok => go none
    | .wait g a c => s.holdReq id (.miss g a c)
    | .retry => s.failReq id stRETRY
    | .bad off st => if manyPages w.looks then go (some off) else s.failReq id st

/-- Translate a request that passed check 3 and go on with it (R58, R59). -/
def State.translateReq (s : State) (id : Nat) : State :=
  match s.waitOf id with
  | none => s
  | some w =>
    if s.cyc.roleStep ≠ 0 && w.why == .retryMiss then s.holdReq id .role else
    let (l, s) := s.lookReq w.pkt
    (s.modWait id (fun w => { w with looks := l })).judgeReq id

/-- Checks 2 and 3 of R34 on one window access. -/
def State.checkWindow (s : State) (w o n : Nat) (wr atomic : Bool) : Option Nat :=
  let win := s.win w
  if win.kind = 0 then some stNOT_MAPPED
  else if o + n > win.limit ∨ (wr && !win.writeEn) ∨ (atomic && !(win.atomicEn && win.writeEn)) then some stBOUND
  else none

/-- The size and alignment that R257 asks of a type (check 3), and the format of a gather write (R91). -/
def badForm (p : Pkt) : Bool :=
  let n := reqLen p
  match kindOf p with
  | .rd => n = 0 ∨ n > 4096
  | .shared => n ≠ 64
  | .own => n ≠ 64
  | .claim => n ≠ 64
  | .wr => p.ptype = 9 ∧ p.fmt > 7
  | .atomic => n ≠ 8 ∨ addrOffset p.addr % 8 ≠ 0 ∨ p.aop = 0 ∨ p.aop > 5
  | .copy => n = 0

/-- A request for pool data from the fabric, a host port's window access, or the part's own gather
(R34, R342). -/
def State.request (s : State) (o : Origin) (p : Pkt) : State :=
  let k := kindOf p
  let w := addrWindow p.addr
  let own (a : Word64) : Bool := addrNode a == s.aon.nodeId
  let src := copySrc p
  match s.pair.state.refusal with
  | some st => s.replyEdge o p none 7 st
  | none =>
    if !(own p.addr) || (k == .copy && !(own src)) then s.replyEdge o p none 7 stBOUND
    else
      -- check 2 of both windows of a copy comes before check 3 of either (R34)
      match (if k == .copy && (s.win w).kind != 0 && (s.win (addrWindow src)).kind == 0 then some stNOT_MAPPED
             else s.checkWindow w (addrOffset p.addr) (reqLen p) k.writes (k == .atomic)) with
      | some st => if st = stNOT_MAPPED then s.replyEdge o p none 7 st
                   else s.replyEdge o p (some (s.win w).ownerVi) (s.win w).cls st
      | none =>
        let bad := badForm p || (k == .copy && (s.checkWindow (addrWindow src) (addrOffset src) (reqLen p)
            false false == some stBOUND))
        if bad then s.replyEdge o p (some (s.win w).ownerVi) (s.win w).cls stBOUND
        else
          let (id, s) := s.admitReq o p (some (s.win w).ownerVi) (s.win w).cls none
          s.translateReq id

/-- A CXL.mem access, which names the PA itself: checks 5 to 7 of R34. -/
def State.requestPa (s : State) (o : Origin) (p : Pkt) (port pa : Nat) : State :=
  match s.pair.state.refusal with
  | some st => s.replyEdge o p none 7 st
  | none =>
    let n := reqLen p
    let ext := ((s.extentOf (granuleOf pa)).map (·.1)).getD 0
    let vi := pfOf port
    match (if outOfPool pa n then some stBOUND else s.checkData ext pa n) with
    | some st => s.replyEdge o p (some vi) 3 st
    | none =>
      let k := kindOf p
      let seg : List Seg := [⟨pa, n, ext⟩]
      let (id, s) := s.admitReq o p (some vi) 3
        (some ⟨some vi, 3, if k.writes then [] else seg, if k.writes then seg else [], none⟩)
      s.serve id

end Sys2Proof.Machine
end

