-- ==== Sys2Proof/Machine/Streams.lean ====
section
/-! DEFINITION. Collective streams: tiles and where they lie (R121, R149, R150, R464), ranks and
clusters (R129, R131), workspaces (R134, R135), the end of tiles (R130, R139, R142, R166), gather
writes (R148, R164, R285, R293) and norm groups (R162). -/
namespace Sys2Proof.Machine

open Sys2Proof

/-! ### Tiles of a descriptor -/

def Desc.fused (d : Desc) : Bool := d.stages == 7
def Desc.reduceOnly (d : Desc) : Bool := d.stages == 1
def Desc.reduceGather (d : Desc) : Bool := d.stages == 5
def Desc.gatherOnly (d : Desc) : Bool := d.stages == 4
def Desc.reduces (d : Desc) : Bool := d.stages % 2 == 1
def Desc.isLamb (d : Desc) : Bool := d.recipe == 3

/-- Tiles of the shard (R121). -/
def Desc.tiles (d : Desc) : Nat := cdiv d.elems 4096

/-- Real elements of a tile. -/
def Desc.tileElems (d : Desc) (t : Nat) : Nat := min 4096 (d.elems - 4096 * t)

/-- The distance of tiles in `STATE` (R150, R464). -/
def Desc.tileStep (d : Desc) : Nat :=
  if d.reduceOnly then fmtBytes d.sumFmt 4096 else if d.reduceGather then 0x4000 else granuleBytes

/-- Bytes that a tile occupies in `STATE` (R464). -/
def Desc.tileLen (d : Desc) (t : Nat) : Nat :=
  if d.reduceOnly then fmtBytes d.sumFmt (d.tileElems t)
  else if d.reduceGather then 4 * d.tileElems t else granuleBytes

/-- Delta and rebase entries of a descriptor, as indices of its gather entries (R177). -/
def Desc.residuals (d : Desc) : List Nat :=
  (List.range d.gather.length).filter (fun k =>
    match (d.gather)[k]? with | some e => e.delta || e.rebase | none => false)

/-- The units of a tile in `STATE` and the residual ranges (R465), as (operand, offset, length). -/
def Desc.units (d : Desc) (t : Nat) : List (Operand × Nat × Nat) :=
  (d.stateOp, t * d.tileStep, d.tileLen t) ::
  d.residuals.filterMap (fun k => (d.gather)[k]?.map (fun e => (e.residual, 8192 * t, 2 * d.tileElems t)))

/-- The tile is a tile of the stream (R149). -/
def Stream.selected (x : Stream) (t : Nat) : Bool :=
  decide (t < x.desc.tiles) &&
  match x.selBits with
  | none => true
  | some b => tbit (lget 0#8 b (t / 8)).toNat (t % 8)

def Stream.selTiles (x : Stream) : List Nat := (List.range x.desc.tiles).filter x.selected

/-! ### Where operands lie -/

/-- The PA and the extent of an offset of a window, without a lookup that moves an entry. -/
def State.peek (s : State) (w o : Nat) : Option (Nat × Nat) :=
  let win := s.win w
  if win.kind = 1 then some (win.basePa + o, win.extentId)
  else if win.kind = 2 then
    let sh := pageShift win.pageSize
    ((s.regions.flatMap (fun r => r.2.tcache ++ r.2.mirror)).find? (fun x => x.hits w sh o)).map
      (fun x => (x.pa sh o, x.extent))
  else none

def State.peekOp (s : State) (op : Operand) (o : Nat) : Option Nat := (s.peek op.window (op.off + o)).map (·.1)

/-- The extent of an offset of an operand. -/
def State.peekExt (s : State) (op : Operand) (o : Nat) : Option Nat := (s.peek op.window (op.off + o)).map (·.2)

/-- What a range of a window maps now, as (offset from its start, PA, length, extent): a raw window whole, a
translated one as far as the mirror holds it. -/
def State.spansOf (s : State) (op : Operand) : List (Nat × Nat × Nat × Nat) :=
  let win := s.win op.window
  if win.kind = 1 then [(0, win.basePa + op.off, op.len, win.extentId)]
  else
    let sh := pageShift win.pageSize
    (s.runsOf op.window).filterMap (fun r =>
      let a := (r.group * 64 + r.start) * 2 ^ sh
      let lo := max a op.off
      let hi := min (a + r.len * 2 ^ sh) (op.off + op.len)
      if lo < hi then some (lo - op.off, r.paPage * granuleBytes + (lo - a), hi - lo, r.extent) else none)

/-- A unit of an operand lies in one run of physical addresses (R465): its PA. -/
def State.unitAt (s : State) (op : Operand) (o n : Nat) : Option Nat :=
  match s.peekOp op o with
  | none => none
  | some pa =>
    let sh := pageShift (s.win op.window).pageSize
    if (s.win op.window).kind ≠ 2 then some pa
    else if (pagePieces (n / 2 ^ sh + 2) sh (op.off + o) n).all (fun p =>
        (s.peek op.window p.1).map (·.1) == some (pa + (p.1 - op.off - o))) then some pa
    else none

/-- The PA of a tile in `STATE`. -/
def State.tilePa (s : State) (x : Stream) (t : Nat) : Option Nat :=
  s.peekOp x.desc.stateOp (t * x.desc.tileStep)

/-- The region of a tile (R131). -/
def State.tileRegion (s : State) (x : Stream) (t : Nat) : Option Nat := (s.tilePa x t).map stackOf

/-- Tiles of the stream in a region, ascending. -/
def State.regionTiles (s : State) (x : Stream) (g : Nat) : List Nat :=
  x.selTiles.filter (fun t => s.tileRegion x t == some g)

/-- Regions that hold tiles of the stream. -/
def State.streamRegions (s : State) (x : Stream) : List Nat :=
  (List.range 12).filter (fun g => x.selTiles.any (fun t => s.tileRegion x t == some g))

/-- Rank of a tile in its region (R129). -/
def rankIn (l : List Nat) (t : Nat) : Nat := (l.filter (fun u => decide (u < t))).length

/-- Base of a region: the rank of the lowest tile not completed (R129). -/
def Stream.base (x : Stream) (l : List Nat) : Nat := (l.takeWhile (fun t => x.completed.contains t)).length

/-- The cluster of a tile (R131). -/
def clusterOf (x : Stream) (g rank : Nat) : Nat := 8 * g + (rank + x.desc.cstream) % 8

/-- Cluster of a tile, by its place. -/
def State.tileCluster (s : State) (x : Stream) (t : Nat) : Option Nat :=
  (s.tileRegion x t).map (fun g => clusterOf x g (rankIn (s.regionTiles x g) t))

/-! ### Workspaces (R135) -/

def Stream.ws (x : Stream) (g : Nat) : Operand := lget Operand.absent x.desc.ws g

/-- Offsets of accumulator slot, side state and hold slot in a workspace. -/
def accOff (n : Nat) : Nat := n * granuleBytes
def Desc.sideOff (d : Desc) (n : Nat) : Nat := d.wsSlots * granuleBytes + n * 2048
def Desc.holdOff (d : Desc) (rank : Nat) : Nat := d.wsSlots * 67584 + rank * 16384

/-- Bytes of an accumulator area. -/
def accBytes (acc : Tbl Int) : Bytes := (List.range 4096).flatMap (fun k => toLe 16 (wrapInt 128 (tget 0 acc k)))

/-- A set of numbers as a bitmap of `n` bytes. -/
def bitmap (n : Nat) (l : List Nat) : Bytes :=
  (List.range n).map (fun i => BitVec.ofNat 8 (((List.range 8).filter (fun j => l.contains (8 * i + j))).foldl
    (fun a j => a + 2 ^ j) 0))

/-- The numbers of the bits set in a bitmap. -/
def bitsOf (b : Bytes) : List Nat := (List.range (8 * b.length)).filter (fun i => tbit (lget 0#8 b (i / 8)).toNat (i % 8))

/-- The side state of a tile (R135). -/
def sideBytes (t : Tile) : Bytes :=
  bitmap 512 t.dup ++ bitmap 512 t.nf ++ toLe 4 t.stream ++ toLe 4 t.tile ++ toLe 2 t.count ++
  toLe 2 (match t.maxExp with | some e => wrapInt 16 e | none => 0x8000) ++
  toLe 1 (b2n t.sat + 2 * b2n t.nonFin + 4 * b2n t.poison + 8 * b2n t.inProgress + 16) ++ zeros 3 ++
  toLe 4 t.satElems ++ zeros 1004

/-- The tile that a side state and accumulators hold. -/
def parseTile (side acc : Bytes) : Tile :=
  let f := fld side 0x40C 1
  let m := fld side 0x40A 2
  { stream := fld side 0x400 4, tile := fld side 0x404 4, dup := bitsOf (slice side 0 512),
    nf := bitsOf (slice side 0x200 512), count := fld side 0x408 2,
    maxExp := if m = 0x8000 then none else some (sext 16 m), sat := tbit f 0, nonFin := tbit f 1,
    poison := tbit f 2, inProgress := tbit f 3, satElems := fld side 0x410 4,
    acc := (List.range 4096).foldl (fun a k => tset 0 a k (sext 128 (fld acc (16 * k) 16))) [] }

/-- A tile without contributions. -/
def Tile.fresh (stream tile : Nat) : Tile := ⟨stream, tile, [], [], 0, none, false, false, false, false, 0, []⟩

/-- PAs of the accumulators and the side state of a workspace slot, when R465 holds for both. -/
def State.wsSlot (s : State) (x : Stream) (g n : Nat) : Option (Nat × Nat) :=
  match s.unitAt (x.ws g) (accOff n) granuleBytes, s.unitAt (x.ws g) (x.desc.sideOff n) 2048 with
  | some a, some b => some (a, b)
  | _, _ => none

/-- Pieces that follow each other in physical addresses. -/
def contiguous : List Seg → Bool
  | [] => true
  | [_] => true
  | a :: b :: r => a.pa + a.len == b.pa && contiguous (b :: r)

/-- The pieces lie in the stack of a region (R16). -/
def inStack (g : Nat) (l : List Seg) : Bool := l.all (fun x => stackOf x.pa == g && stackOf (x.pa + x.len - 1) == g)

/-- Read a spilled tile of a VI's stream (R340). A poisoned accumulator sets its POISON flag (R141); an uncorrectable word of the side
state is used as it was read and sets no flag (assumption 172). -/
def State.loadSpill (s : State) (vi acc side : Nat) : Tile × State :=
  let (a, s) := s.read (some vi) acc granuleBytes
  let (b, s) := s.read (some vi) side 2048
  let t := parseTile b.data a.data
  ({ t with poison := t.poison || a.poison }, s.countPoison vi (a.poison || b.poison))

def State.storeSpill (s : State) (acc side : Nat) (t : Tile) : State :=
  (s.storeQuiet acc (accBytes t.acc)).storeQuiet side (sideBytes t)

/-! ### Finding open tiles -/

/-- Where an open tile lies: an SRAM slot of a cluster, or a workspace slot of a region with the PAs of its
accumulators and side state. -/
inductive Place where
  | sram (cluster slot : Nat)
  | spill (region slot acc side : Nat)
deriving DecidableEq, Repr

/-- The SRAM slot of an open tile: it never moves, whatever its rank is now (R131). -/
def State.sramPlace (s : State) (n t g : Nat) : Option (Nat × Nat) :=
  (span (8 * g) 8).findSome? (fun c =>
    ((s.cluster c).tiles.find? (fun e => e.2.stream == n && e.2.tile == t)).map (fun e => (c, e.1)))

/-- The workspace slot of an open tile. -/
def Stream.spillSlot (x : Stream) (t : Nat) : Option (Nat × Nat) :=
  (x.wsUsed.find? (fun w => w.2.2 == t)).map (fun w => (w.1, w.2.1))

/-- The lowest free SRAM slot of a cluster (R134). -/
def Cluster.freeSlot (c : Cluster) : Option Nat :=
  (List.range 64).find? (fun n => (afind c.tiles n).isNone && (afind c.sums n).isNone)

/-- The lowest free workspace slot of a region. -/
def Stream.freeWs (x : Stream) (g : Nat) : Option Nat :=
  (List.range x.desc.wsSlots).find? (fun n => !x.wsUsed.any (fun w => w.1 == g && w.2.1 == n))

/-- The open tile at a place, for a VI's stream. -/
def State.tileAt (s : State) (vi : Nat) (p : Place) : Option Tile × State :=
  match p with
  | .sram c n => (afind (s.cluster c).tiles n, s)
  | .spill _ _ a b => let (t, s) := s.loadSpill vi a b; (some t, s)

def State.putTile (s : State) (p : Place) (t : Tile) : State :=
  match p with
  | .sram c n => s.modCluster c (fun k => { k with tiles := tput k.tiles n t })
  | .spill _ _ a b => s.storeSpill a b t

/-- A workspace slot of a stream is free. -/
def State.freeSlotOf (s : State) (stream g m : Nat) : State :=
  s.modStream stream (fun x => { x with wsUsed := x.wsUsed.filter (fun w => !(w.1 == g && w.2.1 == m)) })

/-- Open Confluence tiles of a stream: (cluster, slot, tile). -/
def State.openTiles (s : State) (n : Nat) : List (Nat × Nat × Nat) :=
  s.clusters.flatMap (fun c => (c.2.tiles.filter (fun t => t.2.stream == n)).map (fun t => (c.1, t.1, t.2.tile)))

/-! ### Ends of tiles -/

/-- The completion bit of a tile is set (R129). -/
def Stream.complete (x : Stream) (t : Nat) : Stream := { x with completed := insSet x.completed t }

/-- A tile ends with a status that is not OK. -/
def State.failTile (s : State) (n t status : Nat) : State :=
  let sat := match s.stream n with | some x => x.satTiles.contains t | none => false
  s.endTile n t ⟨.failed, status, sat⟩

/-- Mark a tile SATURATED in some stage (R101). -/
def State.satTile (s : State) (n t : Nat) : State :=
  s.modStream n (fun x => { x with satTiles := insSet x.satTiles t })

/-- An open tile is lost or discarded by a reset (R139, R140): the event and the counts. -/
def State.tileLost (s : State) (n t : Nat) : State :=
  match s.stream n with
  | none => s
  | some x =>
    ((s.modStream n (fun x => { x with lost := x.lost + 1 })).count x.owner 0x31E8 1).post x.owner
      evCONF_TILE_LOST 0 (evTile n t)

/-- Free the slot or buffer that holds the sums of an entry of cluster `c` (R181, R184). -/
def State.freeSums (s : State) (c : Nat) (q : QEntry) : State :=
  match q.loc with
  | .slot => s.modCluster (8 * (c / 8) + q.cluster) (fun k => { k with sums := tdel k.sums q.slot })
  | .buffer => s.modCluster c (fun k => { k with bufs := tdel k.bufs q.slot })
  | .workspace => s
  | .none => s

/-- Every entry of a cluster: queued, in transit to it, and held for a full queue. -/
def Cluster.entries (k : Cluster) : List QEntry := k.queue ++ k.transit ++ k.heldOut

/-- Take the entries that `f` names out of a cluster, with their sums. -/
def State.dropEntries (s : State) (c : Nat) (f : QEntry → Bool) : State :=
  let s := ((s.cluster c).entries.filter f).foldl (fun s q => s.freeSums c q) s
  s.modCluster c (fun k => { k with queue := k.queue.filter (fun q => !f q),
                                    transit := k.transit.filter (fun q => !f q),
                                    heldOut := k.heldOut.filter (fun q => !f q) })

/-- Engines give up the claimed entries that `f` names (R181). -/
def State.dropClaims (s : State) (f : Nat → QEntry → Bool) : State :=
  let gone (e : Nat × Engine) : Bool := match e.2.claim with | some k => f e.1 k.entry | none => false
  let ids := (s.engines.filter gone).map (·.1)
  State.dropPlaces { s with engines := s.engines.map (fun (e : Nat × Engine) =>
    (e.1, if gone e then { e.2 with claim := none } else e.2)) } (fun w => ids.any (fun e => w == .engine e))

/-- Take the tiles of a stream that `f` names out of every cluster, workspace and the descriptor
stage: open tiles are freed, queued and claimed ones are not run. -/
def State.dropTiles (s : State) (n : Nat) (f : Nat → Bool) : State :=
  let s := s.dropClaims (fun _ q => q.stream == n && f q.tile)
  let s := (s.clusters.map (·.1)).foldl (fun s c =>
    (s.modCluster c (fun k => { k with tiles := k.tiles.filter (fun t => !(t.2.stream == n && f t.2.tile)) })).dropEntries
      c (fun q => q.stream == n && f q.tile)) s
  s.modStream n (fun x => { x with wsUsed := x.wsUsed.filter (fun w => !f w.2.2),
                                   release := x.release.filter (fun q => !f q.tile),
                                   relLooks := x.relLooks.filter (fun r => !f r.1) })

/-- The engines that hold a tile of a stream: its batch is not accepted. -/
def State.enginesOf (s : State) (n : Nat) : List (Nat × TileRun) :=
  s.engines.filterMap (fun e =>
    match e.2.tile with
    | some r => if r.entry.stream == n then some (e.1, r) else none
    | none => none)

/-- Take back an engine's reservation of a state granule that is not accepted (R155). -/
def State.unreserve (s : State) (g e : Nat) : State :=
  s.modHome (fun h => { h with reserved := h.reserved.filter (fun r => !(r.1 == g && r.2.1 == e && !r.2.2)) })

/-! ### Gather writes -/

/-- A conversion's counts go to the stream's owner (R115). -/
def State.countConv (s : State) (owner : Nat) (c : Conv) : State :=
  ((s.count owner 0x3190 c.sat).count owner 0x3198 c.nonfin).count owner 0x31A0 c.floor

/-- Send a tile to destination `d` from region `g` (R148, R164, R256): to this node as a request of its
own, to another node through the region's weir hold (R293). -/
def State.sendGather (s : State) (n t d g : Nat) (data : Bytes) : State :=
  match s.stream n with
  | none => s
  | some x =>
    match (x.desc.gather)[d]? with
    | none => s
    | some e =>
      let a := e.dest + BitVec.ofNat 64 (t * fmtBytes e.fmt 4096)
      let pk := { Pkt.zero with ptype := 9, srcNode := s.aon.nodeId, dstNode := addrNode a, addr := a,
                                opLen := data.length, cstream := n, fmt := e.fmt, payload := data }
      let s := s.modStream n (fun x => { x with unanswered := x.unanswered ++ [(t, d)] })
      if addrNode a = s.aon.nodeId then s.request (.local n t d) pk
      else
        let o : OutPkt := ⟨pk, .node (addrNode a), some x.owner, (s.win x.desc.stateOp.window).cls, noPort,
                           some (n, t, d), g⟩
        s.modRegion g (fun r => { r with paced := r.paced ++ [o] })

/-- The seed and step of a stream's conversions (R108). -/
def Desc.rnd (d : Desc) (mode site : Nat) : Rnd := ⟨mode, d.seed, d.step.toNat, site⟩

/-! ### Norm groups (R162) -/

def Group.holds (g : Group) (t : Nat) : Bool := decide (g.first ≤ t ∧ t < g.first + g.count)

/-- The index of a tile's group. -/
def Stream.groupOf (x : Stream) (t : Nat) : Option Nat := x.groups.findIdx? (fun g => g.holds t)

def Stream.modGroup (x : Stream) (i : Nat) (f : Group → Group) : Stream :=
  { x with groups := (List.range x.groups.length).zip x.groups |>.map (fun e => if e.1 == i then f e.2 else e.2) }

/-- The stream reaches the group of a tile: whether pass 1 is skipped is decided now, from `RATIO` and
`RATIO_STEP` as they stand in memory. -/
def State.reachGroup (s : State) (n t : Nat) (gw : Word32 × Word32) : State :=
  s.modStream n (fun x => match x.groupOf t with
    | some i => x.modGroup i (fun g =>
        if g.reached then g else { g with reached := true, skip := gw.2 == x.desc.step, ratio := gw.1, ratioStep := gw.2 })
    | none => x)

end Sys2Proof.Machine
end

