-- ==== Sys2Proof/Machine/Confluence.lean ====
section
/-! DEFINITION. The Confluence accumulators: queues of completed tiles (R180), hand-off (R120, R130,
R175, R185), contributions (R127 to R136) and max-exponent reports (R123). -/
namespace Sys2Proof.Machine

open Sys2Proof

/-! ### Steal queues -/

/-- An engine is no longer idle: the A-cycles go to its cluster (R193). -/
def State.idleEnd (s : State) (e : Nat) : State :=
  match (s.engine e).idleAt with
  | none => s
  | some t => (s.modEngine e (fun g => { g with idleAt := none })).modCluster (e / 8) (fun k =>
      { k with idleCyc := k.idleCyc + s.aCyclesSince (e / 384) t })

/-- An entry enters a cluster's queue at its tail (R180); it ends the wait of R183 for the clusters
of the region. -/
def State.pushEntry (s : State) (c : Nat) (q : QEntry) : State :=
  let s := s.modCluster c (fun k =>
    { k with queue := k.queue ++ [q], queueMax := max k.queueMax (k.queue.length + 1) })
  let g := c / 8
  let s := (if (s.region g).stealScope = 0 then span (8 * c) 8 else span (64 * g) 64).foldl (fun s e => s.idleEnd e) s
  (span (8 * g) 8).foldl (fun s d => s.modCluster d (fun k => { k with noSteal := false })) s

/-- The room of a queue: entries in transit to it have their places (R180, R183). -/
def Cluster.room (k : Cluster) : Nat := if k.inReset then 0 else 256 - k.queue.length - k.transit.length

/-- Every engine of a cluster is offline. -/
def State.allOffline (s : State) (c : Nat) : Bool := (span (8 * c) 8).all (fun e => !(s.engine e).online)

/-- With scope 0 a cluster without an engine online ends what is handed to it (R185). While it is in reset, entries for
it are held (R180). -/
def State.deadEnd (s : State) (c : Nat) : Bool :=
  !(s.cluster c).inReset && (s.region (c / 8)).stealScope == 0 && s.allOffline c

/-- An entry is handed to a cluster (R185). -/
def State.handEntry (s : State) (c : Nat) (q : QEntry) : State :=
  if s.deadEnd c then (s.freeSums c q).failTile q.stream q.tile stRETRY else s.pushEntry c q

/-- One entry that waits for a place in a cluster's queue: a held tile, then the descriptor stage,
then an engine's requeued entry. -/
def State.refillOne (s : State) (c : Nat) : State :=
  if (s.cluster c).room = 0 then s else
  match (s.cluster c).heldOut with
  | q :: r => (s.modCluster c (fun k => { k with heldOut := r })).handEntry c q
  | [] =>
    match s.streams.findSome? (fun e =>
        (e.2.release.find? (fun q => s.tileCluster e.2 q.tile == some c)).map (fun q => (e.1, q))) with
    | some (n, q) => (s.modStream n (fun x => { x with release := x.release.erase q })).handEntry c q
    | none =>
      match (span (8 * c) 8).findSome? (fun e => (s.engine e).keep.map (fun q => (e, q))) with
      | some (e, q) => (s.modEngine e (fun g => { g with keep := none })).pushEntry c q
      | none => s

/-- Fill a cluster's queue from what waits for it. -/
def State.refill (s : State) (c : Nat) : State :=
  (List.range (s.cluster c).room).foldl (fun s _ => s.refillOne c) s

/-- The descriptor stage releases an entry to the cluster that R131 names (R180). -/
def State.releaseEntry (s : State) (n : Nat) (q : QEntry) : State :=
  match s.stream n with
  | none => s
  | some x =>
    match s.tileCluster x q.tile with
    | none => s.modStream n (fun x => { x with release := x.release ++ [q] })
    | some c =>
      if s.deadEnd c then s.failTile n q.tile stRETRY
      else (s.modStream n (fun x => { x with release := x.release ++ [q] })).refillOne c

/-! ### Hand-off of a completed tile -/

/-- The FP32 sums of a tile (R118, R120): values and saturated conversions. -/
def tileSums (a : Int) (t : Tile) : List Word32 × Nat :=
  let r := (List.range 4096).map (fun k =>
    if t.nf.contains k then (0x7FC00000#32, 0)
    else
      let (c, sat) := encodeElem (elemFmt 0) none (accVal a (tget 0 t.acc k))
      (BitVec.ofNat 32 c, b2n sat))
  (r.map (·.1), r.foldl (fun n x => n + x.2) 0)

/-- The exact values of `n` elements of a tile. -/
def tileVals (a : Int) (t : Tile) (n : Nat) : List Val :=
  (List.range n).map (fun k => if t.nf.contains k then .nan else accVal a (tget 0 t.acc k))

def wordBytes (l : List Word32) : Bytes := l.flatMap (fun w => toLe 4 w.toNat)

/-- The sums of a tile in a format (R120): FP32 takes the FP32 values `v`, others convert the exact
values once. -/
def sumsIn (a : Int) (t : Tile) (v : List Word32) (fmt n : Nat) (r : Rnd) (i : Nat) : Conv :=
  if fmt = 0 then ⟨wordBytes (v.take n), 0, 0, 0⟩ else encodeArray fmt r i (tileVals a t n)

/-- The kind of a completed tile's entry (R162, R180). -/
def Stream.entryKind (x : Stream) (t : Nat) : TileKind :=
  if x.desc.isLamb then
    match x.groupOf t with
    | some i => if ((x.groups)[i]?.map (·.skip)).getD false then .lamb2 else .lamb1
    | none => .lamb1
  else .fused

/-- Hand the sums of a completed tile of a fused step to its cluster's queue (R137, R180, R185). -/
def State.handFused (s : State) (n t c : Nat) (v : List Word32) (sat : Bool) (tile : Tile) (p : Place)
    (gw : Word32 × Word32) : State :=
  let s := s.reachGroup n t gw
  match s.stream n with
  | none => s
  | some x =>
    if s.deadEnd c then s.failTile n t stRETRY
    else
      let q (loc : SumLoc) (slot : Nat) : QEntry :=
        ⟨n, x.entryKind t, false, sat, tile.nonFin, false, loc, c % 8, t, slot⟩
      let (e, s) : QEntry × State :=
        match p with
        | .sram d m => (q .slot m, s.modCluster d (fun k => { k with sums := tput k.sums m ⟨v, tile.nf⟩ }))
        | .spill _ m acc _ => (q .workspace m, s.storeQuiet acc (wordBytes v))
      if (s.cluster c).room = 0 then s.modCluster c (fun k => { k with heldOut := k.heldOut ++ [e] })
      else s.pushEntry c e

/-- Write the sums of a reduce stream's tile (R120, R175, R464). -/
def State.handReduce (s : State) (n t : Nat) (a : Int) (v : List Word32) (tile : Tile) : State :=
  match s.stream n with
  | none => s
  | some x =>
    let d := x.desc
    let v := sumsIn a tile v d.sumFmt (d.tileElems t) Rnd.rne (4096 * t)
    let s := (s.countConv x.owner v).when (v.sat != 0) (fun s => s.satTile n t)
    let addr := mkAddr s.aon.nodeId d.stateOp.window (d.stateOp.off + t * d.tileStep)
    let s := s.modStream n (fun x => { x with unanswered := x.unanswered ++ [(t, 8)] })
    s.request (.local n t 8) { Pkt.zero with ptype := 9, srcNode := s.aon.nodeId, dstNode := s.aon.nodeId,
                                             addr := addr, opLen := v.data.length, cstream := n, payload := v.data }

/-- Send the sums of a reduce-and-gather stream's tile to every destination (R120, R164). -/
def State.handGather (s : State) (n t g : Nat) (a : Int) (v : List Word32) (tile : Tile) : State :=
  match s.stream n with
  | none => s
  | some x =>
    let d := x.desc
    if d.gather.isEmpty then s.endTile n t (x.goodEnd t)
    else
      let outs := d.gather.map (fun e => sumsIn a tile v e.fmt 4096 (d.rnd e.rnd 0) (4096 * t))
      let s := outs.foldl (fun s v => (s.countConv x.owner v).when (v.sat != 0) (fun s => s.satTile n t)) s
      ((List.range outs.length).zip outs).foldl (fun s e => s.sendGather n t e.1 g e.2.data) s

/-- A tile has all its contributions (R130): its sums are converted to FP32 once, counted and marked (R120),
unless it is closed. -/
def State.completeTile (s : State) (n t c : Nat) (a : Int) (tile : Tile) (p : Place) (gw : Word32 × Word32) : State :=
  match s.stream n with
  | none => s
  | some x =>
    let s := s.modStream n (fun x => x.complete t)
    let s := match p with
      | .sram d m => s.modCluster d (fun k => { k with tiles := tdel k.tiles m })
      | .spill _ _ _ _ => s
    let discard (s : State) : State := s.modStream n (fun x => { x with discarded := x.discarded + 1 })
    if tile.poison then (discard s).failTile n t stPOISON
    else if tile.sat && x.desc.satDiscard then ((discard s).satTile n t).failTile n t stSATURATED
    else
      let (v, k) := tileSums a tile
      let s := (s.count x.owner 0x3190 k).when (tile.sat || tile.nonFin || k != 0) (fun s => s.satTile n t)
      if x.desc.fused then s.handFused n t c v (tile.sat || k != 0) tile p gw
      else if x.desc.reduceOnly then s.handReduce n t a v tile
      else s.handGather n t (c / 8) a v tile

/-! ### Contributions -/

/-- Add the elements of a payload to a tile (R116 to R118, R124): the tile, elements saturated and
elements not finite. -/
def addElems (a : Int) (t : Tile) (vals : List Val) : Tile × Nat × Nat :=
  ((List.range vals.length).zip vals).foldl (fun (acc : Tile × Nat × Nat) e =>
    let (t, sat, nf) := acc
    match quantise a e.2 with
    | none => ({ t with nf := insSet t.nf e.1, nonFin := true }, sat, nf + 1)
    | some (q, isSat) =>
      let (vn, vd) := e.2.mag
      let m := if vn = 0 then t.maxExp else
        some (match t.maxExp with | some x => max x (ilog2 vn vd) | none => ilog2 vn vd)
      ({ t with acc := tset 0 t.acc e.1 (tget 0 t.acc e.1 + q), maxExp := m, sat := t.sat || isSat,
                satElems := t.satElems + b2n isSat }, sat + b2n isSat, nf)) (t, 0, 0)

def maxOpt (a b : Option Int) : Option Int :=
  match a, b with
  | some x, some y => some (max x y)
  | some x, none => some x
  | none, y => y

/-- The answer to a contribution or report. -/
def State.answerContr (s : State) (id g status : Nat) : State :=
  match s.waitOf id with
  | none => s
  | some w => (s.dropReq id).reply g w.origin w.pkt w.vi w.cls false status 4 0 []

/-- The tile that an address names in the reduction target (R126, R464). -/
def Stream.tileOf (x : Stream) (addr : Word64) : Option Nat :=
  let d := x.desc
  let o := addrOffset addr
  if addrWindow addr ≠ d.stateOp.window ∨ o < d.stateOp.off ∨ (o - d.stateOp.off) % d.tileStep ≠ 0 then none
  else
    let t := (o - d.stateOp.off) / d.tileStep
    if x.selected t then some t else none

/-- The status of a stream that is not open for contributions (R142, R171, check 1 of R127). -/
def Stream.closedStatus (x : Stream) : Option Nat :=
  if x.revoked then some stREVOKED else if x.cancelled then some stCANCELLED
  else if !x.openNow || !x.desc.reduces then some stBOUND else none

/-- A max-exponent report (R123). One with a reserved `FMT` (R91), with a `CONTRIB` that is none of the stream's,
or with another address than that of the lowest selected tile is answered `BOUND`, in this order
(assumption 171). -/
def State.report (s : State) (id n g : Nat) (x : Stream) (p : Pkt) : State :=
  let first := x.selTiles.head?
  if !x.desc.prePass then s.answerContr id g stBOUND
  else if p.fmt > 7 then s.answerContr id g stBOUND
  else if p.contrib ≥ x.desc.nContrib then s.answerContr id g stBOUND
  else if first.isNone || x.tileOf p.addr != first then s.answerContr id g stBOUND
  else if x.reports.any (fun r => r.1 == p.contrib) then
    (s.count x.owner 0x31B8 1).answerContr id g stDUP
  else
    let e : Option Int := if p.maxExp = -32768 then none else some p.maxExp
    let reps := x.reports ++ [(p.contrib, e)]
    let s := s.modStream n (fun x => { x with reports := reps })
    let s := s.when (reps.length == x.desc.nContrib) (fun s =>
      let a := match reps.foldl (fun m r => maxOpt m r.2) none with
        | some m => max (-128) (min 127 (m - 15))
        | none => x.desc.anchor
      s.modStream n (fun x => { x with anchor := some a, anchorAt := insSet x.anchorAt g }))
    s.answerContr id g stOK

/-- The lookups of a range that belongs to a contribution's tile, made once for the request. -/
def State.rangePages (s : State) (id part w o len kind : Nat) : List PageLook × State :=
  let old := (((s.waitOf id).map (·.looks)).getD []).filter (fun l => l.part == part)
  if old.any (fun l => l.window == w && l.rel == 0 && l.off == o) then (old, s)
  else
    let (l, s) := s.lookRange part w o len kind
    (l, s.modWait id (fun q => { q with looks := q.looks.filter (fun l => l.part != part) ++ l }))

/-- What the read of a group's stored ratio comes to. -/
inductive GroupRes where
  | hold (why : Why)
  | words (ratio step : Word32)
deriving DecidableEq, Repr

/-- Read `RATIO` and `RATIO_STEP` of the group that a tile about to complete reaches (R162), through the home of a
coherent line (R62, R66). Where the table cannot be read no ratio is stored. -/
def State.groupGate (s : State) (id t : Nat) (x : Stream) : GroupRes × State :=
  match x.groupOf t with
  | none => (.words 0 0, s)
  | some i =>
    if ((x.groups)[i]?.map (·.reached)).getD true || !x.desc.fused then (.words 0 0, s)
    else
      let (mine, s) := s.rangePages id 4 x.desc.groups.window (x.desc.groups.off + 16 * i + 8) 8 0
      match s.judge mine with
      | .wait g w c => (.hold (.miss g w c), s)
      | .retry => (.words 0 0, s)
      | .bad _ _ => (.words 0 0, s)
      | .ok =>
        let segs := lookSegs mine 4
        if s.fillHolds (segRanges segs) false then (.hold (.fillRoom (stackOf ((segs.head?.map (·.pa)).getD 0))), s)
        else match s.ownAccess (.req id) .rd (segRanges segs) with
        | (some l, s) => (.hold (.parked l), s)
        | (none, s) =>
          let (r, s) := s.readSegs (some x.owner) segs
          let s := s.countPoison x.owner r.poison
          (if r.poison then .words 0 0 else .words (BitVec.ofNat 32 (fld r.data 0 4)) (BitVec.ofNat 32 (fld r.data 4 4)), s)

/-- Add a contribution whose checks have passed (R128, R130). The one that would complete the first tile of a norm
group is held while the group's stored ratio cannot be read yet. -/
def State.addContr (s : State) (id n t c g : Nat) (a : Int) (x : Stream) (p : Pkt) (pl : Place) : State :=
  match s.tileAt x.owner pl with
  | (none, s) => s.answerContr id g stRETRY
  | (some tile, s) =>
    if tile.dup.contains p.contrib then (s.count x.owner 0x31B8 1).answerContr id g stDUP
    else match (if tile.count + 1 = x.desc.nContrib then s.groupGate id t x else (.words 0 0, s)) with
    | (.hold why, s) => s.holdCoh id none why
    | (.words ratio step, s) =>
      let (tile, sat, nf) := addElems a tile (decodeArray p.fmt (x.desc.tileElems t) p.payload)
      let tile := { tile with dup := insSet tile.dup p.contrib, count := tile.count + 1 }
      let s := s.putTile pl tile
      let s := s.modStream n (fun y =>
        { y with maxExp := maxOpt y.maxExp tile.maxExp, satElems := y.satElems + sat, nfElems := y.nfElems + nf })
      let s := ((s.count x.owner 0x31B0 1).count x.owner 0x31C0 sat).count x.owner 0x31C8 nf
      let s := s.answerContr id g (if sat = 0 ∧ nf = 0 then stOK else stSATURATED)
      if tile.count = x.desc.nContrib then s.completeTile n t c a tile pl (ratio, step) else s

/-- What the lookup of a workspace slot comes to. -/
inductive SlotRes where
  | at_ (acc side : Nat)
  | hold (why : Why)
  | fail (status : Nat)
deriving DecidableEq, Repr

/-- Translate workspace slot `m` of a region for a contribution: its accumulators are range 2 of the request, its
side state range 3 (R58, R60, assumption 187). A unit that is not one run of addresses in the region is refused with
`BOUND` (R16, R465); a zero-fill
in progress, or a full fill table, holds the write back (R49, R136). -/
def State.slotPages (s : State) (id g m : Nat) (x : Stream) : SlotRes × State :=
  let op := x.ws g
  let a := op.off + accOff m
  let b := op.off + x.desc.sideOff m
  let (m2, s) := s.rangePages id 2 op.window a granuleBytes 1
  let (m3, s) := s.rangePages id 3 op.window b 2048 1
  let mine := m2 ++ m3
  match s.judge mine with
  | .wait r w c => (.hold (.miss r w c), s)
  | .retry => (.fail stRETRY, s)
  | .bad _ st => (.fail st, s)
  | .ok =>
    let l2 := lookSegs mine 2
    let l3 := lookSegs mine 3
    match l2.head?, l3.head? with
    | some u, some v =>
      if !contiguous l2 || !contiguous l3 || !inStack g (l2 ++ l3) then (.fail stBOUND, s)
      else if s.fillHolds [(u.pa, granuleBytes), (v.pa, 2048)] true then (.hold (.fillRoom g), s)
      else (.at_ u.pa v.pa, s)
    | _, _ => (.fail stBOUND, s)

/-- A contribution to a tile that is open in a workspace slot, or opens in it (R134 to R136). -/
def State.contrSlot (s : State) (id n t c g m : Nat) (a : Int) (x : Stream) (p : Pkt) (fresh : Bool) : State :=
  match s.slotPages id g m x with
  | (.hold why, s) => s.holdReq id why
  | (.fail st, s) => s.answerContr id g st
  | (.at_ u v, s) =>
    let s := s.countFills (x.ws g).window [(u, granuleBytes), (v, 2048)]
    let s := if fresh then
        ((s.modStream n (fun x => { x with wsUsed := x.wsUsed ++ [(g, m, t)], spilled := x.spilled + 1 })).count
          x.owner 0x31E0 1).storeSpill u v (Tile.fresh n t)
      else s
    s.addContr id n t c g a ((s.stream n).getD x) p (.spill g m u v)

/-- Open a tile for its first contribution (R134). -/
def State.openTile (s : State) (id n t c g : Nat) (a : Int) (x : Stream) (p : Pkt) : State :=
  match (s.cluster c).freeSlot with
  | some m =>
    (s.modCluster c (fun k => { k with tiles := tput k.tiles m (Tile.fresh n t) })).addContr id n t c g a x p (.sram c m)
  | none =>
    match x.freeWs g with
    | none => (s.count x.owner 0x31D8 1).answerContr id g stRETRY
    | some m => s.contrSlot id n t c g m a x p true

/-- Checks 7 to 10 of R127. An open tile never moves to another cluster (R131). -/
def State.contrTile (s : State) (id n t g : Nat) (a : Int) (x : Stream) (p : Pkt) : State :=
  let tiles := s.regionTiles x g
  let rank := rankIn tiles t
  let at_ := s.sramPlace n t g
  let c := (at_.map (·.1)).getD (clusterOf x g rank)
  if x.completed.contains t then (s.count x.owner 0x31B8 1).answerContr id g stDUP
  else if rank ≥ x.base tiles + x.desc.skew then (s.count x.owner 0x31D0 1).answerContr id g stRETRY
  else if (s.cluster c).inReset || s.boot.unlocked.contains (.a (c / 48)) then s.answerContr id g stRETRY
  else
    match at_, x.spillSlot t with
    | some (d, m), _ => s.addContr id n t c g a x p (.sram d m)
    | none, some (r, m) => s.contrSlot id n t c r m a x p false
    | none, none => s.openTile id n t c g a x p

/-- Checks 1 to 6 of R127 on a translated contribution. -/
def State.contrChecks (s : State) (id : Nat) (p : Pkt) (segs : List Seg) : State :=
  let g := ((segs.head?).map (fun x => stackOf x.pa)).getD 0
  match s.stream p.cstream with
  | none => s.answerContr id g stBOUND
  | some x =>
    match x.closedStatus with
    | some st => s.answerContr id g st
    | none =>
      if p.kind then s.report id p.cstream g x p
      else if p.contrib ≥ x.desc.nContrib then s.answerContr id g stBOUND
      else
        match x.tileOf p.addr with
        | none => s.answerContr id g stBOUND
        | some t =>
          if p.fmt > 7 ∨ p.payload.length ≠ fmtBytes p.fmt (x.desc.tileElems t) then s.answerContr id g stBOUND
          else if p.poison then s.answerContr id g stPOISON
          else
            match x.anchor, x.anchorAt.contains g with
            | some a, true =>
              if !x.completed.contains t && !contiguous segs then
                -- the unit spans pages that are not contiguous: the tile ends (R465)
                ((s.modStream p.cstream (fun x => x.complete t)).failTile p.cstream t stBOUND).answerContr id g stBOUND
              else s.contrTile id p.cstream t g a x p
            | _, _ => (s.count x.owner 0x31F0 1).answerContr id g stRETRY

/-- The bytes of the reduction target that a contribution covers: the tile's sums in `SUM_FMT` or in FP32
(R126, R464); its payload where the stream has no such tile. -/
def State.targetSpan (s : State) (p : Pkt) : Nat :=
  match s.stream p.cstream with
  | none => p.payload.length
  | some x => match x.tileOf p.addr with
    | none => p.payload.length
    | some t => if x.desc.reduceOnly then x.desc.tileLen t else 4 * x.desc.tileElems t

/-- Judge the pages of a contribution's target and go on with it: it is refused whole (R60). -/
def State.judgeContr (s : State) (id : Nat) : State :=
  match s.waitOf id with
  | none => s
  | some w =>
    let mine := w.looks.filter (fun l => l.part == 0)
    match s.judge mine with
    | .wait g a c => s.holdReq id (.miss g a c)
    | .retry => s.answerContr id (s.answerRegion mine) stRETRY
    | .bad _ st => s.answerContr id (s.answerRegion mine) st
    | .ok =>
      let segs := lookSegs mine 0
      if segs.any (fun x => !s.stackServes (stackOf x.pa)) then s.answerContr id (s.answerRegion mine) stRETRY
      else s.contrChecks id w.pkt segs

/-- Look up the target pages of a contribution (R60). -/
def State.translateContr (s : State) (id : Nat) : State :=
  match s.waitOf id with
  | none => s
  | some w =>
    if s.cyc.roleStep ≠ 0 && w.why == .retryMiss then s.holdReq id .role else
    let (l, s) := s.lookRange 0 (addrWindow w.pkt.addr) (addrOffset w.pkt.addr) (max 1 (s.targetSpan w.pkt)) 1
    (s.modWait id (fun w => { w with looks := l })).judgeContr id

/-- A contribution or report that has arrived whole (R34, R126, R127, R261). -/
def State.contribution (s : State) (o : Origin) (p : Pkt) : State :=
  match s.pair.state.refusal with
  | some st => s.replyEdge o p none 7 st
  | none =>
    if addrNode p.addr ≠ s.aon.nodeId ∨ !(s.node p.srcNode).colSrc then s.replyEdge o p none 7 stBOUND
    else
      let win := s.win (addrWindow p.addr)
      match s.checkWindow (addrWindow p.addr) (addrOffset p.addr) (s.targetSpan p) true false with
      | some st =>
        if st = stNOT_MAPPED then s.replyEdge o p none 7 st
        else s.replyEdge o p (some win.ownerVi) win.cls st
      | none =>
        let (id, s) := s.admitReq o p (some win.ownerVi) win.cls none
        s.translateContr id

/-! ### The rows -/

/-- CONTRIBUTION (R126 to R130): a contribution of tile data. -/
def execContribution (p : Pkt) (s : State) : Host.Outcome State Fault Refusal :=
  onUnit true (if s.admits p then (s.takeIn p).contribution (.fabric p.dpg) { p with ptype := 8, kind := false } else s)

/-- MAX_EXP_REPORT (R123). -/
def execMaxExpReport (p : Pkt) (s : State) : Host.Outcome State Fault Refusal :=
  onUnit true (if s.admits p then (s.takeIn p).contribution (.fabric p.dpg) { p with ptype := 8, kind := true, payload := [] } else s)

/-- ANCHOR_RECEIVE (R123): the anchor that the collecting region sent reaches another region. -/
def execAnchorReceive (region stream : Nat) (anchor : Int) (s : State) : Host.Outcome State Fault Refusal :=
  onUnit (decide (region < 12)) (s.modStream stream (fun x =>
    if x.anchor == some anchor then { x with anchorAt := insSet x.anchorAt region } else x))

end Sys2Proof.Machine
end

