-- ==== Sys2Proof/Machine/Crypto.lean ====
section
/-! DEFINITION. The cryptographic values of the security block: SHA-256 and SHA-384 (FIPS 180-4),
HMAC-SHA-384 (R388, R393), ECDSA P-384 (R214, R414) and LMS_SHA256_M32_H20 with
LMOTS_SHA256_N32_W8 (R413), which the rules name by their published standards. -/
namespace Sys2Proof.Machine

open Sys2Proof

/-- What distinguishes SHA-256 from SHA-512 (FIPS 180-4): word width, rotation counts of the four
functions, round constants. -/
structure Sha (w : Nat) where
  s0 : Nat × Nat × Nat
  s1 : Nat × Nat × Nat
  t0 : Nat × Nat × Nat
  t1 : Nat × Nat × Nat
  k  : List Nat
  h  : List Nat

def sha256k : List Nat :=
  [0x428A2F98, 0x71374491, 0xB5C0FBCF, 0xE9B5DBA5, 0x3956C25B, 0x59F111F1, 0x923F82A4,
   0xAB1C5ED5, 0xD807AA98, 0x12835B01, 0x243185BE, 0x550C7DC3, 0x72BE5D74, 0x80DEB1FE,
   0x9BDC06A7, 0xC19BF174, 0xE49B69C1, 0xEFBE4786, 0x0FC19DC6, 0x240CA1CC, 0x2DE92C6F,
   0x4A7484AA, 0x5CB0A9DC, 0x76F988DA, 0x983E5152, 0xA831C66D, 0xB00327C8, 0xBF597FC7,
   0xC6E00BF3, 0xD5A79147, 0x06CA6351, 0x14292967] ++
  [0x27B70A85, 0x2E1B2138, 0x4D2C6DFC, 0x53380D13, 0x650A7354, 0x766A0ABB, 0x81C2C92E,
   0x92722C85, 0xA2BFE8A1, 0xA81A664B, 0xC24B8B70, 0xC76C51A3, 0xD192E819, 0xD6990624,
   0xF40E3585, 0x106AA070, 0x19A4C116, 0x1E376C08, 0x2748774C, 0x34B0BCB5, 0x391C0CB3,
   0x4ED8AA4A, 0x5B9CCA4F, 0x682E6FF3, 0x748F82EE, 0x78A5636F, 0x84C87814, 0x8CC70208,
   0x90BEFFFA, 0xA4506CEB, 0xBEF9A3F7, 0xC67178F2]

def sha512k : List Nat :=
  [0x428A2F98D728AE22, 0x7137449123EF65CD, 0xB5C0FBCFEC4D3B2F, 0xE9B5DBA58189DBBC,
   0x3956C25BF348B538, 0x59F111F1B605D019, 0x923F82A4AF194F9B, 0xAB1C5ED5DA6D8118,
   0xD807AA98A3030242, 0x12835B0145706FBE, 0x243185BE4EE4B28C, 0x550C7DC3D5FFB4E2,
   0x72BE5D74F27B896F, 0x80DEB1FE3B1696B1, 0x9BDC06A725C71235, 0xC19BF174CF692694,
   0xE49B69C19EF14AD2, 0xEFBE4786384F25E3, 0x0FC19DC68B8CD5B5, 0x240CA1CC77AC9C65,
   0x2DE92C6F592B0275, 0x4A7484AA6EA6E483, 0x5CB0A9DCBD41FBD4, 0x76F988DA831153B5,
   0x983E5152EE66DFAB, 0xA831C66D2DB43210, 0xB00327C898FB213F, 0xBF597FC7BEEF0EE4,
   0xC6E00BF33DA88FC2, 0xD5A79147930AA725, 0x06CA6351E003826F, 0x142929670A0E6E70,
   0x27B70A8546D22FFC, 0x2E1B21385C26C926, 0x4D2C6DFC5AC42AED, 0x53380D139D95B3DF,
   0x650A73548BAF63DE, 0x766A0ABB3C77B2A8, 0x81C2C92E47EDAEE6, 0x92722C851482353B] ++
  [0xA2BFE8A14CF10364, 0xA81A664BBC423001, 0xC24B8B70D0F89791, 0xC76C51A30654BE30,
   0xD192E819D6EF5218, 0xD69906245565A910, 0xF40E35855771202A, 0x106AA07032BBD1B8,
   0x19A4C116B8D2D0C8, 0x1E376C085141AB53, 0x2748774CDF8EEB99, 0x34B0BCB5E19B48A8,
   0x391C0CB3C5C95A63, 0x4ED8AA4AE3418ACB, 0x5B9CCA4F7763E373, 0x682E6FF3D6B2B8A3,
   0x748F82EE5DEFB2FC, 0x78A5636F43172F60, 0x84C87814A1F0AB72, 0x8CC702081A6439EC,
   0x90BEFFFA23631E28, 0xA4506CEBDE82BDE9, 0xBEF9A3F7B2C67915, 0xC67178F2E372532B,
   0xCA273ECEEA26619C, 0xD186B8C721C0C207, 0xEADA7DD6CDE0EB1E, 0xF57D4F7FEE6ED178,
   0x06F067AA72176FBA, 0x0A637DC5A2C898A6, 0x113F9804BEF90DAE, 0x1B710B35131C471B,
   0x28DB77F523047D84, 0x32CAAB7B40C72493, 0x3C9EBE0A15C9BEBC, 0x431D67C49C100D4C,
   0x4CC5D4BECB3E42B6, 0x597F299CFC657E2A, 0x5FCB6FAB3AD6FAEC, 0x6C44198C4A475817]

def sha256 : Sha 32 :=
  ⟨(2, 13, 22), (6, 11, 25), (7, 18, 3), (17, 19, 10), sha256k,
   [0x6A09E667, 0xBB67AE85, 0x3C6EF372, 0xA54FF53A, 0x510E527F, 0x9B05688C, 0x1F83D9AB,
   0x5BE0CD19]⟩

def sha384 : Sha 64 :=
  ⟨(28, 34, 39), (14, 18, 41), (1, 8, 7), (19, 61, 6), sha512k,
   [0xCBBB9D5DC1059ED8, 0x629A292A367CD507, 0x9159015A3070DD17, 0x152FECD8F70E5939,
   0x67332667FFC00B31, 0x8EB44A8768581511, 0xDB0C2E0D64F98FA7, 0x47B5481DBEFA4FA4]⟩

/-- Three rotations, XORed. -/
def shaBig {w : Nat} (r : Nat × Nat × Nat) (x : BitVec w) : BitVec w :=
  x.rotateRight r.1 ^^^ x.rotateRight r.2.1 ^^^ x.rotateRight r.2.2

/-- Two rotations and a shift, XORed. -/
def shaSmall {w : Nat} (r : Nat × Nat × Nat) (x : BitVec w) : BitVec w :=
  x.rotateRight r.1 ^^^ x.rotateRight r.2.1 ^^^ (x >>> r.2.2)

/-- The message schedule, newest word first. -/
def shaSched {w : Nat} (c : Sha w) (n : Nat) (l : List (BitVec w)) : List (BitVec w) :=
  match n with
  | 0 => l
  | k + 1 =>
    let g (i : Nat) : BitVec w := lget 0 l i
    shaSched c k ((shaSmall c.t1 (g 1) + g 6 + shaSmall c.t0 (g 14) + g 15) :: l)

/-- One round over the eight working words. -/
def shaRound {w : Nat} (c : Sha w) (v : List (BitVec w)) (kw : Nat × BitVec w) : List (BitVec w) :=
  match v with
  | [a, b, d, e, f, g, h, i] =>
    let t := i + shaBig c.s1 f + ((f &&& g) ^^^ (~~~f &&& h)) + BitVec.ofNat w kw.1 + kw.2
    [t + shaBig c.s0 a + ((a &&& b) ^^^ (a &&& d) ^^^ (b &&& d)), a, b, d, e + t, f, g, h]
  | v => v

/-- Take one block of 16 words into the hash value. -/
def shaBlock {w : Nat} (c : Sha w) (h : List (BitVec w)) (ws : List (BitVec w)) : List (BitVec w) :=
  let sch := (shaSched c (c.k.length - 16) ws.reverse).reverse
  let v := (c.k.zip sch).foldl (shaRound c) h
  (h.zip v).map (fun x => x.1 + x.2)

/-- Take `n` blocks of the padded message. -/
def shaBlocks {w : Nat} (c : Sha w) (n : Nat) (h : List (BitVec w)) (b : Bytes) :
    List (BitVec w) :=
  match n with
  | 0 => h
  | k + 1 =>
    let ws := (List.range 16).map (fun i => BitVec.ofNat w (beNat (slice b (i * (w / 8)) (w / 8))))
    shaBlocks c k (shaBlock c h ws) (b.drop (2 * w))

/-- The hash of a byte string: `out` bytes. -/
def shaOf {w : Nat} (c : Sha w) (out : Nat) (m : Bytes) : Bytes :=
  let block := 2 * w
  let n := (m.length + 1 + w / 4 + block - 1) / block
  let padded := m ++ [0x80#8] ++ zeros (n * block - m.length - 1 - 8) ++ toBe 8 (8 * m.length)
  ((shaBlocks c n (c.h.map (BitVec.ofNat w)) padded).flatMap (fun x => toBe (w / 8) x.toNat)).take out

def hash256 (m : Bytes) : Bytes := shaOf sha256 32 m
def hash384 (m : Bytes) : Bytes := shaOf sha384 48 m

/-- HMAC-SHA-384 (RFC 2104, block of 128 bytes). -/
def hmac384 (key msg : Bytes) : Bytes :=
  let k := slice (if key.length > 128 then hash384 key else key) 0 128
  hash384 (k.map (· ^^^ 0x5C#8) ++ hash384 (k.map (· ^^^ 0x36#8) ++ msg))

/-! ### ECDSA P-384 (FIPS 186) -/

def p384p : Nat := 0xFFFFFFFFFFFFFFFFFFFFFFFFFFFFFFFFFFFFFFFFFFFFFFFFFFFFFFFFFFFFFFFEFFFFFFFF0000000000000000FFFFFFFF
def p384b : Nat := 0xB3312FA7E23EE7E4988E056BE3F82D19181D9C6EFE8141120314088F5013875AC656398D8A2ED19D2A85C8EDD3EC2AEF
def p384n : Nat := 0xFFFFFFFFFFFFFFFFFFFFFFFFFFFFFFFFFFFFFFFFFFFFFFFFC7634D81F4372DDF581A0DB248B0A77AECEC196ACCC52973
def p384g : Nat × Nat :=
  (0xAA87CA22BE8B05378EB1C71EF320AD746E1D3B628BA79B9859F741E082542A385502F25DBF55296C3A545E3872760AB7,
   0x3617DE4A96262C6F5D9E98BF9292DC29F8F41DBD289A147CE9DA3113B5F0B8C00A60B1CE1D7E819D7A431D7C90EA0E5F)

/-- Modular power by squaring, `k` bits of the exponent. -/
def modPow (m k x e : Nat) : Nat :=
  match k with
  | 0 => 1 % m
  | k + 1 =>
    let h := modPow m k (x * x % m) (e / 2)
    if e % 2 = 1 then x * h % m else h

/-- Inverse modulo a prime of 384 bits. -/
def modInv (m x : Nat) : Nat := modPow m 384 (x % m) (m - 2)

/-- A point in affine coordinates; `none` is the point at infinity. -/
abbrev EcPoint := Option (Nat × Nat)

def ecAdd (a b : EcPoint) : EcPoint :=
  match a, b with
  | none, q => q
  | p, none => p
  | some (x, y), some (u, v) =>
    let p := p384p
    if x = u ∧ (y + v) % p = 0 then none
    else
      let l := if x = u then (3 * x * x + p - 3) * modInv p (2 * y) % p
               else (v + p - y) * modInv p (u + p - x) % p
      let r := (l * l + 2 * p - x - u) % p
      some (r, (l * (x + p - r) + p - y) % p)

/-- k · a, over `n` bits of k. -/
def ecMul (n k : Nat) (a : EcPoint) : EcPoint :=
  match n with
  | 0 => none
  | m + 1 =>
    let h := ecMul m (k / 2) (ecAdd a a)
    if k % 2 = 1 then ecAdd a h else h

/-- A 96-byte signature r, s verifies over a 48-byte digest under a 96-byte public key x, y. -/
def ecdsaVerify (pub digest sig : Bytes) : Bool :=
  let x := beNat (slice pub 0 48)
  let y := beNat (slice pub 48 48)
  let r := beNat (slice sig 0 48)
  let s := beNat (slice sig 48 48)
  let n := p384n
  if x ≥ p384p ∨ y ≥ p384p ∨ (y * y + 3 * x) % p384p ≠ (x * x * x + p384b) % p384p then false
  else if r = 0 ∨ r ≥ n ∨ s = 0 ∨ s ≥ n then false
  else
    let w := modInv n s
    let q := ecAdd (ecMul 384 (beNat digest * w % n) (some p384g)) (ecMul 384 (r * w % n) (some (x, y)))
    match q with
    | none => false
    | some (u, _) => u % n == r

/-! ### LMS (RFC 8554) -/

/-- Chain steps a to 254 of one LM-OTS element. -/
def otsChain (k : Nat) (id : Bytes) (q i j : Nat) (x : Bytes) : Bytes :=
  match k with
  | 0 => x
  | k + 1 => otsChain k id q i (j + 1) (hash256 (id ++ toBe 4 q ++ toBe 2 i ++ toBe 1 j ++ x))

/-- The public key candidate of LMOTS_SHA256_N32_W8 (34 elements) for a message. -/
def otsCandidate (id : Bytes) (q : Nat) (msg ots : Bytes) : Bytes :=
  let h := hash256 (id ++ toBe 4 q ++ toBe 2 0x8181 ++ slice ots 4 32 ++ msg)
  let ck := (h.map (fun b => 255 - b.toNat)).foldl (· + ·) 0
  let digits := h ++ toBe 2 ck
  let z := (List.range 34).flatMap (fun i =>
    let a := (lget 0#8 digits i).toNat
    otsChain (255 - a) id q i a (slice ots (36 + 32 * i) 32))
  hash256 (id ++ toBe 4 q ++ toBe 2 0x8080 ++ z)

/-- Climb the tree from node `node` with the path left. -/
def lmsClimb (k : Nat) (id : Bytes) (node : Nat) (t path : Bytes) : Bytes :=
  match k with
  | 0 => t
  | k + 1 =>
    let pair := if node % 2 = 1 then slice path 0 32 ++ t else t ++ slice path 0 32
    lmsClimb k id (node / 2) (hash256 (id ++ toBe 4 (node / 2) ++ toBe 2 0x8383 ++ pair)) (path.drop 32)

/-- An LMS signature of 1,772 bytes verifies over a message under a 56-byte public key. -/
def lmsVerify (pub msg sig : Bytes) : Bool :=
  let q := beNat (slice sig 0 4)
  let ots := slice sig 4 1124
  let id := slice pub 8 16
  if beNat (slice pub 0 4) ≠ 8 ∨ beNat (slice pub 4 4) ≠ 4 ∨ beNat (slice ots 0 4) ≠ 4 ∨
     beNat (slice sig 1128 4) ≠ 8 ∨ q ≥ 2 ^ 20 then false
  else
    let leaf := hash256 (id ++ toBe 4 (2 ^ 20 + q) ++ toBe 2 0x8282 ++ otsCandidate id q msg ots)
    lmsClimb 20 id (2 ^ 20 + q) leaf (slice sig 1132 640) == slice pub 24 32

end Sys2Proof.Machine
end

