-- ==== Sys2Proof/Machine/Mailbox.lean ====
section
/-! DEFINITION. Mailboxes (R383 to R391): the checks of a command, its answer, MSI-X, the changes that a
pair's standby takes before the answer (R344, R394), and the registers of a page (R378 to R383, R396,
R409). -/
namespace Sys2Proof.Machine

open Sys2Proof

/-! ### MSI-X (R380) -/

/-- The message of vector `n`, under a packet type of the model's own. -/
def Page.msixMsg (p : Page) (n : Nat) : Pkt :=
  { Pkt.zero with ptype := 0x21, addr := BitVec.ofNat 64 (fld p.msix (16 * n) 8), payload := slice p.msix (16 * n + 8) 4 }

def Page.masked (p : Page) (n : Nat) : Bool := tbit (fld p.msix (16 * n + 12) 4) 0

/-- Raise an MSI-X vector of a PCI Express function; a masked one stays pending. -/
def State.raiseMsix (s : State) (vi n : Nat) : State :=
  if isTenant vi then s
  else if (s.page vi).masked n then s.modPage vi (fun p => { p with pba := p.pba ||| 2 ^ n })
  else s.emit ⟨(s.page vi).msixMsg n, .host (complexOf vi), none, 7, noPort, none, 0⟩

/-! ### The answer (R384, R389, R391) -/

/-- A refused check names its field. -/
abbrev noField : Nat := 0xFFFF

/-- The bytes of an answer; `keyed` when it carries a keyed check. -/
def answerBytes (key : Option Bytes) (keyed : Bool) (hdr body : Bytes) : Bytes :=
  hdr ++ (match key with
    | some k => if keyed then (hmac384 k (hdr ++ body)).take 24 else zeros 24
    | none => zeros 24) ++ body

/-- Write an answer into the response buffer (R384). After an FLR or VI_DISABLE it is discarded (R385). -/
def State.writeAnswer (s : State) (vi opcode : Nat) (c : Cmd) (keyed : Bool) (status : Nat) (hdr body : Bytes) :
    State :=
  let s := s.endOp (.cmd vi)
  if (s.vi vi).dropAnswer then
    s.modVi vi (fun v => { v with dropAnswer := false, cmd := none, page := { v.page with busy := false } })
  else
    let bytes := answerBytes (s.vi vi).key keyed hdr body
    let s := s.modVi vi (fun v =>
      { v with cmd := none,
               page := { v.page with rspBuf := bytes, lastTag := c.tag, lastStatus := BitVec.ofNat 16 status,
                                     done := true, busy := false } })
    let s := s.count vi 0x3000 1
    let s := if status = stAUTH_FAIL then s.count vi 0x3008 1 else if status = stREPLAY then s.count vi 0x3010 1 else s
    let s := if (s.page vi).doneIe then s.raiseMsix vi 1 else s
    if tbit c.flags.toNat 1 then s.post vi evCMD_DONE status (toLe 2 opcode ++ toLe 2 c.tag.toNat) else s

/-- Critical commands (R390), by opcode. -/
def isCritical (op : Nat) : Bool :=
  [0x0101, 0x0102, 0x0103, 0x0210, 0x0211, 0x0505, 0x0901, 0x0902, 0x0903, 0x0905, 0x0907, 0x0908, 0x0A01, 0x0A02,
   0x0A03, 0x0B01, 0x0B02, 0x0B03].contains op

/-- Answer a command; `passed` when it passed checks 4 and 5 and its answer is saved if it is critical. -/
def State.answerCmd (s : State) (vi opcode : Nat) (c : Cmd) (keyed passed : Bool) (status detail : Nat)
    (body : Bytes) : State :=
  let hdr := answerHeader opcode status body.length (if status = stOK then noField else detail) 0 c
  let s := if passed && isCritical opcode then s.modVi vi (fun v => { v with saved := some (c.check, hdr ++ body) }) else s
  s.writeAnswer vi opcode c keyed status hdr body

/-- Answer the command that a VI has in progress. -/
def State.finishCmd (s : State) (vi status : Nat) (body : Bytes) : State :=
  match (s.vi vi).cmd with
  | some b => s.answerCmd vi b.opcode b.cmd b.keyed true status noField body
  | none => s

/-- A command in progress that changes nothing after all: RETRY_LATER, and the counter as before (R385). -/
def State.undoCmd (s : State) (vi : Nat) : State :=
  match (s.vi vi).cmd with
  | some b =>
    (s.modVi vi (fun v => { v with counter := b.prior.1, saved := b.prior.2 })).answerCmd vi b.opcode b.cmd b.keyed false
      stRETRY noField []
  | none => s

/-- Answer every command in progress of one opcode on one object. -/
def State.finishObject (s : State) (opcode object status : Nat) (body : Bytes) : State :=
  ((s.vis.filter (fun e => match e.2.cmd with
    | some b => b.opcode == opcode && b.object == object && b.ready.isNone
    | none => false)).map (·.1)).foldl (fun s v => s.finishCmd v status body) s

/-! ### Changes that the standby takes (R344, R394) -/

/-- Pair-scoped changes go to a partner that is standby or takes part in resynchronisation. -/
def State.mirrors (s : State) : Bool := s.pair.state == .active || (s.pair.state == .solo && s.cyc.resync)

/-- Send a CTL_MIRROR packet for the command of a VI (1024: none). -/
def State.sendCtl (s : State) (vi : Nat) (m : CtlMirror) : State :=
  let tag := s.cyc.mirrorTag + 1
  (s.modCyc (fun c => { c with mirrorTag := tag % 2 ^ 32, mirrorSent := c.mirrorSent ++ [(tag, vi, s.now)] })).emit
    ⟨{ Pkt.zero with ptype := 0x24, tag := BitVec.ofNat 32 tag, payload := Config.mirrorPayload m }, .rein, none, 7,
     noPort, none, 0⟩

/-- Send a pair-scoped change for the command of a VI (1024: none); while an earlier change waits for a cycle (R439), it
keeps its place behind that one. -/
def State.sendMirror (s : State) (vi : Nat) (m : CtlMirror) : State :=
  if !s.mirrors then s
  else match s.cyc.late.getLast? with
    | some x => s.modCyc (fun c => { c with late := c.late ++ [(vi, m, x.2.2)] })
    | none => s.sendCtl vi m

/-- Send a change once every cycle that has closed is acknowledged (R439). -/
def State.sendAfter (s : State) (vi : Nat) (m : CtlMirror) : State :=
  match s.cyc.closedWait.or s.cyc.shipping with
  | some n => if s.mirrors then s.modCyc (fun c => { c with late := c.late ++ [(vi, m, n)] }) else s
  | none => s.sendMirror vi m

/-- A change that the command of the VI made has not been taken by the partner yet. -/
def State.mirrorOpen (s : State) (vi : Nat) : Bool :=
  s.cyc.mirrorSent.any (fun m => m.2.1 == vi) || s.cyc.late.any (fun x => x.1 == vi)

/-- The command of a VI has its result: it is answered once the partner has taken its changes. -/
def State.answerMirrored (s : State) (vi status : Nat) (body : Bytes) : State :=
  if s.mirrorOpen vi then
    s.modVi vi (fun v => { v with cmd := v.cmd.map (fun b => { b with ready := some (status, body) }) })
  else s.finishCmd vi status body

/-- The command of a VI is answered where it has its result and no change of it is open. -/
def State.mirrorsOver (s : State) (vi : Nat) : State :=
  if s.mirrorOpen vi then s
  else match ((s.vi vi).cmd).bind (·.ready) with
    | some (st, body) => s.finishCmd vi st body
    | none => s

/-- The changes of a VI's command are given up, and the command ends with a status. -/
def State.failMirror (s : State) (vi status : Nat) : State :=
  let s := s.modCyc (fun c => { c with mirrorSent := c.mirrorSent.filter (fun m => m.2.1 != vi),
                                       late := c.late.filter (fun x => x.1 != vi) })
  if vi < 1024 then s.finishCmd vi status [] else s

/-- The partner has answered a change. One that it did not apply stays open while this package mirrors or still holds
completions after a lapse (R344, R351); a package alone in SOLO is done with it; at another the command ends `BOUND`
(assumption 221). -/
def State.mirrorDone (s : State) (tag status : Nat) : State :=
  match s.cyc.mirrorSent.find? (fun m => m.1 == tag) with
  | none => s
  | some m =>
    if status = stOK || (s.pair.state == .solo && !s.mirrors && !s.pair.holding) then
      (s.modCyc (fun c => { c with mirrorSent := c.mirrorSent.erase m })).mirrorsOver m.2.1
    else if s.mirrors || s.pair.holding then s
    else s.failMirror m.2.1 stBOUND

/-- Complete a command that waited: the changes it made go to the partner first (R344). -/
def State.finishMirrored (s : State) (vi : Nat) (ms : List CtlMirror) (body : Bytes) : State :=
  let key : List CtlMirror := match (s.vi vi).cmd with
    | some b => if isCritical b.opcode then [.key vi (s.vi vi).key (s.vi vi).counter] else []
    | none => []
  ((ms ++ key).foldl (fun s m => s.sendMirror vi m) s).answerMirrored vi stOK body

/-- The VIs whose command of an opcode waits for an object. -/
def State.waitersOn (s : State) (opcode object : Nat) : List Nat :=
  (s.vis.filter (fun e => match e.2.cmd with
    | some b => b.opcode == opcode && b.object == object && b.ready.isNone
    | none => false)).map (·.1)

/-- Every command that waits for an object is answered OK with no body. -/
def State.finishWaiters (s : State) (opcode object : Nat) : State :=
  (s.waitersOn opcode object).foldl (fun s v => s.finishMirrored v [] []) s

/-- The VI whose command of an opcode waits for an object. -/
def State.waitsFor (s : State) (opcode object : Nat) : Option Nat :=
  (s.vis.find? (fun e => match e.2.cmd with
    | some b => b.opcode == opcode && b.object == object && b.ready.isNone
    | none => false)).map (·.1)

/-! ### The checks (R387) -/

/-- Who may issue a command (R400). For a command marked Own: whether the object that it names, if there is one, is the
issuer's, or of a VI that the issuing PF's complex serves; and the field that names it (R376). -/
inductive From where
  | any | pf | co | resetRight
  | own (may : Bool) (detail : Nat)
deriving DecidableEq, Repr

/-- Every VI may issue it, for its own objects. -/
def From.open_ (f : From) : Bool :=
  match f with
  | .any => true
  | .own _ _ => true
  | .pf => false
  | .co => false
  | .resetRight => false

/-- DETAIL of a refusal by check 3 (R376). -/
def From.detail (f : From) : Nat :=
  match f with
  | .own _ d => d
  | .any => 0
  | .pf => 0
  | .co => 0
  | .resetRight => 0

/-- An operand names a window of another VI, which a VI that is no PF may not (R376). -/
def State.foreignOp (s : State) (vi : Nat) (op : Operand) : Bool :=
  !isPf vi && (s.win op.window).kind != 0 && (s.win op.window).ownerVi != vi

/-- This package holds the coordinator lease of its pair (R350). -/
def State.isCoord (s : State) : Bool := s.pair.state != .unpaired && s.pair.co.hold

def State.permits (s : State) (vi : Nat) (f : From) : Bool :=
  match f with
  | .any => true
  | .pf => isPf vi
  | .co => isPf vi && s.isCoord
  | .resetRight => isPf vi || (isTenant vi && (s.vi vi).resetRight)
  | .own may _ => may

/-- What a command's own rules end in; `undone` when a wider reset has taken in the one it asks for (R429). -/
inductive CmdRes where
  | undone
  | done (status detail : Nat) (body : Bytes)
  | wait (object : Nat)
  | mirrored (ms : List CtlMirror) (body : Bytes)
deriving DecidableEq, Repr

def CmdRes.ok : CmdRes := .done stOK noField []
def CmdRes.bound (detail : Nat) : CmdRes := .done stBOUND detail []
def CmdRes.fail (status : Nat) : CmdRes := .done status noField []

/-- The first reserved field of a body with a bit that is not zero; entries are (offset, size, bits that
may be set). -/
def reservedHit (body : Bytes) (l : List (Nat × Nat × Nat)) : Option Nat :=
  (l.find? (fun e => (fld body e.1 e.2.1) &&& e.2.2 != fld body e.1 e.2.1)).map (fun e => 0x40 + e.1)

/-- Reserved bits of an operand entry (R147). -/
def opRsv (off : Nat) : List (Nat × Nat × Nat) :=
  [(off, 2, 0x3FF), (off + 2, 6, 2 ^ 42 - 1), (off + 8, 8, 2 ^ 43 - 1)]

/-- Check 1 (R386, R387). -/
def check1 (c : Cmd) (body : Bytes) (lenOk : Bool) (rsv : List (Nat × Nat × Nat)) : Option Nat :=
  if c.length.toNat > 4032 || !lenOk then some 0x08
  else if c.flags.toNat ≥ 4 then some 0x02
  else if c.vi.toNat ≥ 1024 then some 0x04
  else if c.rsv0c ≠ 0 then some 0x0C
  else if !isZero (slice c.rsv18 0 16) then some 0x18
  else reservedHit body rsv

/-- The body of LENGTH bytes. -/
def cmdBytes (c : Cmd) : Bytes := slice c.body 0 (min 4032 c.length.toNat)

/-- The keyed check verifies (R388). -/
def keyedOk (key : Bytes) (opcode : Nat) (c : Cmd) : Bool :=
  (hmac384 key ((cmdHeader opcode c).take 0x28 ++ cmdBytes c)).take 24 == slice c.check 0 24

/-- The command changes package-level state, so it waits for complex 0 (R19, R377): a PF or coordinator
command other than the reads of statistics, a command on the lease authority, or one on a table of which
complex 0 holds the master (R35, R51). -/
def changesPackage (opcode : Nat) (f : From) : Bool :=
  (!f.open_ && !([0x0603, 0x0704, 0x0705, 0x0802, 0x0804, 0x0807].contains opcode)) ||
    [0x0201, 0x0202, 0x0203, 0x0211, 0x0301, 0x0302, 0x0303].contains opcode

/-- Checks 6 and 7 of a command that passed the others, and its answer. -/
def State.runRules (s : State) (vi opcode : Nat) (c : Cmd) (keyed lease : Bool) (f : From)
    (prior : Word64 × Option (Bytes × Bytes)) (run : State → CmdRes × State) : State :=
  let key : List CtlMirror := if isCritical opcode then [.key vi (s.vi vi).key (s.vi vi).counter] else []
  let answer (s : State) (st det : Nat) (body : Bytes) : State :=
    if key.isEmpty || !s.mirrors then s.answerCmd vi opcode c keyed true st det body
    else
      let s := s.modVi vi (fun v => { v with cmd := some ⟨opcode, c, keyed, 0, none, prior⟩ })
      (key.foldl (fun s m => s.sendMirror vi m) s).answerMirrored vi st body
  if lease && !s.leaseRuns vi then answer s stLEASE_EXPIRED noField []
  else if changesPackage opcode f && complexOf vi == 1 && !s.complexUp 0 then answer s stRETRY noField []
  else
    match run (s.modVi vi (fun v => { v with cmd := some ⟨opcode, c, keyed, 0, none, prior⟩ })) with
    | (.done st det body, s) =>
      if isWait st then s.modVi vi (fun v => { v with cmd := v.cmd.map (fun b => { b with object := st }) })
      else answer s st det body
    | (.undone, s) => s.undoCmd vi
    | (.wait object, s) => s.modVi vi (fun v => { v with cmd := v.cmd.map (fun b => { b with object := object }) })
    | (.mirrored ms body, s) =>
      -- KEY_CHANGE has changed the key: the partner takes the new one
      let key : List CtlMirror := if isCritical opcode then [.key vi (s.vi vi).key (s.vi vi).counter] else []
      ((ms ++ key).foldl (fun s m => s.sendMirror vi m) s).answerMirrored vi stOK body

/-- Run the command that the buffer holds: checks 1 to 5 in order, then the rest (R387). -/
def State.runTaken (s : State) (vi opcode : Nat) (c : Cmd) (lenOk : Bool) (rsv : List (Nat × Nat × Nat)) (f : From)
    (lease : Bool) (run : State → CmdRes × State) : State :=
  let refuse (s : State) (st det : Nat) : State := s.answerCmd vi opcode c false false st det []
  match check1 c (cmdBytes c) lenOk rsv with
  | some d => refuse s stBOUND d
  | none =>
    if c.vi.toNat ≠ vi then refuse s stBOUND 0x04
    else if !s.permits vi f then refuse s stBOUND f.detail
    else
      let checked := tbit c.flags.toNat 0
      let crit := isCritical opcode
      let prior := ((s.vi vi).counter, (s.vi vi).saved)
      let keyOk := match (s.vi vi).key with | some k => keyedOk k opcode c | none => false
      if (checked || crit) && !keyOk then refuse s stAUTH_FAIL 0x28
      else if crit then
        let last := (s.vi vi).counter
        let same := match (s.vi vi).saved with
          | some (ck, _) => c.counter == last && ck == c.check
          | none => false
        if same then
          let a := (((s.vi vi).saved).map (·.2)).getD []
          let hdr := patch (slice a 0 0x28) 0x0E (toLe 2 1)
          s.writeAnswer vi opcode c checked (fld a 2 2) hdr (a.drop 0x28)
        else if c.counter.toNat ≤ last.toNat then s.answerCmd vi opcode c checked false stREPLAY 0x10 []
        else (s.modVi vi (fun v => { v with counter := c.counter, saved := none })).runRules vi opcode c checked lease f prior run
      else s.runRules vi opcode c checked lease f prior run

/-- A GO while BUSY (R384). -/
def State.overrun (s : State) (vi : Nat) : State :=
  (s.modPage vi (fun p => { p with overrun := true })).count vi 0x3018 1

/-- The command buffer holds the command and GO is written (R384): BUSY; the complex copies the command
and sets TAKEN while it is out of reset. Before the part is ready GO is ignored (R415). -/
def State.go (s : State) (vi opcode : Nat) (c : Cmd) (run : State → State) : State :=
  if !s.viExists vi || !s.ready then s
  else if (s.page vi).busy then s.overrun vi
  else
    let s := s.modPage vi (fun p =>
      { p with cmdBuf := patch p.cmdBuf 0 (cmdHeader opcode c ++ c.body), busy := true, done := false, taken := false })
    if s.complexUp (complexOf vi) then run (s.modPage vi (fun p => { p with taken := true })) else s

/-- A mailbox command of a catalogue row: its opcode, whether LENGTH matches, its reserved bits, who may
issue it, and whether it needs the lease of its issuer (R400 to R404). -/
def State.command (s : State) (vi opcode : Nat) (c : Cmd) (lenOk : Bool) (rsv : List (Nat × Nat × Nat)) (f : From)
    (lease : Bool) (run : State → CmdRes × State) : Host.Outcome State Fault Refusal :=
  onUnit (decide (vi < 1024)) (s.go vi opcode c (fun s => s.runTaken vi opcode c lenOk rsv f lease run))

/-- LENGTH is exactly `n`. -/
def lenIs (c : Cmd) (n : Nat) : Bool := c.length.toNat == n

/-- A field of the body. -/
def arg (c : Cmd) (off len : Nat) : Nat := fld (cmdBytes c) off len

/-- An operand of the body. -/
def opArg (c : Cmd) (off : Nat) : Operand :=
  ⟨arg c off 2 % 1024, arg c (off + 2) 6 % 2 ^ 42, arg c (off + 8) 8 % 2 ^ 43⟩

/-- Write a statistics command's records to its operand (R400). -/
def State.statsTo (s : State) (vi : Nat) (op : Operand) (recs : Bytes) (after : State → State) : CmdRes × State :=
  if op.len < recs.length then (.bound 0x48, s)
  else match s.writeOp (.cmd vi) op recs with
    | (0, s) => (.done stOK noField (toLe 4 recs.length), after s)
    | (st, s) => (.fail st, s)

/-! ### Event queues (R395 to R397) -/

/-- The ring of a VI lies inside one extent of the VI, in a window of the VI (R395, R396). -/
def State.ringOk (s : State) (vi : Nat) (base : Word64) (n : Nat) : Bool :=
  let w := bitf base.toNat 51 42
  let o := bitf base.toNat 41 0
  let len := 32 * ringSize n
  (s.win w).kind != 0 && (s.win w).ownerVi == vi && decide (o % 4096 = 0) &&
  (match s.opSegs (.event vi) ⟨w, o, len⟩ false with
   | (0, x :: r, _) => (s.ext x.ext).ownerVi == vi && r.all (fun y => y.ext == x.ext)
   | _ => false)

/-- Write EQ_CTL (R396). -/
def State.writeEqCtl (s : State) (vi : Nat) (v : Word64) : State :=
  let p := s.page vi
  let n := bitf v.toNat 19 16
  let size := if p.eqEn || decide (n > 10) then p.eqSize else n
  let want := tbit v.toNat 0
  let rise := want && !p.eqEn
  let ok := rise && s.ringOk vi p.eqBase size
  let s := s.modPage vi (fun p =>
    { p with eqSize := size, doneIe := tbit v.toNat 2, eqIe := tbit v.toNat 1,
             eqEn := if rise then ok else want, tail := if ok then p.head else p.tail })
  s.sendMirror 1024 (.eq vi (s.page vi).eqBase (BitVec.ofNat 64 (s.page vi).eqCtl))

/-- Write EQ_BASE: ignored while EQ_EN is 1 (R396). -/
def State.writeEqBase (s : State) (vi : Nat) (v : Word64) : State :=
  if (s.page vi).eqEn then s else
  let b := BitVec.ofNat 64 (v.toNat % 2 ^ 52 / 4096 * 4096)
  let s := s.modPage vi (fun p => { p with eqBase := b })
  s.sendMirror 1024 (.eq vi b (BitVec.ofNat 64 (s.page vi).eqCtl))

/-- Write HEAD: a value beyond TAIL is ignored (R396). -/
def State.writeHead (s : State) (vi : Nat) (v : Word64) : State :=
  s.modPage vi (fun p =>
    let h : Word32 := BitVec.ofNat 32 v.toNat
    if later 32 h.toNat p.tail.toNat then p else { p with head := h })

/-- Drop what a queue holds (R397). -/
def State.dropEvents (s : State) (vi : Nat) : State :=
  ((s.endOp (.event vi)).modPage vi (fun p => { p with evq := [] })).count vi 0x3028 (s.page vi).evq.length

/-- Write a record at TAIL (R397). -/
def State.writeRecord (s : State) (vi : Nat) (e : EventRec) : Option State :=
  let p := s.page vi
  let at_ := bitf p.eqBase.toNat 41 0 + 32 * (p.tail.toNat % ringSize p.eqSize)
  let bytes := toLe 2 e.typ ++ toLe 2 e.status ++ toLe 4 p.tail.toNat ++ slice e.payload 0 24
  match s.writeOp (.event vi) ⟨bitf p.eqBase.toNat 51 42, at_, 32⟩ bytes with
  | (0, s) =>
    let s := ((s.endOp (.event vi)).modPage vi (fun p => { p with tail := p.tail + 1 })).count vi 0x3020 1
    if (s.page vi).eqIe then
      let s := match (s.page vi).irq0At with | some t => s.reach (t + us 2) | none => s
      some ((s.modPage vi (fun p => { p with irq0At := some s.now })).raiseMsix vi 0)
    else some s
  | (st, s) => if isWait st then some s else if st = stRETRY then some (s.endOp (.event vi)) else none

/-- The next record of a VI's queue is written (R397). -/
def State.recordWrite (s : State) (vi : Nat) : State :=
  let p := s.page vi
  if !p.eqEn then s.dropEvents vi
  else
    let used := (p.tail.toNat + 2 ^ 32 - p.head.toNat) % 2 ^ 32
    let full := used ≥ ringSize p.eqSize - 1
    if p.lost ≠ 0 ∧ !full then
      match s.writeRecord vi ⟨evEVENTS_LOST, 0, toLe 4 p.lost⟩ with
      | some t => if (t.page vi).tail = p.tail then t else t.modPage vi (fun p => { p with lost := 0 })
      | none => (s.modPage vi (fun p => { p with eqEn := false })).dropEvents vi
    else
      match p.evq with
      | [] => s
      | e :: r =>
        if full then (s.modPage vi (fun p => { p with evq := r, lost := p.lost + 1 })).count vi 0x3028 1
        else match s.writeRecord vi e with
          | some t => if (t.page vi).tail = p.tail then t else t.modPage vi (fun p => { p with evq := r })
          | none => (s.modPage vi (fun p => { p with eqEn := false })).dropEvents vi

/-! ### Registers of a page (R378, R380 to R383, R409) -/

/-- Counters that a read clears (R61, R90). -/
def isRc (off : Nat) : Bool := off == 0x3120 || off == 0x3160

/-- A-cycles for which engines have held the tiles of a VI's streams that they hold now (R192). -/
def State.runCycles (s : State) (vi : Nat) : Nat :=
  s.engines.foldl (fun n e => match e.2.tile with
    | some r => if ((s.stream r.entry.stream).map (·.owner)).getD 0 = vi then n + s.aCyclesSince (e.1 / 384) r.started else n
    | none => n) 0

/-- A counter as a read finds it: ENG_CYCLES includes the tiles that engines still hold. -/
def State.counterNow (s : State) (vi off : Nat) : Word64 :=
  tget 0 (s.vi vi).ctr off + (if off = 0x3220 then BitVec.ofNat 64 (s.runCycles vi) else 0)

/-- Read `width` bytes of a page: the value, and the state after it. -/
def State.readReg (s : State) (vi off width : Nat) : Bytes × State :=
  let p := s.page vi
  let reg (n : Nat) : Bytes × State := (if width = 8 then toLe 8 n else zeros width, s)
  if 0x2000 ≤ off ∧ off < 0x3000 then (slice p.rspBuf (off - 0x2000) (min width (0x3000 - off)) ++ zeros (width - (0x3000 - off)), s)
  else if off % width ≠ 0 then (zeros width, s)
  else if off = 0 then reg (s.viId vi)
  else if off = 0x08 then reg s.devId
  else if off = 0x18 then reg p.statusReg
  else if off = 0x20 then reg p.eqBase.toNat
  else if off = 0x28 then reg p.eqCtl
  else if off = 0x30 then reg p.tail.toNat
  else if off = 0x38 then reg p.head.toNat
  else if off = 0x40 ∧ isPf vi ∧ !s.ready then reg (s.bootStatus (complexOf vi))
  else if 0x1000 ≤ off ∧ off < 0x2000 then (slice p.cmdBuf (off - 0x1000) width, s)
  else if 0x3000 ≤ off ∧ off < 0x4000 then
    if width = 8 then
      (toLe 8 (s.counterNow vi off).toNat,
       if isRc off then s.modVi vi (fun v => { v with ctr := tset 0 v.ctr off 0 }) else s)
    else (zeros width, s)
  else if 0x4000 ≤ off ∧ off < 0x4020 ∧ !isTenant vi then (slice p.msix (off - 0x4000) width, s)
  else if off = 0x4800 ∧ !isTenant vi then (if width = 8 then toLe 8 p.pba else zeros width, s)
  else (zeros width, s)

/-- Write `width` bytes of a page, DOORBELL apart. -/
def State.writeReg (s : State) (vi off : Nat) (data : Bytes) : State :=
  let width := data.length
  let v : Word64 := BitVec.ofNat 64 (leNat data)
  if 0x1000 ≤ off ∧ off + width ≤ 0x2000 then
    s.modPage vi (fun p => { p with cmdBuf := patch p.cmdBuf (off - 0x1000) data })
  else if width = 0 ∨ off % width ≠ 0 then s
  else if 0x4000 ≤ off ∧ off + width ≤ 0x4020 ∧ !isTenant vi ∧ (width = 4 ∨ width = 8) then
    let s := s.modPage vi (fun p => { p with msix := patch p.msix (off - 0x4000) data })
    [0, 1].foldl (fun s n =>
      if tbit (s.page vi).pba n && !(s.page vi).masked n then
        (s.modPage vi (fun p => { p with pba := p.pba - 2 ^ n })).raiseMsix vi n
      else s) s
  else if width ≠ 8 then s
  else if off = 0x18 then
    if tbit v.toNat 3 then s.modPage vi (fun p => { p with overrun := false }) else s
  else if off = 0x20 then s.writeEqBase vi v
  else if off = 0x28 then s.writeEqCtl vi v
  else if off = 0x38 then s.writeHead vi v
  else s

/-- Reset of a VI by an FLR or VI_DISABLE (R385). -/
def State.resetVi (s : State) (vi : Nat) : State :=
  s.modVi vi (fun v =>
    { v with ctr := [], dropAnswer := v.page.busy, page := { v.page with eqEn := false, done := false } })

/-! ### The rows -/

/-- CMD_NOP (R401). -/
def execCmdNop (page : Nat) (c : Cmd) (s : State) : Host.Outcome State Fault Refusal :=
  s.command page 0x0001 c (lenIs c 0) [] .any false (fun s => (.ok, s))

/-- The extent that a package-log record is about. -/
def LogRec.extent (s : State) (r : LogRec) : Option Nat :=
  if r.kind = lgREVOKE_UNANSWERED then r.args.head?
  else if r.kind = lgDIVERGENT then ((r.args.head?).bind (fun g => s.extentOf g)).map (·.1)
  else none

/-- The records of a log with the extent each is about, as bytes. A package-log record takes 32 bytes
(assumption 9), a lost-dirty record 16 (R86). -/
def State.logRecords (s : State) (which : Nat) : List (Option Nat × Bytes) :=
  if which = 0 then s.log.map (fun r => (r.extent s, slice (Config.logRecord r.kind r.args) 0 32))
  else ((List.range 12).flatMap (fun g => (s.region g).lostLog)).map (fun r =>
    (some r.extent, slice (Config.lostRecord r.pa r.agent r.node r.extent) 0 16))

/-- Records from `first` on that the VI may read and that fit: the bytes, their number, the next index. -/
def pickRecords (room : Nat) (may : Option Nat → Bool) : List (Option Nat × Bytes) → Nat → Bytes × Nat × Nat
  | [], i => ([], 0, i)
  | r :: l, i =>
    if !may r.1 then pickRecords room may l (i + 1)
    else if r.2.length > room then ([], 0, i)
    else
      let (b, n, j) := pickRecords (room - r.2.length) may l (i + 1)
      (r.2 ++ b, n + 1, j)

/-- LOG_READ (R401). -/
def execLogRead (page : Nat) (c : Cmd) (s : State) : Host.Outcome State Fault Refusal :=
  s.command page 0x0002 c (lenIs c 24) ((0, 1, 0xFF) :: (1, 3, 0) :: opRsv 8) .any false (fun s =>
    let which := arg c 0 1
    if which > 1 then (.bound 0x40, s) else
    let op := opArg c 8
    if s.foreignOp page op then (.bound 0x48, s) else
    let first := arg c 4 4
    let may (e : Option Nat) : Bool := isPf page || (match e with | some x => (s.ext x).ownerVi == page | none => false)
    let (b, n, next) := pickRecords op.len may ((s.logRecords which).drop first) first
    if b.isEmpty then (.done stOK noField (toLe 4 0 ++ toLe 4 next), s)
    else match s.writeOp (.cmd page) op b with
      | (0, s) => (.done stOK noField (toLe 4 n ++ toLe 4 next), s)
      | (st, s) => (.fail st, s))

/-- KEY_CHANGE (R393). -/
def execKeyChange (page : Nat) (c : Cmd) (s : State) : Host.Outcome State Fault Refusal :=
  s.command page 0x0101 c (lenIs c 16) [] .any false (fun s =>
    (.mirrored [] [], s.modVi page (fun v =>
      { v with key := v.key.map (fun k => hmac384 k (ascii "PXK1" ++ toLe 8 c.counter.toNat ++ cmdBytes c)) })))

/-- PROG_POLICY_SET (R214): 0 demands signed images, 1 permits unsigned ones. -/
def execProgPolicySet (page : Nat) (c : Cmd) (s : State) : Host.Outcome State Fault Refusal :=
  s.command page 0x0104 c (lenIs c 1) [] .pf false (fun s =>
    if arg c 0 1 > 1 then (.bound 0x40, s)
    else (.ok, s.modComplex (complexOf page) (fun x => { x with policy := arg c 0 1 })))

/-- GO_WHILE_BUSY (R384). -/
def execGoWhileBusy (page : Nat) (s : State) : Host.Outcome State Fault Refusal :=
  onUnit (decide (page < 1024)) (if s.viExists page && s.ready && (s.page page).busy then s.overrun page else s)

/-- STATUS_W1C (R383). -/
def execStatusW1c (page : Nat) (value : Word64) (s : State) : Host.Outcome State Fault Refusal :=
  onUnit (decide (page < 1024)) (if s.viExists page then s.writeReg page 0x18 (toLe 8 value.toNat) else s)

/-- EQ_ENABLE (R396): a write of EQ_CTL. -/
def execEqEnable (page : Nat) (value : Word64) (s : State) : Host.Outcome State Fault Refusal :=
  onUnit (decide (page < 1024)) (if s.viExists page then s.writeEqCtl page value else s)

/-- EQ_HEAD_WRITE (R396). -/
def execEqHeadWrite (page : Nat) (value : Word64) (s : State) : Host.Outcome State Fault Refusal :=
  onUnit (decide (page < 1024)) (if s.viExists page then s.writeHead page value else s)

/-- COUNTER_READ_CLEAR (R409): the value goes back to a host; a tenant reads through its page granule. -/
def execCounterReadClear (page offset : Nat) (s : State) : Host.Outcome State Fault Refusal :=
  onUnit (decide (page < 1024)) (
    if s.viExists page then
      let (b, s) := s.readReg page offset 8
      if isTenant page then s
      else s.emit ⟨{ Pkt.zero with ptype := 0x0A, payload := b }, .host (complexOf page), none, 7, noPort, none, 0⟩
    else s)

/-- EVENT_RECORD_WRITE (R397): the serving complex writes it. -/
def execEventRecordWrite (vi : Nat) (s : State) : Host.Outcome State Fault Refusal :=
  onUnit (decide (vi < 1024)) (if s.complexUp (complexOf vi) then s.recordWrite vi else s)

/-! ### Check-value units (R405 to R408) -/

def State.cvu (s : State) (c u : Nat) : Cvu := tget Cvu.reset (s.complex c).cvus u
def State.setCvu (s : State) (c u : Nat) (v : Cvu) : State :=
  s.modComplex c (fun x => { x with cvus := tset Cvu.reset x.cvus u v })

/-- Take in every queued write. -/
def Cvu.drain (v : Cvu) : Cvu :=
  { v with queue := [], cur := BitVec.ofNat 64 (v.queue.foldl (fun a b => crcRun v.active a b) v.cur.toNat) }

/-- CVU_RESULT: the register after the final XOR. -/
def Cvu.result (v : Cvu) : Nat := v.cur.toNat ^^^ (crcParams v.active).2.2.2.2

/-- Load the initial value of POLY. -/
def Cvu.init (v : Cvu) : Cvu :=
  { v.drain with active := v.poly, cur := BitVec.ofNat 64 (crcParams v.poly).2.2.1 }

/-- Compare with CVU_EXPECT. -/
def Cvu.check (v : Cvu) : Cvu :=
  let v := v.drain
  let hit := v.result == v.expect.toNat
  { v with isMatch := hit, mismatch := !hit, irq := v.irq || (!hit && v.ie) }

/-- POLY and IE of a CVU_CTL write. -/
def Cvu.ctl (v : Cvu) (w : Word32) : Cvu := { v with poly := w.toNat % 4, ie := tbit w.toNat 4 }

/-- Queue a write; a write to a full queue waits until the oldest has been taken in (R405). -/
def Cvu.push (v : Cvu) (b : Bytes) : Cvu :=
  match v.queue with
  | [] => { v with queue := [b] }
  | x :: r =>
    if v.queue.length ≥ 8 then
      { v with queue := r ++ [b], cur := BitVec.ofNat 64 (crcRun v.active v.cur.toNat x) }
    else { v with queue := v.queue ++ [b] }

/-- CVU_INIT (R406): a write of CVU_CTL with INIT; a CHECK in the same write comes after it. -/
def execCvuInit (complex unit : Nat) (ctl : Word32) (s : State) : Host.Outcome State Fault Refusal :=
  onUnit (decide (complex < 2 ∧ unit < 4)) (
    let v := ((s.cvu complex unit).ctl ctl).init
    s.setCvu complex unit (if tbit ctl.toNat 5 then v.check else v))

/-- CVU_CHECK (R406). -/
def execCvuCheck (complex unit : Nat) (ctl : Word32) (s : State) : Host.Outcome State Fault Refusal :=
  onUnit (decide (complex < 2 ∧ unit < 4)) (
    let v := (s.cvu complex unit).ctl ctl
    s.setCvu complex unit (if tbit ctl.toNat 3 then v.init.check else v.check))

/-- CVU_DATA8 (R405). -/
def execCvuData8 (complex unit : Nat) (value : Byte) (s : State) : Host.Outcome State Fault Refusal :=
  onUnit (decide (complex < 2 ∧ unit < 4)) (s.setCvu complex unit ((s.cvu complex unit).push [value]))

/-- CVU_DATA16 (R405). -/
def execCvuData16 (complex unit : Nat) (value : Word16) (s : State) : Host.Outcome State Fault Refusal :=
  onUnit (decide (complex < 2 ∧ unit < 4)) (s.setCvu complex unit ((s.cvu complex unit).push (toLe 2 value.toNat)))

/-- CVU_DATA32 (R405). -/
def execCvuData32 (complex unit : Nat) (value : Word32) (s : State) : Host.Outcome State Fault Refusal :=
  onUnit (decide (complex < 2 ∧ unit < 4)) (s.setCvu complex unit ((s.cvu complex unit).push (toLe 4 value.toNat)))

/-- CVU_STATUS_CLEAR (R406). -/
def execCvuStatusClear (complex unit : Nat) (value : Word32) (s : State) : Host.Outcome State Fault Refusal :=
  onUnit (decide (complex < 2 ∧ unit < 4)) (
    let v := s.cvu complex unit
    s.setCvu complex unit { v with isMatch := v.isMatch && !tbit value.toNat 2,
                                   mismatch := v.mismatch && !tbit value.toNat 1 })

/-- CVU_EXPECT is written (R406). -/
def Cvu.setExpect (v : Cvu) (x : Word64) : Cvu := { v with expect := x }

/-- A write of CVU_CTL: POLY and IE, INIT, then CHECK (R406). -/
def Cvu.writeCtl (v : Cvu) (w : Word32) : Cvu :=
  let v := v.ctl w
  let v := if tbit w.toNat 3 then v.init else v
  if tbit w.toNat 5 then v.check else v

/-- A read of a register of a unit (R406): the value, and the unit after it. A read of CVU_RESULT waits until every
queued write has been taken in (R405); write-only registers read 0. -/
def Cvu.readReg (v : Cvu) (off : Nat) : Nat × Cvu :=
  if off = 0 then (v.poly + 16 * b2n v.ie, v)
  else if off = 0x18 then (v.drain.result, v.drain)
  else if off = 0x20 then (v.expect.toNat, v)
  else if off = 0x28 then (b2n (!v.queue.isEmpty) + 2 * b2n v.mismatch + 4 * b2n v.isMatch, v)
  else (0, v)

/-- A write of a register in the peripheral space of complex `d` (R406, assumption 199): each by an access of its own
width. Other registers of that space are not in the manual. -/
def State.writePeripheral (s : State) (d off width : Nat) (v : Word64) : State :=
  let u := (off - 0x4000000) / 0x40
  let r := off % 0x40
  if off < 0x4000000 ∨ u ≥ 4 then s
  else if r = 0 ∧ width = 4 then s.setCvu d u ((s.cvu d u).writeCtl (v.setWidth 32))
  else if r = 0x20 ∧ width = 8 then s.setCvu d u ((s.cvu d u).setExpect v)
  else s

/-- The firmware feeds bytes to a unit as words, with a byte or half-word tail, under algorithm `p` (R408). -/
def Cvu.feed (v : Cvu) (p : Nat) (b : Bytes) : Cvu :=
  let v := v.writeCtl (BitVec.ofNat 32 (p % 4 + 8))
  { v with cur := BitVec.ofNat 64 (crcRun v.active v.cur.toNat b) }

/-- The unit that the CRC_RUN of a VI uses: the one it holds already, else 2 or 3 where free (R408). -/
def Complex.crcUnit (x : Complex) (vi : Nat) : Option Nat :=
  match x.crcBy.find? (fun e => e.2 == vi) with
  | some e => some e.1
  | none => [2, 3].find? (fun u => !x.crcBy.any (fun e => e.1 == u))

/-- CRC_RUN (R408): the operand's bytes through a check-value unit, which the command holds while it waits for its
operand. -/
def execCrcRun (page : Nat) (c : Cmd) (s : State) : Host.Outcome State Fault Refusal :=
  s.command page 0x0003 c (lenIs c 32) (opRsv 0 ++ [(17, 7, 0)]) .any false (fun s =>
    let op := opArg c 0
    let d := complexOf page
    let free (s : State) : State := s.modComplex d (fun x => { x with crcBy := x.crcBy.filter (fun e => e.2 != page) })
    if s.foreignOp page op then (.bound 0x40, s)
    else if op.len = 0 ∨ op.len > 1048576 then (.bound 0x48, s)
    else if arg c 16 1 > 3 then (.bound 0x50, s)
    else match (s.complex d).crcUnit page with
      | none => (.fail stRETRY, s)
      | some u =>
        match s.readOp (.cmd page) page op with
        | (0, b, s) =>
          let (r, v) := ((s.cvu d u).feed (arg c 16 1) b).readReg 0x18
          (.done stOK noField (toLe 8 r ++ toLe 1 (b2n (r == arg c 24 8))), (free s).setCvu d u v)
        | (st, _, s) =>
          (.fail st, if isWait st then (free s).modComplex d (fun x => { x with crcBy := x.crcBy ++ [(u, page)] }) else free s))

end Sys2Proof.Machine
end

