-- ==== Sys2Proof/Machine/Coherence.lean ====
section
/-! DEFINITION. Requests that go on after a wait (R43, R49, R65, R155), answers to snoops and notices
of caching agents (R75 to R78, R81, R89, R155), unanswered snoops (R82), and the end of an agent
(R83 to R87). -/
namespace Sys2Proof.Machine

open Sys2Proof

/-! ### Going on -/

/-- Go on with a request whose wait has ended. -/
def State.resume (s : State) (id : Nat) : State :=
  match s.waitOf id with
  | none => s
  | some w =>
    if w.pkt.ptype = 8 then (if w.looks.isEmpty then s.translateContr id else s.judgeContr id)
    else if w.plan.isSome then s.serve id
    else if w.looks.isEmpty then s.translateReq id else s.judgeReq id

/-- Requests that wait for something, oldest first. -/
def State.waitersFor (s : State) (f : Why → Bool) : List Nat := (s.waiting.filter (fun w => f w.why)).map (·.id)

/-- Go on with every request that waits for something. -/
def State.resumeAll (s : State) (f : Why → Bool) : State := (s.waitersFor f).foldl (fun s i => s.resume i) s

/-- A closed miss entry reaches the lookups of every request that waits for it: the requests that it concerns. -/
def State.closeReqs (s : State) (g w c : Nat) (status : Option Nat) : List Nat × State :=
  s.waiting.foldl (fun (a : List Nat × State) q =>
    if q.looks.any (fun p => p.on g w c) then
      let (l, s) := a.2.closeLooks g w c status q.looks
      (a.1 ++ [q.id], s.modWait q.id (fun q => { q with looks := l }))
    else a) ([], s)

/-- It reaches the operands of the part's own that wait for it. -/
def State.closeOps (s : State) (g w c : Nat) (status : Option Nat) : State :=
  s.opLooks.foldl (fun s x =>
    if x.looks.any (fun p => p.on g w c) then
      let (l, s) := s.closeLooks g w c status x.looks
      { s with opLooks := s.opLooks.map (fun y => if y == x then { y with looks := l } else y) }
    else s) s

/-- A miss entry closes (R43, R44, R46): every waiter looks its pages up again, or takes the status for them, and
each request goes on once it has what it needs (R58). -/
def State.closeMiss (s : State) (g w c : Nat) (status : Option Nat) : State :=
  let mine := (s.region g).miss.filter (fun m => m.window == w && m.chunk == c)
  let s := s.modRegion g (fun r => { r with miss := r.miss.filter (fun m => !(m.window == w && m.chunk == c)) })
  let s := mine.foldl (fun s m => s.countMax m.owner 0x3120 ((s.now - m.opened) / 1260)) s
  let (ids, s) := (s.closeOps g w c status).closeReqs g w c status
  ids.foldl (fun s i => s.resume i) s

/-- The stamp of a granule is written or its reservation is over: held reads are served (R155). -/
def State.resumeStamp (s : State) (g : Nat) : State := s.resumeAll (fun y => y == .stamp g)

/-- Requests that a full pending queue kept in the mesh enter the home of their region (R65). -/
def State.drainMesh (s : State) (g : Nat) : State :=
  (s.waitersFor (fun y => y == .mesh g)).foldl (fun s i => if s.queueFull g then s else s.resume i) s

/-- The same in every region. -/
def State.drainMeshes (s : State) : State := (List.range 12).foldl (fun s g => s.drainMesh g) s

/-- Lines that an agent holds. -/
def State.linesOf (s : State) (x : Nat) : List (Nat × Dir) :=
  s.home.dir.filter (fun e => e.2.ags.contains x && e.2.state != .L)

/-- Invalidate every line an agent holds, as far as the homes have room for transactions (R65, R83). -/
def State.evictAgent (s : State) (x : Nat) : State :=
  (s.linesOf x).foldl (fun s e =>
    if (s.txn e.1).isSome || s.homeFull e.1 then s
    else s.openTxn e.1 (.remove x) [(x, .inv)]) s

/-- Lines of an extent in the filter. -/
def State.extLines (s : State) (ext : Nat) : List (Nat × Dir) :=
  s.home.dir.filter (fun e => ((s.extentOf (granuleOf (64 * e.1))).map (·.1)) == some ext)

/-- Open transactions on an extent's lines. -/
def State.extTxns (s : State) (ext : Nat) : List (Nat × Txn) :=
  s.home.txns.filter (fun e => ((s.extentOf (granuleOf (64 * e.1))).map (·.1)) == some ext)

/-- The agents of an entry that exist still. -/
def State.liveAgents (s : State) (d : Dir) : List Nat := d.ags.filter (fun a => (s.agent a).isSome)

/-- Item 2 of R88: invalidate every entry of an extent. -/
def State.revokeSnoops (s : State) (ext : Nat) : State :=
  (s.extLines ext).foldl (fun s e =>
    let ags := s.liveAgents e.2
    if ags.isEmpty || (s.txn e.1).isSome then s
    else s.openTxn e.1 (.revoke ext) (ags.map (fun a => (a, .inv)))) s

/-- Agents that `COH_AGENT_REMOVE` is taking out (R83), and all of them during a role exchange (R440). -/
def State.leavingAgents (s : State) : List Nat :=
  (s.vis.filterMap (fun e => match e.2.cmd with
    | some b => if b.opcode = 0x0402 ∧ b.ready = none then some b.object else none
    | none => none)) ++
  (if s.cyc.roleStep = 3 then s.home.agents.map (·.1) else [])

/-- A snoop of the agent is open: its answer is still to come (R82). -/
def State.snooped (s : State) (x : Nat) : Bool := s.home.txns.any (fun t => t.2.snoops.any (fun y => y.agent == x))

/-- Go on with the removal of an agent; the command is answered once no line is held and every snoop of the agent is
answered (R82, R83). -/
def State.removeStep (s : State) (x : Nat) : State :=
  if !(s.linesOf x).isEmpty then s.evictAgent x
  else if s.snooped x then s
  else match s.waitsFor 0x0402 x with
    | some v =>
      let a := (s.agentRec x).getD ⟨0, 0, false⟩
      (s.retireAgent x).finishMirrored v [.agent x a.node a.vi false] []
    | none => s

/-- Go on with every removal of an agent. -/
def State.removeSteps (s : State) : State := s.leavingAgents.foldl (fun s x => s.removeStep x) s

/-- A request that a closed transaction served goes on, and so do a revocation and the removal of agents. -/
def State.afterTxn (s : State) (w : Option TxnFor) : State :=
  match w with
  | none => s
  | some (.request id) => (s.resume id).removeSteps
  | some (.revoke ext) => (s.revokeSnoops ext).removeSteps
  | some .evict => s.removeSteps
  | some (.engine _) => s.removeSteps
  | some (.remove _) => s.removeSteps
  | some .orphan => s.removeSteps

/-! ### Snoop answers -/

/-- The snoop of agent `x` in the open transaction of a line. -/
def State.snoopOf (s : State) (x line : Nat) : Option Snoop :=
  (s.txn line).bind (fun t => t.snoops.find? (fun y => y.agent == x))

/-- The transaction belongs to a revocation: returned data is discarded (R88). -/
def State.txnRevokes (s : State) (line : Nat) : Bool :=
  match s.txn line with
  | some t => (match t.forWhat with | TxnFor.revoke _ => true | _ => false)
  | none => false

/-- What of a range is left once another one is taken out of it. -/
def cutRange (r : Nat × Nat) (l : List (Nat × Nat)) : List (Nat × Nat) :=
  l.flatMap (fun x =>
    let lo := max x.1 r.1
    let hi := min (x.1 + x.2) (r.1 + r.2)
    if hi ≤ lo then [x]
    else (if x.1 < lo then [(x.1, lo - x.1)] else []) ++ (if hi < x.1 + x.2 then [(hi, x.1 + x.2 - hi)] else []))

/-- Dirty data of a line reaches DRAM (R75, R81). Where a batch that a reset has written came after it in the order of
the home, the batch stands (assumption 191); data of a revocation's snoop is discarded (R88). -/
def State.storeLine (s : State) (line : Nat) (data : Bytes) : State :=
  if s.txnRevokes line then s
  else
    let kept := match s.txn line with | some t => t.keeps | none => []
    (kept.foldl (fun l r => cutRange r l) [(64 * line, 64)]).foldl (fun s x =>
      s.store x.1 (slice data (x.1 - 64 * line) x.2)) s

/-- `RSP_I` (keep = false) or `RSP_S` with its data bit (R75). The next states of R75 after a `SNP_INV` do not
list the snooped agent, whichever way it answers (assumption 159). A snoop that `RSP_EVICTED` has answered takes no
further answer (R82). -/
def State.snoopAnswer (s : State) (x line : Nat) (keep : Bool) (data : Option Bytes) : State :=
  match s.snoopOf x line with
  | none => s
  | some y =>
    if y.held then s else
    let s := match data with
      | some d => s.storeLine line (slice d 0 64)
      | none => s
    let (w, s) := (s.snoopResult x line (keep && y.kind != .inv)).closeSnoop line x
    s.afterTxn w

/-- An agent is listed for a line that it can still write back: not one whose mark is being written. -/
def State.lists (s : State) (x line : Nat) : Bool :=
  match s.dirEnt line with
  | some d => d.ags.contains x && d.state != .L
  | none => false

/-- `RSP_EVICTED` (R81): with D = 1 the transaction is held until the notice lands; when the notice has
landed already, the snoop is closed. -/
def State.snoopEvicted (s : State) (x line : Nat) (dirty : Bool) : State :=
  match s.snoopOf x line with
  | none => s
  | some y =>
    if y.held then s else
    let s := s.countCoh [x] line 0x3168
    if dirty && s.lists x line then
      s.modHome (fun h => { h with txns := amod h.txns line (fun t =>
        { t with snoops := t.snoops.map (fun y => if y.agent == x then { y with held := true } else y) }) })
    else
      let (w, s) := (s.snoopResult x line false).closeSnoop line x
      s.afterTxn w

/-! ### Notices -/

/-- A notice has landed: a snoop of the agent that was held for it is answered (R81). -/
def State.noticeLanded (s : State) (x line : Nat) : State :=
  match s.snoopOf x line with
  | some y =>
    if y.held then
      let (w, s) := s.closeSnoop line x
      s.afterTxn w
    else s
  | none => s

/-- A notice of an agent that the filter does not list for the line (R77). -/
def State.staleNotice (s : State) (b : Buffered) : State :=
  (s.countCoh [b.agent] (b.pa / 64) 0x3170).acceptNotice (stackOf b.pa) b.agent b.ack

/-- The agent owns the line. -/
def State.owns (s : State) (x line : Nat) : Bool :=
  match s.dirEnt line with
  | some d => d.state == .O && d.ags.contains x
  | none => false

/-- A `WR_BACK` whose buffer holds the line (R63, R75, R77, R155). -/
def State.writeBack (s : State) (b : Buffered) : State :=
  let line := b.pa / 64
  let home := stackOf b.pa
  let x := b.agent
  let data := slice (b.data.getD []) 0 64
  match s.extentOf (granuleOf b.pa) with
  | none => s.staleNotice b
  | some (_, e) =>
    if !e.coherent && e.state == .active then (s.store (64 * line) data).acceptNotice home x b.ack
    else if !s.lists x line then s.staleNotice b
    else
      let s := if s.owns x line then s.storeLine line data else s.countCoh [x] line 0x3170
      ((s.snoopResult x line false).acceptNotice home x b.ack).noticeLanded x line

/-- An `EVICT_CLEAN` (R75, R77). -/
def State.evictNotice (s : State) (b : Buffered) : State :=
  let line := b.pa / 64
  if s.lists b.agent line then
    ((s.snoopResult b.agent line false).acceptNotice (stackOf b.pa) b.agent b.ack).noticeLanded b.agent line
  else s.staleNotice b

/-- The packet of a CXL.mem message. -/
def cxlPkt (tag ptype subop n : Nat) (data : Bytes) : Pkt :=
  { Pkt.zero with ptype := ptype, subop := subop, tag := BitVec.ofNat 32 tag, opLen := n, payload := data }

/-- A `MemWr` of a host that owns the line (R78): its writeback, or the dirty data of the snoop whose `BIRsp`
follows. Data of a revocation's snoop is discarded (R88); a line that the host owns no more takes none (R77). -/
def State.hostWrite (s : State) (b : Buffered) : State :=
  let line := b.pa / 64
  let port := b.agent
  let data := slice (b.data.getD []) 0 64
  let owns := s.owns port line
  let s := if !owns then s.countCoh [port] line 0x3170 else s.storeLine line data
  let s := if owns && (s.snoopOf port line).isNone then s.snoopResult port line false else s
  s.reply (homeOf line) (.cxl port (64 * line)) (cxlPkt b.tag 2 0 64 data) (some (pfOf port)) 3 false stOK 4 0 []

/-- A writeback that had landed before the state of its agent ended (R84): its data reaches DRAM, and a transaction
that was held for it completes. -/
def State.landed (s : State) (b : Buffered) : State :=
  let line := b.pa / 64
  let s := s.storeLine line (slice (b.data.getD []) 0 64)
  (if b.agent < 2 then s else s.acceptNotice (stackOf b.pa) b.agent b.ack).noticeLanded b.agent line

/-- Apply a message of an agent. -/
def State.agentMsg (s : State) (b : Buffered) : State :=
  match b.kind with
  | 0 => s.snoopAnswer b.agent (b.pa / 64) false b.data
  | 1 => s.snoopAnswer b.agent (b.pa / 64) true b.data
  | 2 => s.snoopEvicted b.agent (b.pa / 64) b.data.isSome
  | 3 => s.writeBack b
  | 4 => s.evictNotice b
  | 5 => s.hostWrite b
  | _ => s.landed b

/-- The write that a message brings is held: for the reservation of its granule (R155), for a zero-fill in
progress, for room in the fill table (R49), or for a dirty-table entry (R361); and a message that comes after a held one of its agent for the same line
waits behind it (R78). -/
def State.msgHeld (s : State) (b : Buffered) (earlier : List Buffered) : Bool :=
  earlier.any (fun x => x.agent == b.agent && x.pa / 64 == b.pa / 64) ||
  (b.kind != 2 && b.data.isSome &&
   (((b.kind == 3 || b.kind == 6) && (s.reservation (granuleOf b.pa)).isSome) || s.fillHolds [(b.pa, 64)] true ||
    s.tableFull (granuleOf b.pa)))

/-- A message takes its place in the order of arrival and waits there (R49, R155). -/
def State.holdMsg (s : State) (b : Buffered) : State :=
  { s with reqNo := s.reqNo + 1, home := { s.home with heldWb := s.home.heldWb ++ [{ b with ord := s.reqNo }] } }

/-- Take a message in: it is kept while its region is in reset (R89) and while its write is held. -/
def State.takeMsg (s : State) (b : Buffered) : State :=
  if (s.region (stackOf b.pa)).inReset then s.modHome (fun h => { h with inbox := h.inbox ++ [b] })
  else if s.msgHeld b s.home.heldWb then s.holdMsg b
  else s.agentMsg b

/-- The message answers a snoop, or brings the data of a snoop under way on a host port (R78, R89). -/
def State.isAnswer (s : State) (b : Buffered) : Bool :=
  decide (b.kind ≤ 2) || (b.kind == 5 && (s.snoopOf b.agent (b.pa / 64)).isSome)

/-- What a region in reset held goes to the buffers of the reset, ahead of what comes during it (R89). -/
def State.keepMsgs (s : State) (g : Nat) : State :=
  s.modHome (fun h => { h with inbox := h.heldWb.filter (fun b => stackOf b.pa == g) ++ h.inbox,
                               heldWb := h.heldWb.filter (fun b => stackOf b.pa != g) })

/-- The region leaves reset: snoops are completed first, then notices (R89), each in the order of arrival. -/
def State.drainInbox (s : State) (g : Nat) : State :=
  let mine := s.home.inbox.filter (fun b => stackOf b.pa == g)
  let s := s.modHome (fun h => { h with inbox := h.inbox.filter (fun b => stackOf b.pa != g) })
  (mine.filter (fun b => s.isAnswer b) ++ mine.filter (fun b => !s.isAnswer b)).foldl (fun s b => s.takeMsg b) s

/-- A held message goes on, unless its write is still held. -/
def State.freeMsg (s : State) (b : Buffered) : State :=
  if !s.home.heldWb.contains b || s.msgHeld b (s.home.heldWb.takeWhile (· != b)) then s
  else (s.modHome (fun h => { h with heldWb := h.heldWb.erase b })).agentMsg b

/-- Held writes of a region that nothing holds any more are performed, in the order in which they came (R49,
R155). -/
def State.releaseWb (s : State) (g : Nat) : State :=
  (s.home.heldWb.filter (fun b => stackOf b.pa == g)).foldl (fun s b => s.freeMsg b) s

/-! ### Rows: messages of fabric agents -/

/-- A notice of a fabric node (R77, R256): of an agent, or of one whose state has ended. -/
def State.notice (s : State) (p : Pkt) (wb : Bool) : State :=
  let s := s.takeIn p
  let pa := p.addr.toNat % 2 ^ 40 / 64 * 64
  let stray := (s.markAnswered p.dpg p.srcNode p.ssg p.seq).logRec lgSTRAY_NOTICE [p.srcNode]
  if addrNode p.addr ≠ s.aon.nodeId then stray
  else
    let msg (x : Nat) : Buffered :=
      ⟨if wb then 3 else 4, x, pa, if wb then some p.payload else none, 0, 0, some (p.dpg, p.ssg, p.seq)⟩
    match s.agentOfNode p.srcNode with
    | some x => s.takeMsg (msg x)
    | none =>
      match s.endedOfNode p.srcNode with
      | some x => s.takeMsg (msg x)
      | none => stray

/-- A snoop's answer on the fabric, found by its tag (R257, R265). An answer to a copy whose snoop is over is
ignored (R82). -/
def State.fabricSnoop (s : State) (p : Pkt) (kind : Nat) (data : Option Bytes) : State :=
  let s := s.takeIn p
  match s.sendOf p with
  | none => s
  | some q =>
    if q.msg.ptype ≠ 5 then s
    else
      let s := s.closeSend p.dpg q.tag
      match s.agentOfNode p.srcNode with
      | none => s
      | some x => if q.late then s else s.takeMsg ⟨kind, x, q.msg.addr.toNat % 2 ^ 40 / 64 * 64, data, 0, 0, none⟩

/-- The line of an `RSP_I` or `RSP_S` with D = 1. -/
def rspData (p : Pkt) : Option Bytes := if p.payload.isEmpty then none else some p.payload

/-- WR_BACK (R75, R81). -/
def execWrBack (p : Pkt) (s : State) : Host.Outcome State Fault Refusal := onUnit true (s.notice p true)

/-- EVICT_CLEAN (R75, R77). -/
def execEvictClean (p : Pkt) (s : State) : Host.Outcome State Fault Refusal := onUnit true (s.notice p false)

/-- RSP_I (R75). -/
def execRspI (p : Pkt) (s : State) : Host.Outcome State Fault Refusal :=
  onUnit true (s.fabricSnoop p 0 (rspData p))

/-- RSP_S (R75). -/
def execRspS (p : Pkt) (s : State) : Host.Outcome State Fault Refusal :=
  onUnit true (s.fabricSnoop p 1 (rspData p))

/-- RSP_EVICTED (R81): INFO bit 0 is its data bit D. -/
def execRspEvicted (p : Pkt) (s : State) : Host.Outcome State Fault Refusal :=
  onUnit true (s.fabricSnoop p 2 (if p.info.getLsbD 0 then some [] else none))

/-! ### Rows: CXL.mem of the host ports (R78, R79, R444) -/

def State.listedAs (s : State) (x line : Nat) (st : LineState) : Bool :=
  match s.dirEnt line with
  | some d => d.state == st && d.ags.contains x
  | none => false

/-- `MemRd`: Shared, Any or Invalid as RD_SHARED, RD_OWN (CLAIM for a listed sharer) or RD_UNC. -/
def State.memRd (s : State) (port tag : Nat) (m : MetaValue) (pa : Nat) : State :=
  let line := pa / 64
  let sub := match m with
    | .shared => 1
    | .any => if s.listedAs port line .S then 3 else 2
    | .invalid => 0
  let sub := if (s.hostAgent port).isNone || !s.coherentAt (granuleOf pa) then 0 else sub
  s.requestPa (.cxl port (64 * line)) (cxlPkt tag 1 sub 64 []) port (64 * line)

/-- `MemWr`: a writeback of a line the host owns, else an uncached write for which a sharer's copy is
given up (R76, R78). -/
def State.memWr (s : State) (port tag pa : Nat) (data : Bytes) : State :=
  let line := pa / 64
  if (s.hostAgent port).isSome && s.listedAs port line .O then
    s.takeMsg ⟨5, port, 64 * line, some (slice data 0 64), tag, 0, none⟩
  else
    let s := if (s.hostAgent port).isSome && s.lists port line then s.snoopResult port line false else s
    s.requestPa (.cxl port (64 * line)) (cxlPkt tag 2 0 64 (slice data 0 64)) port (64 * line)

/-- MEM_RD (R78). -/
def execMemRd (port tag : Nat) (m : MetaValue) (pa : Nat) (s : State) : Host.Outcome State Fault Refusal :=
  onUnit (decide (port < 2)) (s.memRd port tag m pa)

/-- MEM_WR (R76, R78). -/
def execMemWr (port tag pa : Nat) (data : Bytes) (s : State) : Host.Outcome State Fault Refusal :=
  onUnit (decide (port < 2)) (s.memWr port tag pa data)

/-- MEM_CLN_EVCT (R78, R79): the host's EVICT_CLEAN. -/
def execMemClnEvct (port pa : Nat) (s : State) : Host.Outcome State Fault Refusal :=
  onUnit (decide (port < 2)) (if (s.hostAgent port).isSome then s.takeMsg ⟨4, port, pa / 64 * 64, none, 0, 0, none⟩ else s)

/-- A `BIRsp` of a host (R78). The port keeps the order of its messages, so the first answers that come for a line are
those to resent copies of an earlier snoop; the home ignores them (R82, assumption 193). -/
def State.hostAnswer (s : State) (port pa : Nat) (keep : Bool) : State :=
  let line := pa / 64
  match s.home.owed.find? (fun o => o.1 == port && o.2.1 == line) with
  | some o => s.modHome (fun h => { h with owed := h.owed.filterMap (fun x =>
      if x == o then (if x.2.2 ≤ 1 then none else some (x.1, x.2.1, x.2.2 - 1)) else some x) })
  | none => s.takeMsg ⟨if keep then 1 else 0, port, 64 * line, none, 0, 0, none⟩

/-- BI_RSP_S (R78). -/
def execBiRspS (port pa : Nat) (s : State) : Host.Outcome State Fault Refusal :=
  onUnit (decide (port < 2)) (s.hostAnswer port pa true)

/-- BI_RSP_I (R78). -/
def execBiRspI (port pa : Nat) (s : State) : Host.Outcome State Fault Refusal :=
  onUnit (decide (port < 2)) (s.hostAnswer port pa false)

/-- BI_CONFLICT (R78): BIConflictAck follows once the crossing snoop's transaction has closed. -/
def execBiConflict (port pa : Nat) (s : State) : Host.Outcome State Fault Refusal :=
  let line := pa / 64
  onUnit (decide (port < 2))
    (if (s.txn line).isSome then s.modHome (fun h =>
        { h with txns := amod h.txns line (fun t => { t with conflicts := t.conflicts ++ [port] }) })
     else s.conflictAck port line)

/-! ### Parked requests and unanswered snoops -/

/-- The first parked request of a line is served (R65); the place it leaves in the pending queue is filled from the
mesh. -/
def State.serveParked (s : State) (line : Nat) : State :=
  match s.waiting.find? (fun w => w.why == .parked line) with
  | none => s
  | some w => if (s.txn line).isSome then s else (s.resume w.id).drainMesh (homeOf line)

/-- A snoop has gone unanswered for the timeout under which it was sent (R82, R463). One that its agent has answered
with `RSP_EVICTED` waits for the notice and is not sent again. -/
def State.snoopTimeout (s : State) (line x : Nat) : State :=
  match s.snoopOf x line with
  | none => s
  | some y =>
    if y.held then s else
    let s := s.reach y.due
    let n := y.timeouts + 1
    let due := s.now + fastEdge s (us y.limit)
    let s := s.modHome (fun h => { h with txns := amod h.txns line (fun t =>
      { t with stuck := t.stuck || decide (n ≥ 2),
               forWhat := if n = 2 then (match t.forWhat with
                 | .request _ => .orphan | .evict => .evict | .engine g => .engine g | .remove a => .remove a
                 | .revoke e => .revoke e | .orphan => .orphan) else t.forWhat,
               snoops := t.snoops.map (fun z => if z.agent == x then { z with due := due, timeouts := n } else z) }) })
    let s := (s.sendSnoop x line y.kind).countCoh [x] line 0x3178
    if n = 2 then
      let ids := s.waitersFor (fun w => w == .txn line || w == .parked line)
      ((ids.foldl (fun s i => s.failReq i stRETRY) s).drainMesh (homeOf line)).logRec lgSNOOP_STUCK [x, line]
    else s

/-- SNOOP_TIMEOUT (R82). -/
def execSnoopTimeout (line agent : Nat) (s : State) : Host.Outcome State Fault Refusal :=
  onUnit (decide (64 * line < poolEnd)) (s.snoopTimeout line agent)

/-! ### The end of an agent -/

/-- The line lies in an extent that is being revoked or reclaimed (R87). -/
def State.leaving (s : State) (line : Nat) : Bool :=
  match s.extentOf (granuleOf (64 * line)) with
  | some e => e.2.state != .active
  | none => true

/-- The snoop of an agent that has ended is over. -/
def State.endSnoop (s : State) (x line : Nat) : State :=
  match s.snoopOf x line with
  | some _ =>
    let (w, s) := s.closeSnoop line x
    s.afterTxn w
  | none => s

/-- A listed O line of an ended agent enters state L (R84); a line of an extent that leaves is discarded (R87). -/
def State.toLost (s : State) (x line : Nat) : State :=
  if s.leaving line then (s.dirDel line).endSnoop x line
  else
    let ext := ((s.extentOf (granuleOf (64 * line))).map (·.1)).getD 0
    let n := ((s.home.marking.find? (fun m => m.1 == x && m.2.1 == ext)).map (·.2.2.1)).getD 0
    let a := (s.agentRec x).getD ⟨0, 0, false⟩
    let s := s.modHome (fun h =>
      { h with marking := h.marking.filter (fun m => !(m.1 == x && m.2.1 == ext)) ++ [(x, ext, n, a.node, a.vi)] })
    s.dirPut line ⟨.L, true, [x], 0⟩

/-- Writebacks of a line that have landed and wait in the buffers of its region. -/
def State.landing (s : State) (x line : Nat) : Bool :=
  (s.home.heldWb ++ s.home.inbox).any (fun b => b.agent == x && b.pa / 64 == line && (b.kind == 3 || b.kind == 5 || b.kind == 6))

/-- What the agent wrote back before its state ended is accepted: it owned the line still (R77, R84). -/
def State.acceptLanded (s : State) (x : Nat) : State :=
  let conv (b : Buffered) : Buffered :=
    if b.agent == x && (b.kind == 3 || b.kind == 5) && s.owns x (b.pa / 64) then { b with kind := 6 } else b
  s.modHome (fun h => { h with heldWb := h.heldWb.map conv, inbox := h.inbox.map conv })

/-- The end of a caching agent's state (R83, R84). Its index is out of every entry before a transaction goes on: an O
line, and a line held for a writeback that the agent has announced and that has not landed, become lost dirty. An O line
whose snoop is unanswered is one whose transaction completes as on `RSP_I` without data, and takes no mark
(assumption 194). -/
def State.endAgent (s : State) (x : Nat) : State :=
  match s.agent x with
  | none => s
  | some _ =>
    let waits := (s.home.txns.filterMap (fun t =>
      (t.2.snoops.find? (fun y => y.agent == x)).map (fun y => (t.1, y.held))))
    let asked := (waits.filter (fun w => !w.2)).map (·.1)
    let held := (waits.filter (fun w => w.2)).map (·.1)
    let mine := s.home.dir.filter (fun e => e.2.ags.contains x && e.2.state != .L)
    let s := (s.acceptLanded x).retireAgent x
    let s := mine.foldl (fun s e =>
      if (e.2.state == .O || held.contains e.1) && !asked.contains e.1 && !s.landing x e.1 then s.toLost x e.1
      else s.dropAgent e.1 x) s
    let s := asked.foldl (fun s l => s.snoopAnswer x l false none) s
    let s := s.modHome (fun h => { h with owed := h.owed.filter (fun o => o.1 != x) })
    s.removeStep x

/-- The marking of an ended agent's lines in an extent goes on while one is in state L; after the last one the summary
event follows, with the count of the lines marked (R86). -/
def State.markOver (s : State) (x ext : Nat) : State :=
  let more := s.home.dir.any (fun e => e.2.state == .L && e.2.ags.head? == some x &&
    ((s.extentOf (granuleOf (64 * e.1))).map (·.1)) == some ext)
  match s.home.marking.find? (fun m => m.1 == x && m.2.1 == ext) with
  | none => s
  | some m =>
    if more then s
    else (s.modHome (fun h => { h with marking := h.marking.erase m })).when (m.2.2.1 != 0) (fun s =>
      s.post (s.ext ext).ownerVi evCOH_LOST_DIRTY 0 (toLe 2 ext ++ toLe 1 x ++ toLe 1 0 ++ toLe 4 m.2.2.1))

/-- The mark of a line in state L is written: the entry is freed (R84, R86), and a transaction that
was held for the agent's writeback completes from the marked line. A mark on an invalid granule waits for room in the
fill table (R49), and any waits for a dirty-table entry (R361); a line whose extent leaves is discarded instead (R87). -/
def State.markDone (s : State) (line : Nat) : State :=
  match s.dirEnt line with
  | none => s
  | some d =>
    let x := d.ags.headD 0
    let ext := ((s.extentOf (granuleOf (64 * line))).map (·.1)).getD 0
    if d.state != .L then s
    else if s.leaving line then ((s.dirDel line).markOver x ext).endSnoop x line
    else if s.fillHolds [(64 * line, 64)] true || s.tableFull (granuleOf (64 * line)) then s
    else
      let pa := 64 * line
      let of_ := ((s.home.marking.find? (fun m => m.1 == x && m.2.1 == ext)).map (·.2.2.2)).getD (0, 0)
      let node := of_.1
      let s := (s.markLine pa).dirDel line
      let s := (insSet (s.cohVis [] line) of_.2).foldl (fun s v => s.count v 0x3180 1) s
      let s := s.modRegion (stackOf pa) (fun r => { r with lostLog := r.lostLog ++ [⟨pa, x, node, ext⟩] })
      let s := s.modHome (fun h => { h with marking := h.marking.map (fun m =>
        if m.1 == x && m.2.1 == ext then (m.1, m.2.1, m.2.2.1 + 1, m.2.2.2) else m) })
      (s.markOver x ext).endSnoop x line

/-- LOST_DIRTY_MARK_DONE (R84). -/
def execLostDirtyMarkDone (line : Nat) (s : State) : Host.Outcome State Fault Refusal :=
  onUnit (decide (64 * line < poolEnd)) (s.markDone line)

/-- HDM_DB_DISABLE (R83): the host port's agent ends. -/
def execHdmDbDisable (port : Nat) (s : State) : Host.Outcome State Fault Refusal :=
  onUnit (decide (port < 2))
    ((s.endAgent port).setHostPort port { s.hostPort port with hdmDb := false })

/-- HOST_LINK_DOWN (R83): the link of the port is down and its agent ends. -/
def execHostLinkDown (port : Nat) (s : State) : Host.Outcome State Fault Refusal :=
  onUnit (decide (port < 2))
    ((s.endAgent port).setHostPort port { s.hostPort port with hdmDb := false })

/-- HDM_DB_ENABLE (R64): the host port becomes caching agent 0 or 1 of its physical function. -/
def execHdmDbEnable (port : Nat) (s : State) : Host.Outcome State Fault Refusal :=
  onUnit (decide (port < 2))
    (if s.hostLive port then
       (s.newAgent port ⟨s.aon.nodeId, pfOf port, true⟩).setHostPort port
         { s.hostPort port with hdmDb := true }
     else s)

/-! ### Fills -/

/-- What a fill has held goes on in the order in which the home received it (R49): requests as (place, number), and
messages, each list in rising order. -/
def State.goOn (s : State) (k : Nat) (reqs : List (Nat × Nat)) (msgs : List Buffered) : State :=
  match k with
  | 0 => s
  | k + 1 =>
    match reqs, msgs with
    | [], [] => s
    | r :: rs, [] => (s.resume r.2).goOn k rs []
    | [], m :: ms => (s.freeMsg m).goOn k [] ms
    | r :: rs, m :: ms => if r.1 < m.ord then (s.resume r.2).goOn k rs (m :: ms) else (s.freeMsg m).goOn k (r :: rs) ms

/-- The zero-fill of a granule has ended (R49): what waits for it, or for room in the fill table, goes on in order. A
granule that a whole write has made valid since is not filled again. The fill of a mirrored granule waits for its
dirty-table entry (R360, R361). -/
def State.fillDone (s : State) (granule : Nat) : State :=
  let g := regionOfGranule granule
  if !(s.region g).fills.contains granule || (!s.isValid granule && s.tableFull granule) then s
  else
    let s := if s.isValid granule then s else s.fillGranule granule
    let s := s.modRegion g (fun r => { r with fills := r.fills.filter (· != granule) })
    let reqs := (s.waiting.filter (fun w => w.why == .fill granule || w.why == .fillRoom g)).map (fun w => (w.ord, w.id))
    let msgs := s.home.heldWb.filter (fun b => stackOf b.pa == g)
    s.goOn (reqs.length + msgs.length) reqs msgs

/-- FILL_DONE (R49). -/
def execFillDone (granule : Nat) (s : State) : Host.Outcome State Fault Refusal :=
  onUnit (decide (granule < 12 * stackGranules)) (s.fillDone granule)

end Sys2Proof.Machine
end

