-- ==== Sys2Proof/Machine/Access.lean ====
section
/-! DEFINITION. Requests for pool data that a link die or a host port hands on (R34, R62, R75, R257, R444),
and gather writes that arrive (R261). -/
namespace Sys2Proof.Machine

open Sys2Proof

/-- The `AOP` of an atomic: its row's, and a reserved one as the transport delivered it, which R257 answers
`BOUND`. -/
def State.aopOf (s : State) (p : Pkt) (aop : Nat) : Nat :=
  if (p.aop = 0 ∨ p.aop > 5) ∧ p.ptype = 3 ∧ (s.die p.dpg).inbox.contains p then p.aop else aop

/-- A request message whose every packet has arrived is handed to the checks of R34; it waits in its ingress
while the link die has no free request context (R268, R272). -/
def State.fabricRequest (s : State) (p : Pkt) (typ sub aop : Nat) : Host.Outcome State Fault Refusal :=
  onUnit true (
    if s.admits p then
      (s.takeIn p).request (.fabric p.dpg) { p with ptype := typ, subop := sub, aop := if typ = 3 then s.aopOf p aop else p.aop }
    else s)

/-- RD_SHARED (R63, R75). -/
def execRdShared (p : Pkt) (s : State) : Host.Outcome State Fault Refusal := s.fabricRequest p 1 1 0

/-- RD_OWN (R63, R75). -/
def execRdOwn (p : Pkt) (s : State) : Host.Outcome State Fault Refusal := s.fabricRequest p 1 2 0

/-- CLAIM (R63, R75, R76). -/
def execClaim (p : Pkt) (s : State) : Host.Outcome State Fault Refusal := s.fabricRequest p 1 3 0

/-- ATOMIC_FETCH_ADD (R257). -/
def execAtomicFetchAdd (p : Pkt) (s : State) : Host.Outcome State Fault Refusal := s.fabricRequest p 3 0 1

/-- ATOMIC_SWAP (R257). -/
def execAtomicSwap (p : Pkt) (s : State) : Host.Outcome State Fault Refusal := s.fabricRequest p 3 0 2

/-- ATOMIC_CAS (R257). -/
def execAtomicCas (p : Pkt) (s : State) : Host.Outcome State Fault Refusal := s.fabricRequest p 3 0 3

/-- ATOMIC_FP32_ADD (R257). -/
def execAtomicFp32Add (p : Pkt) (s : State) : Host.Outcome State Fault Refusal := s.fabricRequest p 3 0 4

/-- ATOMIC_FETCH_MAX (R257). -/
def execAtomicFetchMax (p : Pkt) (s : State) : Host.Outcome State Fault Refusal := s.fabricRequest p 3 0 5

/-- COPY (R59, R257). -/
def execCopy (p : Pkt) (s : State) : Host.Outcome State Fault Refusal := s.fabricRequest p 4 0 0

/-- GATHER_WR (R257): a write of the COL class, for which its source needs COL_SRC (R261). -/
def execGatherWr (p : Pkt) (s : State) : Host.Outcome State Fault Refusal :=
  onUnit true (
    if !s.admits p then s
    else if (s.node p.srcNode).colSrc then
      (s.takeIn p).request (.fabric p.dpg) { p with ptype := 9, subop := 0 }
    else (s.takeIn p).replyEdge (.fabric p.dpg) { p with ptype := 9, subop := 0 } none 7 stBOUND)

/-- A PCI Express access of a host port through a window of the function's binding. -/
def hostPkt (node window offset typ n tag : Nat) (data : Bytes) : Pkt :=
  { Pkt.zero with ptype := typ, srcNode := node, dstNode := node, addr := mkAddr node window offset, opLen := n,
                  tag := BitVec.ofNat 32 tag, payload := data }

/-- HOST_MEM_READ (R34, R62, R444): an uncached read from a function of a host port. -/
def execHostMemRead (vi window offset len tag : Nat) (s : State) : Host.Outcome State Fault Refusal :=
  onUnit (decide (vi < 512 ∧ window < 1024)) (
    if s.viExists vi && s.hostLive (complexOf vi) then s.request (.hostIo vi) (hostPkt s.aon.nodeId window offset 1 len tag []) else s)

/-- HOST_MEM_WRITE (R34, R62, R362, R444): an uncached posted write, which has no answer. -/
def execHostMemWrite (vi window offset : Nat) (data : Bytes) (s : State) : Host.Outcome State Fault Refusal :=
  onUnit (decide (vi < 512 ∧ window < 1024)) (
    if s.viExists vi && s.hostLive (complexOf vi) then s.request (.hostIo vi) (hostPkt s.aon.nodeId window offset 2 data.length 0 data) else s)

end Sys2Proof.Machine
end

