-- ==== Sys2Proof/Machine/Channel.lean ====
section
/-! DEFINITION. The DRAM channels (R308 to R326): traffic and where it enters (R309, R312, R316), the latency port and panic, the Ford arbiter, refresh,
Eddy tables and neighbour refreshes, and the decoding of read data (R328, R329). -/
namespace Sys2Proof

open Machine

/-! ### What a request is to its channel -/

/-- The requester of the lottery that the traffic belongs to (R316); `none`: the latency port carries it (R312). -/
def Traffic.requester (t : Traffic) : Option Nat :=
  match t with
  | .fabricRead c => if c = 0 then none else some 0
  | .copySource => some 0
  | .fabricWrite | .atomic | .copyDest | .localGather | .fillWrite => some 1
  | .stateRead | .holdRead | .gatherRead | .programLoad => some 2
  | .commitWrite | .holdWrite => some 3
  | .spaceRead | .spaceWrite | .completionRead => some 4
  | .scrubRead | .scrubWrite | .lostMark | .bitmapClear => some 5
  | .dirtyRead | .resyncRead | .resyncWrite => some 6
  | .hostRead | .hostWrite | .tableWrite | .firmwareWrite => some 7
  | .replicationWrite | .mirrorRead => none

/-- The request writes: alone, or as a read-modify-write (R311). -/
def Traffic.writes (t : Traffic) : Bool :=
  match t with
  | .fabricWrite | .atomic | .copyDest | .localGather | .fillWrite | .commitWrite | .holdWrite | .spaceWrite
  | .scrubWrite | .lostMark | .bitmapClear | .resyncWrite | .replicationWrite | .hostWrite | .tableWrite
  | .firmwareWrite => true
  | .fabricRead _ | .copySource | .stateRead | .holdRead | .gatherRead | .programLoad | .spaceRead
  | .completionRead | .scrubRead | .dirtyRead | .resyncRead | .hostRead | .mirrorRead => false

/-- The request goes by the latency port. -/
def ChanReq.urgent (r : ChanReq) : Bool := r.use.requester.isNone
/-- The requester whose FIFO and tickets the request has. -/
def ChanReq.req (r : ChanReq) : Nat := r.use.requester.getD 8
def ChanReq.write (r : ChanReq) : Bool := r.use.writes
/-- A lost-dirty mark write (R84, R317). -/
def ChanReq.mark (r : ChanReq) : Bool := r.use == .lostMark
/-- Bank and row of its block (R309). -/
def ChanReq.bank (r : ChanReq) : Nat := bankOf r.pa
def ChanReq.row (r : ChanReq) : Nat := rowOf r.pa
/-- The 32-byte words it touches (R311). -/
def ChanReq.words (r : ChanReq) : List Nat := span (r.pa / 32) ((r.pa + r.len - 1) / 32 + 1 - r.pa / 32)
/-- M-cycles of its data on the data bus: 64 bytes in each (R310). -/
def ChanReq.busCycles (r : ChanReq) : Nat := (r.pa + r.len - 1) / 64 + 1 - r.pa / 64

end Sys2Proof

namespace Sys2Proof.Machine

open Sys2Proof

/-! ### Banks, words and Eddy counts -/

def Chan.modStats (c : Chan) (f : ChanStats → ChanStats) : Chan := { c with stats := f c.stats }

/-- Panic is in effect (R313). -/
def Chan.panics (c : Chan) : Bool := c.panic && c.panicEn

/-- A bank is in use by an access or another operation. -/
def Chan.bankBusy (c : Chan) (b now : Nat) : Bool :=
  decide (now < tget 0 c.bankUntil b) || c.active.any (fun e => e.r.bank == b)

/-- An operation that occupies a bank for 12 M-cycles (R310). -/
def Chan.occupy (c : Chan) (b now : Nat) : Chan :=
  { c with bankUntil := tset 0 c.bankUntil b (now + mCycles 12), cmdAt := now }

/-- Bring the sum that the mean of the pending queue is taken from up to now, before the queue changes (R298). -/
def Chan.sumParked (c : Chan) (now : Nat) : Chan :=
  { c with parkAcc := c.parkAcc + c.parked.length * (now - c.parkAt), parkAt := now }

/-- A queued latency-port request names the bank (R314). -/
def Chan.lpNames (c : Chan) (b : Nat) : Bool := c.lp.any (fun e => e.r.bank == b)

/-- Every entry that the channel holds. -/
def Chan.entries (c : Chan) : List ChanEnt := c.lp ++ c.fifos.flatMap (·.2) ++ c.parked ++ c.active

/-- An earlier entry names a word of this one (R311). -/
def Chan.blocked (c : Chan) (e : ChanEnt) : Bool :=
  c.entries.any (fun x => decide (x.ord < e.ord) && x.r.words.any (fun w => e.r.words.contains w))

/-- The Eddy threshold in force (R325). -/
def Chan.threshold (c : Chan) : Nat := if c.halfLeft = 0 then c.eddyTh * 1024 else c.eddyTh * 512

/-- The place of an Eddy table's entry with the lowest count, lowest index on a tie. -/
def lowestEddy (t : List (Nat × Nat × Nat)) : Nat :=
  ((List.range t.length).foldl (fun (a : Option Nat) i =>
    match a with
    | none => some i
    | some j => if (t.getD i (0, 0, 0)).2.2 < (t.getD j (0, 0, 0)).2.2 then some i else a) none).getD 0

/-- The rows next to a row that exist in its bank (R325). -/
def neighbours (row : Nat) : List Nat :=
  ((if row ≥ 2 then [row - 2] else []) ++ (if row ≥ 1 then [row - 1] else []) ++ [row + 1, row + 2]).filter (· < 36864)

/-- Neighbour refreshes beyond the four of the queue take the room that has come (R325, assumption 216). -/
def Chan.refillNeigh (c : Chan) : Chan :=
  let k := 4 - c.neigh.length
  { c with neigh := c.neigh ++ c.neighHeld.take k, neighHeld := c.neighHeld.drop k }

/-- Count an activate of a row (R324, R325). One that reaches the threshold while the queue of four is full, which only the
latency port, a mark write or a row refresh can bring, has its neighbour refresh wait for room (assumption 216). -/
def Chan.activate (c : Chan) (b row now : Nat) : Chan :=
  let i := match c.eddy.findIdx? (fun e => e.1 == b && e.2.1 == row) with
    | some i => i
    | none => if c.eddy.length < 64 then c.eddy.length else lowestEddy c.eddy
  let n := (c.eddy.getD i (0, 0, 0)).2.2 + 1
  let put (n : Nat) : List (Nat × Nat × Nat) :=
    if i < c.eddy.length then c.eddy.set i (b, row, n) else c.eddy ++ [(b, row, n)]
  if n ≥ c.threshold then
    { c with eddy := put 0, neighHeld := c.neighHeld ++ [(⟨b, neighbours row, now⟩ : Neigh)] }.refillNeigh
  else { c with eddy := put n }

/-- The lottery activates nothing in this bank: the neighbour queue is full, or one of the bank is past
its 1 µs (R325). -/
def Chan.barred (c : Chan) (b now : Nat) : Bool :=
  (decide (c.neigh.length ≥ 4) && c.neigh.any (fun n => n.bank == b)) ||
  c.neigh.any (fun n => n.bank == b && decide (n.at_ + us 1 ≤ now))

/-- An entry is issuable (R317): its bank is closed, the data bus has a slot for it, which comes a fixed time after its
command (R310), and no earlier request names a word of it. The timing of a bank is that of assumption 27. -/
def Chan.issuable (c : Chan) (now : Nat) (e : ChanEnt) : Bool :=
  !c.bankBusy e.r.bank now && decide (c.busUntil ≤ now) && !c.blocked e

def Chan.lotteryOk (c : Chan) (now : Nat) (e : ChanEnt) : Bool := c.issuable now e && !c.barred e.r.bank now

/-! ### Arrival -/

/-- Level of the latency port (R313). -/
def Chan.level (c : Chan) (now : Nat) : Chan :=
  if c.lp.length > c.panicHi && !c.panic then
    { c with panic := true, panicAt := now }.modStats (fun s => { s with panicEntries := s.panicEntries + 1 })
  else if c.panic && decide (c.lp.length ≤ c.panicLo) then
    { c with panic := false }.modStats (fun s =>
      { s with panicCycles := min 0xFFFFFFFF (s.panicCycles + (now - c.panicAt) / 1008) })
  else c

/-- A forced grant in a bank delays the latency-port reads that are queued, and those of its bank that arrive
within its 12 M-cycles: they are flagged as starved (R315). -/
def Chan.starveLp (c : Chan) (b now : Nat) : Chan :=
  let fresh := (c.lp.filter (fun e => !e.starved && !e.r.write)).length
  { c with lp := c.lp.map (fun (e : ChanEnt) => if e.r.write then e else { e with starved := true }),
           forced := some (b, now + mCycles 12) }.modStats
    (fun s => { s with lpStarved := s.lpStarved + fresh })

/-- A latency-port read that arrives is flagged as starved (R315): another latency-port request is queued or in
steps 2 to 5 of R310, or a forced grant still holds its bank. -/
def Chan.lateLp (c : Chan) (r : ChanReq) (now : Nat) : Bool :=
  !r.write && (!c.lp.isEmpty || decide (now < c.lpUntil) ||
    (match c.forced with | some (b, t) => b == r.bank && decide (now < t) | none => false))

/-- A request enters the latency port (R312, R315) or its requester's FIFO (R316), and leaves the channel request
queue; where there is no room the region holds it. -/
def Chan.enter (c : Chan) (e : ChanEnt) (now : Nat) : Chan :=
  if e.r.urgent then
    if c.lp.length ≥ 32 then { c with held := c.held ++ [e] }
    else
      let late := c.lateLp e.r now
      ({ c with lp := c.lp ++ [{ e with since := now, starved := late }] }.modStats (fun s =>
        { s with lpStarved := s.lpStarved + b2n late })).level now
  else
    let f := tget [] c.fifos e.r.req
    if f.length ≥ 8 then { c with held := c.held ++ [e] }
    else { c with fifos := tset [] c.fifos e.r.req (f ++ [{ e with since := now }]) }

/-- Requests that the region holds enter where room has come. -/
def Chan.takeHeld (c : Chan) (now : Nat) : Chan :=
  c.held.foldl (fun c e => c.enter e now) { c with held := [] }

/-! ### Issue -/

/-- Take an entry out of the queues. -/
def Chan.remove (c : Chan) (e : ChanEnt) : Chan :=
  { c with lp := c.lp.filter (· != e), parked := c.parked.filter (· != e),
           fifos := c.fifos.filterMap (fun f =>
             let l := f.2.filter (· != e)
             if l.isEmpty then none else some (f.1, l)) }

/-- Issue an entry: an activate, the data bus after it, and for a read the wait for its data. A write is performed.
Steps 4 and 5 of R310 take 28 M-cycles. -/
def Chan.issue (c : Chan) (e : ChanEnt) (now : Nat) : Chan :=
  let c := (c.remove e).activate e.r.bank e.r.row now
  let c := if e.r.write then c.occupy e.r.bank now else { c with active := c.active ++ [e] }
  let c := { c with cmdAt := now, busUntil := now + mCycles e.r.busCycles,
                    lastMark := if e.r.mark then some now else c.lastMark,
                    lpUntil := if e.r.urgent then now + mCycles 28 else c.lpUntil }
  (if e.r.urgent then (c.modStats (fun s => { s with lpReads := s.lpReads + 1 })).level now
   else c.modStats (fun s =>
     { s with grants := tset 0 s.grants e.r.req (tget 0 s.grants e.r.req + 1),
              waitMax := tset 0 s.waitMax e.r.req (max (tget 0 s.waitMax e.r.req) ((now - e.since) / 1008)) })).takeHeld now

/-- The first in order of arrival. -/
def oldestEnt : List ChanEnt → Option ChanEnt
  | [] => none
  | e :: r =>
    match oldestEnt r with
    | none => some e
    | some x => if x.ord < e.ord then some x else some e

/-- The candidate of a requester (R317), and whether it is the head of its FIFO. -/
def Chan.candidate (c : Chan) (now i : Nat) : Option (ChanEnt × Bool) :=
  match oldestEnt (c.parked.filter (fun e => e.r.req == i && c.lotteryOk now e)) with
  | some e => some (e, false)
  | none =>
    match tget [] c.fifos i with
    | [] => none
    | e :: _ => if c.lotteryOk now e then some (e, true) else none

/-- One advance of the LFSR (R318). -/
def lfsrNext (l : Word32) : Word32 := if l.toNat % 2 = 1 then (l >>> 1) ^^^ 0x80200003#32 else l >>> 1

/-- The winner of a draw over candidates given as (requester, tickets) (R317). -/
def drawWinner (r : Nat) (acc : Nat) : List (Nat × Nat) → Option Nat
  | [] => none
  | e :: l => if acc + e.2 > r then some e.1 else drawWinner r (acc + e.2) l

/-- A loser parks its head (R319). -/
def Chan.park (c : Chan) (e : ChanEnt) : Chan :=
  if c.parked.length ≥ 64 then c
  else
    { c with parked := c.parked ++ [e], fifos := tset [] c.fifos e.r.req ((tget [] c.fifos e.r.req).drop 1) }.modStats
      (fun s => { s with waits := tset 0 s.waits e.r.req (tget 0 s.waits e.r.req + 1),
                         pendingMax := max s.pendingMax (c.parked.length + 1) })

/-- The lottery (R317, R318). -/
def Chan.lottery (c : Chan) (now : Nat) : Chan :=
  let cands := (List.range 8).filterMap (fun i => (c.candidate now i).map (fun x => (i, x)))
  let tickets := cands.map (fun x => (x.1, c.tickets.getD x.1 0))
  let total := tickets.foldl (fun a x => a + x.2) 0
  match cands with
  | [] => c
  | first :: _ =>
    let (win, c) := if total = 0 then (first.1, c)
      else ((drawWinner (bitf c.lfsr.toNat 31 16 * total / 2 ^ 16) 0 tickets).getD first.1,
            { c with lfsr := lfsrNext c.lfsr })
    match afind cands win with
    | none => c
    | some w =>
      let c := (cands.filter (fun x => x.1 != win && x.2.2)).foldl (fun c x => c.park x.2.1) c
      c.issue w.1 now

/-! ### Refresh -/

/-- One row refresh of a queued neighbour refresh (R325): an activate of that row. -/
def Chan.rowRefresh (c : Chan) (n : Neigh) (now : Nat) : Chan :=
  match n.rows with
  | [] => { c with neigh := c.neigh.erase n }.refillNeigh
  | r :: rest =>
    let c := (c.occupy n.bank now).activate n.bank r now
    if rest.isEmpty then
      { c with neigh := c.neigh.erase n }.refillNeigh.modStats (fun s => { s with eddyRefreshes := s.eddyRefreshes + 1 })
    else { c with neigh := c.neigh.map (fun x => if x == n then { n with rows := rest } else x) }

/-- A neighbour refresh that has waited 1 µs and whose bank is free (R317, R325). -/
def Chan.overdue (c : Chan) (now : Nat) : Option Neigh :=
  c.neigh.find? (fun n => decide (n.at_ + us 1 ≤ now) && !c.bankBusy n.bank now)

/-- A neighbour refresh that may be issued outside panic (R314, R325). -/
def Chan.mayRefreshRow (c : Chan) (now : Nat) : Option Neigh :=
  if c.panics then none
  else c.neigh.find? (fun n => !c.bankBusy n.bank now && !(c.panicEn && c.lpNames n.bank))

/-- What the controller does in a free command slot (R317). A neighbour refresh that is not yet forced
is issued in a slot that nothing else takes (assumption 27). -/
def Chan.slot (c : Chan) (now : Nat) : Chan :=
  match c.overdue now with
  | some n => (c.starveLp n.bank now).rowRefresh n now
  | none =>
    let marks := (c.parked ++ tget [] c.fifos 5).filter (fun e => e.r.mark && c.issuable now e)
    let markDue := match c.lastMark with | none => true | some t => decide (t + mCycles 100 ≤ now)
    match (if markDue then oldestEnt marks else none) with
    | some e => (c.starveLp e.r.bank now).issue e now
    | none =>
      match (c.lp.head?).filter (fun e => c.issuable now e) with
      | some e => c.issue e now
      | none =>
        if c.panics then c
        else
          match oldestEnt (c.parked.filter (fun e => e.starved && c.lotteryOk now e)) with
          | some e => c.issue e now
          | none =>
            if (List.range 8).any (fun i => (c.candidate now i).isSome) then c.lottery now
            else match c.mayRefreshRow now with
              | some n => c.rowRefresh n now
              | none => c

/-- A cause of R322 holds for a bank. -/
def Chan.postpones (c : Chan) (busy : Bool) (b now : Nat) : Bool :=
  c.panics || (c.panicEn && c.lpNames b) ||
  (busy && (List.range 8).any (fun i => match c.candidate now i with
    | some (e, _) => e.r.bank == b
    | none => false))

/-- A refresh slot of its bank (R321 to R324). With REF_POSTPONE = 0 the refresh starts at its slot (R445). -/
def Chan.refreshSlot (c : Chan) (busy : Bool) (now : Nat) : Chan :=
  let b := c.slotBank
  let c := { c with slotBank := (b + 1) % 64, slotAt := now }
  let c := if b ≠ 0 then c
    else if c.refDone ≥ 4608 then
      { c with refDone := 1, eddy := c.eddy.map (fun e => (e.1, e.2.1, 0)), halfLeft := c.halfLeft - 1 }
    else { c with refDone := c.refDone + 1, halfLeft := c.halfLeft - 1 }
  let n := tget 0 c.postponed b
  if decide (n < c.refPostpone) && c.postpones busy b now then
    { c with postponed := tset 0 c.postponed b (n + 1) }.modStats (fun s => { s with refPostponed := s.refPostponed + 1 })
  else if c.panicEn && c.refPostpone != 0 && c.lpNames b then { c with due := c.due ++ [b] }
  else c.occupy b now

/-- The moment from which the next catch-up refresh may be issued (R323). -/
def Chan.catchUpFrom (c : Chan) : Nat := match c.caughtAt with | some t => t + mCycles 12 | none => 0

/-- A lower REF_POSTPONE makes the refreshes beyond it due at once as catch-up (R323). -/
def Chan.lowerPostpone (c : Chan) (k : Nat) : Chan :=
  { c with refPostpone := k, postponed := (List.range 64).foldl (fun t b => tset 0 t b (min k (tget 0 c.postponed b))) [],
           due := c.due ++ (List.range 64).flatMap (fun b => List.replicate (tget 0 c.postponed b - k) b) }

/-- A refresh that was put off is made up (R322, R323), one every 12 M-cycles. -/
def Chan.catchUp (c : Chan) (busy : Bool) (now : Nat) : Chan :=
  match c.due.find? (fun b => !(c.panicEn && c.lpNames b) && !c.bankBusy b now) with
  | some b => { c with due := c.due.erase b, caughtAt := some now }.occupy b now
  | none =>
    match (c.postponed.map (·.1)).find? (fun b => !c.postpones busy b now && !c.bankBusy b now) with
    | some b => { c with postponed := tset 0 c.postponed b (tget 0 c.postponed b - 1), caughtAt := some now }.occupy b now
    | none => c

/-! ### The rows -/

/-- CHANNEL_REQUEST_ARRIVE (R309, R312, R313, R315, R316): the request enters the channel of its block (R12). -/
def execChannelRequestArrive (channel : Nat) (r : ChanReq) (s : State) : Host.Outcome State Fault Refusal :=
  onUnit (decide (r.pa < 12 * stackBytes ∧ packageChannel r.pa = channel)) (s.modChan channel (fun c =>
    { c with arrivals := c.arrivals + 1 }.enter ⟨r, c.arrivals, s.now, false, false⟩ s.now))

/-- CHANNEL_ISSUE (R317): the next command slot of a channel, one M-cycle after its last command. -/
def execChannelIssue (channel : Nat) (s : State) : Host.Outcome State Fault Refusal :=
  onUnit (decide (channel < 384)) (
    let s := s.reach ((s.chan channel).cmdAt + mCycles 1)
    s.modChan channel (fun c => { (c.sumParked s.now).slot s.now with cmdAt := s.now }))

/-- DRAM_READ_DONE (R328, R329): the data of the oldest read in progress is decoded. -/
def execDramReadDone (channel : Nat) (s : State) : Host.Outcome State Fault Refusal :=
  onUnit (decide (channel < 384)) (
    match (s.chan channel).active with
    | [] => s
    | e :: _ =>
      let s := s.modChan channel (fun c => { c with active := c.active.drop 1 })
      (e.r.words.filter (fun w => packageChannel (32 * w) == channel)).foldl (fun s w => (s.read none (32 * w) 32).2) s)

/-- REFRESH_SLOT (R321, R322, R324). -/
def execRefreshSlot (channel : Nat) (s : State) : Host.Outcome State Fault Refusal :=
  onUnit (decide (channel < 384)) (
    let c := s.chan channel
    let s := s.reach (c.slotAt + mCycles (if c.hot then 67 else 135))
    s.modChan channel (fun c => c.refreshSlot (s.region (channel / 32)).busyHalf s.now))

/-- CATCH_UP_REFRESH (R323). -/
def execCatchUpRefresh (channel : Nat) (s : State) : Host.Outcome State Fault Refusal :=
  onUnit (decide (channel < 384)) (
    let s := s.reach (s.chan channel).catchUpFrom
    s.modChan channel (fun c => c.catchUp (s.region (channel / 32)).busyHalf s.now))

/-- NEIGHBOUR_REFRESH_FORCE (R325): 1 µs after its threshold crossing a row of the oldest neighbour
refresh is refreshed ahead of everything. -/
def execNeighbourRefreshForce (channel : Nat) (s : State) : Host.Outcome State Fault Refusal :=
  onUnit (decide (channel < 384)) (
    match (s.chan channel).neigh with
    | [] => s
    | n :: _ =>
      let s := s.reach (n.at_ + us 1)
      s.modChan channel (fun c => match c.overdue s.now with
        | some m => (c.starveLp m.bank s.now).rowRefresh m s.now
        | none => c))

/-- The waiting entry of a number. -/
def Chan.findEnt (c : Chan) (id : Nat) : Option ChanEnt :=
  (c.parked ++ c.fifos.flatMap (·.2)).find? (fun e => e.r.id == id)

def Chan.modEnt (c : Chan) (id : Nat) (f : ChanEnt → ChanEnt) : Chan :=
  let g (e : ChanEnt) : ChanEnt := if e.r.id == id then f e else e
  { c with parked := c.parked.map g, fifos := c.fifos.map (fun x => (x.1, x.2.map g)) }

/-- ENTRY_STARVED (R320): 200 M-cycles without a grant. -/
def execEntryStarved (channel id : Nat) (s : State) : Host.Outcome State Fault Refusal :=
  onUnit (decide (channel < 384)) (
    match (s.chan channel).findEnt id with
    | none => s
    | some e =>
      if e.starved then s else
      (s.reach (e.since + mCycles 200)).modChan channel (fun c =>
        (c.modEnt id (fun e => { e with starved := true })).modStats (fun t => { t with starved := t.starved + 1 })))

/-- STARVE_LIMIT (R320): the entry has waited STARVE_LIMIT; FORD_STARVE at most once per 1 ms. -/
def execStarveLimit (channel id : Nat) (s : State) : Host.Outcome State Fault Refusal :=
  onUnit (decide (channel < 384)) (
    match (s.chan channel).findEnt id with
    | none => s
    | some e =>
      if e.limitHit then s else
      let s := s.reach (e.since + mCycles (s.chan channel).starveLimit)
      let s := s.modChan channel (fun c =>
        (c.modEnt id (fun e => { e with limitHit := true })).modStats (fun t =>
          { t with starve := true, starveReq := insSet t.starveReq e.r.req }))
      let c := s.chan channel
      let free := match c.postedAt with | none => true | some t => decide (t + ms 1 ≤ s.now)
      if c.starveIe && free then
        (s.modChan channel (fun c => { c with postedAt := some s.now })).postPfs evFORD_STARVE 0
          (toLe 2 channel ++ toLe 1 e.r.req)
      else s)

end Sys2Proof.Machine
end

