-- ==== Sys2Proof/Machine/Packets.lean ====
section
/-! DEFINITION. Packets as bytes (R254 to R259, R364, R365): the header, the extension, the check of
a header, and the cutting of a virtual channel's stream into packets. -/
namespace Sys2Proof.Machine

open Sys2Proof

/-- Types with an extension: all of R257 but ANSWER, and the granule records of R365. -/
def hasExt (t : Nat) : Bool := decide (1 ≤ t ∧ t ≤ 9) || t == 0x20 || t == 0x27

/-- The class of a type (R257, R364). -/
def classOf (t : Nat) : Nat :=
  if t = 0x06 ∨ t = 0x07 ∨ t = 0x0A ∨ t = 0x23 then vcRSP
  else if t = 0x05 ∨ t = 0x25 then vcSNP
  else if t = 0x08 ∨ t = 0x09 then vcCOL
  else vcREQ

def encodeHeader (p : Pkt) : Bytes :=
  toLe 1 p.ptype ++ toLe 1 (p.weir % 4 + 4 * b2n p.resend) ++ toLe 2 (p.dstNode % 4096 + 4096 * (p.dpg % 4)) ++
  toLe 2 (p.srcNode % 4096 + 4096 * (p.ssg % 4)) ++ toLe 2 p.payload.length ++ toLe 4 p.seq.toNat ++
  toLe 4 p.floor.toNat ++ toLe 4 p.tag.toNat ++ toLe 1 (p.msgIdx % 16 + 16 * (p.msgLast % 16)) ++
  toLe 1 (p.status % 16 + 16 * (p.load % 8)) ++ toLe 1 p.budget ++ toLe 1 p.subop ++ toLe 8 p.info.toNat

/-- The extension (R256). A granule record keeps GRANULE and CYCLE in `addr` and STAMP and RFLAGS in
`opLen` (R365). -/
def encodeExtension (p : Pkt) : Bytes :=
  toLe 8 p.addr.toNat ++ toLe 4 p.opLen ++ toLe 2 (p.cstream % 2 ^ 14 + 2 ^ 14 * b2n p.kind) ++
  toLe 2 (p.contrib % 4096 + 4096 * (p.fmt % 16)) ++ toLe 2 (wrapInt 16 p.maxExp) ++ toLe 1 p.aop ++ zeros 13

def encodePkt (p : Pkt) : Bytes :=
  encodeHeader p ++ (if hasExt p.ptype then encodeExtension p else []) ++ p.payload

/-- Header and extension of a packet of one type. -/
def headBytes (t : Nat) : Nat := if hasExt t then 64 else 32

/-- The packet whose bytes begin a string. -/
def parsePkt (b : Bytes) : Pkt :=
  let t := fld b 0 1
  let x := if hasExt t then b.drop 0x20 else []
  { ptype := t, weir := fld b 1 1 % 4, resend := tbit (fld b 1 1) 2,
    dstNode := fld b 2 2 % 4096, dpg := bitf (fld b 2 2) 13 12,
    srcNode := fld b 4 2 % 4096, ssg := bitf (fld b 4 2) 13 12,
    seq := BitVec.ofNat 32 (fld b 8 4), floor := BitVec.ofNat 32 (fld b 0xC 4),
    tag := BitVec.ofNat 32 (fld b 0x10 4), msgIdx := fld b 0x14 1 % 16, msgLast := fld b 0x14 1 / 16,
    status := fld b 0x15 1 % 16, load := bitf (fld b 0x15 1) 6 4, budget := fld b 0x16 1,
    subop := fld b 0x17 1, info := BitVec.ofNat 64 (fld b 0x18 8), addr := BitVec.ofNat 64 (fld x 0 8),
    opLen := fld x 8 4, cstream := fld x 0xC 2 % 2 ^ 14, kind := tbit (fld x 0xC 2) 14,
    contrib := fld x 0xE 2 % 4096, fmt := fld x 0xE 2 / 4096, maxExp := sext 16 (fld x 0x10 2),
    aop := fld x 0x12 1, payload := slice b (headBytes t) (fld b 6 2), poison := false }

/-- LENGTH agrees with the type (R257, R258, R364). -/
def lengthOk (t sub n : Nat) : Bool :=
  decide (n ≤ 4096) &&
  (if t = 0x01 ∨ t = 0x05 ∨ t = 0x07 then n == 0
   else if t = 0x03 then n == 8 || n == 16
   else if t = 0x04 then n == 8
   else if t = 0x06 then n == 64
   else if t = 0x0A then
     (if sub = 5 ∨ sub = 6 then n == 0 || n == 64 else if sub ≤ 2 then true else n == 0)
   else if t = 0x21 then n % 8 == 0
   else if t = 0x22 ∨ t = 0x23 then n == 4
   else if t = 0x25 then n == 3
   else true)

/-- The check of a header on a fabric port or a Rein port for a flow unit of class `vc` (R258). -/
def headerOk (rein : Bool) (vc : Nat) (b : Bytes) : Bool :=
  let t := fld b 0 1
  (if rein then t == 0x0A || decide (0x20 ≤ t ∧ t ≤ 0x27) else decide (1 ≤ t ∧ t ≤ 0x0A)) &&
  classOf t == vc && lengthOk t (fld b 0x17 1) (fld b 6 2)

/-- Cut a stream into whole packets; what is left begins a packet. A byte 0x00 where a header would
begin fills the rest of the body (R254). `none` when a header fails its check. `k` bounds the number
of packets. -/
def cutStream (rein : Bool) (vc k : Nat) (b : Bytes) (acc : List Pkt) : Option (List Pkt × Bytes) :=
  match k with
  | 0 => some (acc, b)
  | k + 1 =>
    match b with
    | [] => some (acc, [])
    | x :: _ =>
      if x = 0#8 then some (acc, [])
      else if b.length < 32 then some (acc, b)
      else if !headerOk rein vc b then none
      else
        let n := headBytes (fld b 0 1) + fld b 6 2
        if b.length < n then some (acc, b)
        else cutStream rein vc k (b.drop n) (acc ++ [parsePkt (b.take n)])

/-- Bytes of a packet without link-layer framing: B of R287. Messages of a host port count as
packets of the same content do (assumption 24). -/
def pktBytes (p : Pkt) : Nat := headBytes p.ptype + p.payload.length

/-! ### Granule records (R365) -/

def recordPkt (t : Nat) (r : GranuleRec) : Pkt :=
  let mask : Bytes := (List.range 32).map (fun i => BitVec.ofNat 8
    ((List.range 8).foldl (fun a j => a + 2 ^ j * b2n (r.mask.contains (8 * i + j))) 0))
  { Pkt.zero with
    ptype := t, addr := BitVec.ofNat 64 (r.granule % 2 ^ 24 + 2 ^ 32 * r.cycle.toNat),
    opLen := r.stamp.toNat + 2 ^ 16 * (b2n r.valid + 2 * b2n r.whole),
    payload := if r.whole then r.data else mask ++ r.data }

def recordOf (p : Pkt) : GranuleRec :=
  let f := p.opLen / 2 ^ 16
  let whole := tbit f 1
  { granule := p.addr.toNat % 2 ^ 24, cycle := BitVec.ofNat 32 (p.addr.toNat / 2 ^ 32),
    stamp := BitVec.ofNat 16 p.opLen, valid := tbit f 0, whole := whole,
    mask := if whole then [] else
      (List.range 256).filter (fun i => tbit (fld p.payload (i / 8) 1) (i % 8)),
    data := if whole then p.payload else p.payload.drop 32 }

/-- The packets of a Rein message: a record takes as many as its payload needs (R259, R365). -/
def reinPackets (p : Pkt) : List Pkt :=
  let n := max 1 (cdiv p.payload.length 4096)
  (List.range n).map (fun i =>
    { p with msgIdx := i, msgLast := n - 1, payload := (p.payload.drop (4096 * i)).take 4096 })

/-- The entries of REPL_MARK (R364). -/
def markBytes (l : ReplMarks) : Bytes :=
  l.flatMap (fun e => toLe 8 (e.1 % 2 ^ 26 + 2 ^ 26 * (e.2.1 % 512) + 2 ^ 35 * (if e.2.2 then 1 else 2)))

end Sys2Proof.Machine
end

