-- ==== Sys2Proof/Machine/Sched.lean ====
section
/-! DEFINITION. The traffic scheduler: counted lengths (R287), shapers and their wheel (R288 to
R290), effective weights (R291), start-time fair queueing (R292), rates toward nodes (R275, R293), LOAD and BUDGET (R298, R299), and conformance meters (R305). -/
namespace Sys2Proof.Machine

open Sys2Proof

/-! ### Ports and their queues -/

/-- The scheduled port of a packet: its fabric port, or 64 + d for host port d. -/
def OutPkt.port? (o : OutPkt) : Option Nat :=
  match o.dest with
  | .host d => some (64 + d)
  | .node _ => if o.port < 64 then some o.port else none
  | .rein => none

/-- The scheduler instance of a scheduled port (R284): 0 to 3 the link dies, 4 + d host port d. -/
def instOf (p : Nat) : Nat := if p < 64 then p / 16 else 4 + (p - 64)

def State.schedPort (s : State) (p : Nat) : SchedPort := tget SchedPort.reset s.sched.ports p
def State.setSchedPort (s : State) (p : Nat) (v : SchedPort) : State :=
  s.modSched (fun c => { c with ports := tset SchedPort.reset c.ports p v })

/-- Counted length of a packet, with the OVERHEAD in force (R287, R294). -/
def State.counted (s : State) (o : OutPkt) : Nat := pktBytes o.pkt + s.sched.overhead

/-- The packets of class `c` queued in the leaves of a stream, with their counted lengths. -/
def Sfq.ofClass (q : Sfq) (c : Nat) : List (OutPkt × Nat) :=
  (q.leaf.filter (fun e => e.1 / 2048 == c)).flatMap (·.2)

/-- Counted bytes of class `c` queued at a port in both streams (R291). -/
def State.queuedOf (s : State) (p c : Nat) : Nat :=
  let x := s.schedPort p
  (x.rsp.ofClass c ++ x.col.ofClass c).foldl (fun a o => a + o.2) 0

/-- Bytes queued for a port (R262). -/
def State.queuedBytes (s : State) (p : Nat) : Nat :=
  let x := s.schedPort p
  (((x.rsp.leaf ++ x.col.leaf).flatMap (·.2)).map (·.1) ++ (s.port p).snpq).foldl (fun a o => a + pktBytes o.pkt) 0

/-- Bring the sums that the means are taken from up to now, before the queues change. -/
def State.integrate (s : State) (p : Nat) : State :=
  let x := s.schedPort p
  let dt := s.now - x.qAt
  s.setSchedPort p
    { x with qAt := s.now,
             qacc := (List.range 9).foldl (fun t c =>
               tset 0 t c (tget 0 t c + dt * (if c = 8 then s.queuedBytes p else s.queuedOf p c))) x.qacc }

/-! ### The service level (R292, R305) -/

/-- Leaf of a class and VI; packets without a VI have a leaf of their own, of weight 16. -/
def leafKey (o : OutPkt) : Nat := o.cls * 2048 + o.vi.getD 1024

def Sfq.enter (q : Sfq) (o : OutPkt) (len : Nat) : Sfq :=
  let k := leafKey o
  let old := tget [] q.leaf k
  { q with
    sleaf := if old.isEmpty then tset 0 q.sleaf k (tget 0 q.vvi o.cls) else q.sleaf
    scls := if (q.ofClass o.cls).isEmpty then tset 0 q.scls o.cls q.vcls else q.scls
    leaf := tset [] q.leaf k (old ++ [(o, len)]) }

/-- The first of a list whose tag no other precedes in serial order; `none` of an empty list. -/
def earliest (tag : Nat → Word64) : List Nat → Option Nat
  | [] => none
  | k :: r =>
    match earliest tag r with
    | none => some k
    | some m => if later 64 (tag k).toNat (tag m).toNat then some m else some k

/-- Take the next packet of a stream (R292), with its counted length: `wc` and `wv` are the weights of classes and
VIs. -/
def Sfq.select (q : Sfq) (wc wv : Nat → Nat) : Option (OutPkt × Nat) × Sfq :=
  match earliest (fun c => tget 0 q.scls c) ((List.range 8).filter (fun c => !(q.ofClass c).isEmpty)) with
  | none => (none, q)
  | some c =>
    match earliest (fun k => tget 0 q.sleaf k) ((q.leaf.filter (fun e => e.1 / 2048 == c)).map (·.1)) with
    | none => (none, q)
    | some k =>
      match tget [] q.leaf k with
      | [] => (none, q)
      | o :: r =>
        let sc := tget 0 q.scls c
        let sl := tget 0 q.sleaf k
        (some o,
         { vcls := sc, vvi := tset 0 q.vvi c sl,
           scls := tset 0 q.scls c (sc + BitVec.ofNat 64 (cdiv (o.2 * 256) (max 1 (wc c)))),
           sleaf := tset 0 q.sleaf k (sl + BitVec.ofNat 64 (cdiv (o.2 * 256) (max 1 (wv (k % 2048))))),
           leaf := tset [] q.leaf k r })

/-- The level of a class's conformance meter, under the class table in force at the port (R294, R305): levels are in
1/8064 bytes. -/
def SchedPort.meter (x : SchedPort) (c now : Nat) : Nat :=
  let e := x.table.getD c (1, 1)
  let cap := e.2 * 1024 * 8064
  match afind x.meters c with
  | none => cap
  | some (l, t) => min cap (l + e.1 * 5 * (now - t))

/-- Charge the conformance meter of a fabric port with a packet's counted length (R305). -/
def State.charge (s : State) (p : Nat) (o : OutPkt) (len : Nat) : State :=
  if p ≥ 64 then s else
  let x := s.schedPort p
  let level := x.meter o.cls s.now
  let need := len * 8064
  s.setSchedPort p
    { x with meters := tput x.meters o.cls (level - need, s.now),
             excess := tset 0 x.excess o.cls
               (min 0xFFFFFFFF (tget 0 x.excess o.cls + (need - level) / 8064)) }

/-- A packet released by its shaper enters its leaf, with the length it is counted at (R294). -/
def State.toLeaf (s : State) (p : Nat) (o : OutPkt) : State :=
  let s := s.integrate p
  let len := s.counted o
  let col := o.pkt.ptype = 9 && decide (p < 64)
  let s := if col then s else s.charge p o len
  let x := s.schedPort p
  let s := s.setSchedPort p (if col then { x with col := x.col.enter o len } else { x with rsp := x.rsp.enter o len })
  let x := s.schedPort p
  s.setSchedPort p { x with qmax := tset 0 x.qmax o.cls (max (tget 0 x.qmax o.cls) (s.queuedOf p o.cls)) }

/-- The transmitter takes the next packet of a port's RSP or COL stream. -/
def State.selectPkt (s : State) (p : Nat) (col : Bool) : Option OutPkt × State :=
  let s := s.integrate p
  let x := s.schedPort p
  let (o, q) := (if col then x.col else x.rsp).select (fun c => x.weff.getD c 1)
    (fun v => (s.vi v).sched.weight)
  let s := s.setSchedPort p (if col then { x with col := q } else { x with rsp := q })
  match o with
  | none => (none, s)
  | some (k, len) =>
    (some k, match k.vi with
      | none => s
      | some v =>
        ((s.count v 0x3248 len).count v 0x3250 1).count v 0x3260
          (b2n (k.pkt.ptype == 0x0A && k.pkt.budget == 0 && decide (p < 64))))

/-! ### Shapers (R288 to R290, R299) -/

/-- Depth β in 1/8 bytes, and 1/8 bytes per 8 ns slot. -/
def depthOf (i depth : Nat) : Int := if i < 4 then depth * 8192 else depth * 32768

/-- A shaper after a reset of its instance (R289, R294): it starts with a count of β, under the VI's entry. -/
def Shaper.fresh (i : Nat) (v : ViSched) : Shaper := ⟨depthOf i v.depth, [], 0, v.rate, v.depth, none⟩

def State.shaper (s : State) (i v : Nat) : Shaper :=
  tget (Shaper.fresh i (s.vi v).sched) s.sched.shapers (i * 1024 + v)
def State.setShaper (s : State) (i v : Nat) (x : Shaper) : State :=
  s.modSched (fun c => { c with shapers := tput c.shapers (i * 1024 + v) x })

def perSlot (i rate : Nat) : Nat := if i < 4 then 25 * rate else 100 * rate

/-- A refill (R289): credit at the old rate, install the new rate and depth, cap. The count of an unshaped VI
stays at the depth (R288). -/
def Shaper.refill (x : Shaper) (i now : Nat) (v : ViSched) : Shaper :=
  let credit : Int := (perSlot i x.rate * (now - x.lastAt) / 10080 : Nat)
  let c := if x.rate = 0 then depthOf i x.depth else min (depthOf i x.depth) (x.count + credit)
  { x with count := if v.rate = 0 then depthOf i v.depth else min c (depthOf i v.depth), lastAt := now, rate := v.rate, depth := v.depth }

/-- The hint of R299. -/
def Shaper.budget (x : Shaper) (i : Nat) : Nat :=
  if i ≥ 4 then 0
  else if x.rate = 0 then 0xFF
  else if x.count ≤ 0 then 0
  else min 0xFE (x.count / 32768).toNat

/-- Release packets of a shaper while its count is at or above 0, then park it if packets are left
(R288, R290). -/
def State.release (s : State) (i v k : Nat) : State :=
  match k with
  | 0 => s
  | k + 1 =>
    let x := s.shaper i v
    match x.fifo with
    | [] => s.setShaper i v { x with due := none }
    | o :: r =>
      if x.rate ≠ 0 ∧ x.count < 0 then
        let slots := cdiv (-x.count).toNat (max 1 (perSlot i x.rate))
        s.setShaper i v { x with due := some ((s.now / 10080 + slots) * 10080) }
      else
        let y := { x with fifo := r, count := if x.rate = 0 then depthOf i x.depth
                                              else x.count - 8 * (s.counted o : Int) }
        let o := if o.pkt.ptype = 0x0A then { o with pkt := { o.pkt with budget := y.budget i } } else o
        ((s.setShaper i v y).toLeaf (o.port?.getD 0) o).release i v k

/-- A packet reaches its shaper (R289). A packet without a VI is never shaped (R285, R299). -/
def State.toShaper (s : State) (i : Nat) (o : OutPkt) : State :=
  match o.vi with
  | none =>
    s.toLeaf (o.port?.getD 0)
      (if o.pkt.ptype = 0x0A && decide (i < 4) then { o with pkt := { o.pkt with budget := 0xFF } } else o)
  | some v =>
    let x := s.shaper i v
    let x := if x.fifo.isEmpty then x.refill i s.now (s.vi v).sched else x
    let held := !x.fifo.isEmpty || decide (x.count < 0)
    let s := (s.setShaper i v { x with fifo := x.fifo ++ [o] }).count v 0x3258 (b2n held)
    if x.fifo.isEmpty then s.release i v 2 else s

/-- The host link takes what its scheduled port holds (assumption 25). -/
def State.drainHost (s : State) (p k : Nat) : State :=
  match k with
  | 0 => s
  | k + 1 =>
    match s.selectPkt p false with
    | (none, s) => s
    | (some _, s) => s.drainHost p k

/-! ### Rates toward nodes (R275, R293) -/

/-- r_max toward a node, in units of 1.5625 GB/s: 200 GB/s for each ACTIVE port. -/
def State.rateMax (s : State) (n : Nat) : Nat := 128 * (s.activePorts n).length

/-- The rate toward a node, COL when `col`, as (n, k) for n / 8^k units: r_max until its first echo (assumption 44). -/
def State.rateOf (s : State) (n : Nat) (col : Bool) : Nat × Nat :=
  match afind s.fabric.rates (2 * n + b2n col) with
  | some (r, k, _) => (r, k)
  | none => (s.rateMax n, 0)

/-- An echo of mark `m` (R275): r × (8 − m) / 8, and no less than r_min. -/
def rateCut (r : Nat × Nat) (m : Nat) : Nat × Nat :=
  if r.1 * (8 - m) ≤ 8 ^ (r.2 + 1) then (1, 0) else (r.1 * (8 - m), r.2 + 1)

/-- 1 µs without an echo (R275): r + WEIR_AI, and no more than r_max. -/
def rateRise (r : Nat × Nat) (ai top : Nat) : Nat × Nat :=
  if top * 8 ^ r.2 ≤ r.1 + ai * 8 ^ r.2 then (top, 0) else (r.1 + ai * 8 ^ r.2, r.2)

/-- Ticks that `bytes` take at a rate; at a rate of 0 no port is ACTIVE and r_min stands in. -/
def paceTicks (bytes : Nat) (r : Nat × Nat) : Nat :=
  if r.1 = 0 then cdiv (bytes * 4032) 5 else cdiv (bytes * 4032 * 8 ^ r.2) (5 * r.1)

/-! ### Packets sprayed again -/

/-- An originated packet that has its number goes to a port of its link die (R263, R281). -/
def State.reSpray (s : State) (l : Nat) (o : OutPkt) (n : Nat) : State :=
  match s.spray o.reg ((s.eligible (classOf o.pkt.ptype) n).filter (fun p => dieOfPort p == l)) with
  | (some p, s) => s.place { o with port := p }
  | (none, s) => s.emit { o with port := noPort }

/-! ### The rows -/

/-- Take the packet at a place of the list of packets on their way out. -/
def State.unqueueOut (s : State) (i : Nat) : State :=
  { s with outbox := s.outbox.take i ++ s.outbox.drop (i + 1) }

/-- SHAPER_ADMIT (R285, R289, R262, R281): the packet at `index` of the packets on their way out
reaches the shaper of scheduler instance `inst`. A packet without a port is sprayed first. -/
def execShaperAdmit (inst index : Nat) (s : State) : Host.Outcome State Fault Refusal :=
  onUnit (decide (inst < 6)) (
    match s.outbox[index]? with
    | none => s
    | some o =>
      match o.dest with
      | .rein => s
      | .host d =>
        if 4 + d = inst then ((s.unqueueOut index).toShaper inst o).drainHost (64 + d) 64 else s
      | .node n =>
        if o.port < 64 then
          if instOf o.port ≠ inst then s
          else if o.pkt.ptype = 5 then (s.unqueueOut index).place o
          else (s.unqueueOut index).toShaper inst o
        else if o.pkt.ptype ≠ 0x0A ∧ o.pkt.tag ≠ 0 then (s.unqueueOut index).reSpray o.pkt.ssg o n
        else if o.pkt.ptype = 5 ∨ o.pkt.ptype = 9 then
          match s.launch o n with
          | (.waits, _) => s
          | (_, t) => t.unqueueOut index
        else (s.unqueueOut index).sendToNode o n)

/-- SHAPER_SLOT_DUE (R290): the shapers of the earliest slot that is due are refilled and released in
ascending VI order. -/
def execShaperSlotDue (inst : Nat) (s : State) : Host.Outcome State Fault Refusal :=
  onUnit (decide (inst < 6)) (
    let mine := s.sched.shapers.filterMap (fun e =>
      if e.1 / 1024 = inst then e.2.due.map (fun t => (e.1 % 1024, t)) else none)
    match mine.map (·.2) with
    | [] => s
    | t :: r =>
      let first := r.foldl min t
      let s := s.reach first
      let s := (mine.filter (fun e => e.2 == first)).foldl (fun s e =>
        let x := s.shaper inst e.1
        (s.setShaper inst e.1 { x.refill inst s.now (s.vi e.1).sched with due := none }).release inst e.1
          (x.fifo.length + 1)) s
      if inst ≥ 4 then s.drainHost (60 + inst) 4096 else s)

/-- The conformance meters brought up to now, before the class table changes (R294). -/
def SchedPort.metersAt (x : SchedPort) (now : Nat) : Tbl (Nat × Nat) := x.meters.map (fun m => (m.1, x.meter m.1 now, now))

/-- W_EFF_UPDATE (R291, R294): a scheduled port puts the class table in force and sets its effective weights from
the mean bytes queued by class since it last did. -/
def execWEffUpdate (port : Nat) (s : State) : Host.Outcome State Fault Refusal :=
  onUnit (decide (port < 66)) (
    let s := (s.reach ((s.schedPort port).wAt + us 10)).integrate port
    let x := s.schedPort port
    let dt := max 1 (s.now - x.wAt)
    let mean (c : Nat) : Nat := tget 0 x.qacc c / dt
    let floorOf (c : Nat) : Nat := (s.sched.classes.getD c (0, 0)).1
    let spare := 256 - (List.range 8).foldl (fun a c => a + floorOf c) 0
    let total := (List.range 8).foldl (fun a c => a + tget 0 x.qacc c) 0
    let share (c : Nat) : Nat := if s.sched.adapt && total ≠ 0 then spare * tget 0 x.qacc c / total else spare / 8
    let rest := spare - (List.range 8).foldl (fun a c => a + share c) 0
    s.setSchedPort port
      { x with weff := (List.range 8).map (fun c => floorOf c + share c + if c = 7 then rest else 0),
               table := s.sched.classes, meters := x.metersAt s.now,
               qmean := (List.range 8).foldl (fun t c => tset 0 t c (mean c)) x.qmean,
               qacc := tset 0 [] 8 (tget 0 x.qacc 8), wAt := s.now })

/-- LOAD_UPDATE (R298, R300, R322): every 1 µs a region computes its occupancy u from its tables as they stand, and
from the mean of its channels' pending queues since it last did. -/
def execLoadUpdate (region : Nat) (s : State) : Host.Outcome State Fault Refusal :=
  onUnit (decide (region < 12)) (
    let s := s.reach ((s.region region).loadAt + us 1)
    let dt := max 1 (s.now - (s.region region).loadAt)
    let txns := (s.home.txns.filter (fun t => stackOf (64 * t.1) == region)).length
    let parked := (s.waiting.filter (fun w => match w.why with
      | .parked l => stackOf (64 * l) == region
      | _ => false)).length
    let s := (span (32 * region) 32).foldl (fun s n => s.modChan n (fun c => c.sumParked s.now)) s
    let ford := (span (32 * region) 32).foldl (fun a n => a + (s.chan n).parkAcc) 0
    let s := (span (32 * region) 32).foldl (fun s n => s.modChan n (fun c => { c with parkAcc := 0 })) s
    let fills := (s.region region).fills.length
    let eighths (used size : Nat) : Nat := 8 * used / size
    let u := max (max (eighths txns 2048) (eighths parked 8192)) (max (eighths ford (2048 * dt)) (eighths fills 64))
    s.modRegion region (fun r => { r with load := min 7 u, loadAt := s.now, busyHalf := decide (u ≥ 4) }))

end Sys2Proof.Machine
end

