-- ==== Sys2Proof/Machine/Tack.lean ====
section
/-! DEFINITION. Tack programs: the image (R210 to R212), strips and phases (R195, R196), inlets and
outlets (R199, R211, R220), registers (R197, R198), the operations (R204 to R209), the built-in
listings (R221, R222), and the A-cycle count (R196, R200, R201). -/
namespace Sys2Proof.Machine

open Sys2Proof

/-! ### The image -/

/-- A binding (R211): area 0 unbound, 1 `SUMS`, 2 `STATE`, 3 `HOLD`. -/
structure Bind where
  area : Nat
  afmt : Nat
  rfmt : Nat
  off  : Nat
  len  : Nat
  rnd  : Nat
  site : Nat
deriving DecidableEq, Repr

def Bind.none : Bind := ⟨0, 0, 0, 0, 0, 0, 0⟩

/-- A phase entry (R212); `when_` is 0 always, 1 only s = 1, 2 only s ≠ 1. -/
structure Phase where
  start : Nat
  len   : Nat
  once  : Bool
  width : Nat
  order : Nat
  when_ : Nat
deriving DecidableEq, Repr

/-- A program as the engine uses it. -/
structure TackProg where
  segs   : List Nat
  gather : Option Nat
  commit : Nat
  ins    : List Bind
  outs   : List Bind
  phases : List Phase
  code   : List Word64
deriving DecidableEq, Repr

def parseBind (b : Bytes) (o : Nat) : Bind :=
  let f := fld b (o + 1) 1
  ⟨fld b o 1, f % 16, f / 16, fld b (o + 2) 2, fld b (o + 4) 2, fld b (o + 6) 1, fld b (o + 7) 1⟩

def parsePhase (b : Bytes) (o : Nat) : Phase :=
  let f := fld b (o + 4) 1
  ⟨fld b o 2, fld b (o + 2) 2, tbit f 0, 32 * 2 ^ bitf f 2 1, bitf f 3 3, bitf f 5 4⟩

/-- The program of an image (R210). -/
def parseProg (b : Bytes) : TackProg :=
  let g := fld b 0xC 2
  { segs := (List.range 4).map (fun k => bitf (fld b 0xE 2) (4 * k + 3) (4 * k)),
    gather := if g = 0xFFFF then Option.none else some g,
    commit := fld b 8 4,
    ins := (List.range 8).map (fun k => parseBind b (0x20 + 8 * k)),
    outs := (List.range 4).map (fun k => parseBind b (0x60 + 8 * k)),
    phases := (List.range (min 4 (fld b 6 1))).map (fun k => parsePhase b (0x80 + 8 * k)),
    code := (List.range (min 2048 (fld b 4 2))).map (fun j => BitVec.ofNat 64 (fld b (0x100 + 8 * j) 8)) }

/-! ### The built-in programs (R221, R222) -/

def vI (n : Nat) : Nat := 0x20 + n
def vO (n : Nat) : Nat := 0x28 + n

/-- An instruction word from its fields. -/
def asm (cls op pred dst a b c fmt ssel xf : Nat) : Word64 :=
  tackWord (BitVec.ofNat 4 cls) (BitVec.ofNat 6 op)
    ⟨BitVec.ofNat 3 pred, false, BitVec.ofNat 6 dst, BitVec.ofNat 6 a, BitVec.ofNat 6 b, BitVec.ofNat 6 c,
     BitVec.ofNat 3 fmt, BitVec.ofNat 2 ssel, BitVec.ofNat 21 xf⟩

/-- A class 0x1 instruction; `ss` as `SSEL`. -/
def arith (op dst a b c ss : Nat) : Word64 := asm 1 op 0 dst a b c 0 ss 0
def aMul (d a b ss : Nat) : Word64 := arith 2 d a b 0 ss
def aFma (d a b c ss : Nat) : Word64 := arith 3 d a b c ss
def aFnma (d a b c ss : Nat) : Word64 := arith 4 d a b c ss
def aMov (d a : Nat) : Word64 := asm 2 0 0 d a 0 0 0 0 0

/-- A class 0x7 instruction with an absolute `IMM`. -/
def access (op pred dst a imm : Nat) : Word64 :=
  let lo := imm * 2 ^ 7
  asm 7 op pred dst a 0 (bitf lo 31 26) (bitf lo 25 23) (bitf lo 22 21) (bitf lo 20 0)

def sgdCode : List Word64 :=
  [aMul 0 (vI 0) 5 2, aFma 0 4 (vI 1) 0 1, aFma 2 1 (vI 2) 0 1, aMov (vO 1) 2, aFnma (vO 0) 0 2 (vI 1) 1]

def adamHead : List Word64 :=
  [aMul 4 (vI 0) 5 2, aMul 5 4 8 2, aFma 2 1 (vI 2) 5 1, aMul 6 4 4 0, aMul 9 6 9 2, aFma 3 2 (vI 3) 9 1]
def adamStore : List Word64 := [aMov (vO 1) 2, aMov (vO 2) 3]
/-- Lines 4 to 7 at s ≠ 1, and at s = 1 with g in operand `g`. -/
def adamRoot : List Word64 :=
  [aMul 7 2 10 2, aMul 8 3 11 2, arith 6 8 8 0 0 0, arith 0 8 8 3 0 2, arith 5 7 7 8 0 0]
def adamRoot1 (g : Nat) : List Word64 := [arith 6 8 6 0 0 0, arith 0 8 8 3 0 2, arith 5 7 g 8 0 0]
def adamTail : List Word64 := [aFma 7 4 (vI 1) 7 1, aFnma (vO 0) 0 7 (vI 1) 1]

def adamCode : List Word64 := adamHead ++ adamStore ++ adamRoot ++ adamTail
def adamCode1 : List Word64 := adamHead ++ adamStore ++ adamRoot1 4 ++ adamTail

/-- Lines 8 of AdamW and the two sums of squares of pass 1 (R222). -/
def lambSums : List Word64 :=
  [aFma 7 4 (vI 1) 7 1, aMul 10 (vI 1) (vI 1) 0, asm 5 0 7 0 10 0 0 0 0 0, aMul 11 7 7 0,
   asm 5 0 7 1 11 0 0 0 0 0]
def lambHead : List Word64 := (adamHead.take 1) ++ [aMov (vO 0) 4] ++ adamHead.drop 1
def lamb1Code : List Word64 := lambHead ++ adamRoot ++ lambSums
def lamb1Code1 : List Word64 := lambHead ++ adamRoot1 4 ++ lambSums

def lamb2Head : List Word64 :=
  [aMul 5 (vI 0) 8 2, aFma 2 1 (vI 2) 5 1, aMul 6 (vI 0) (vI 0) 0, aMul 9 6 9 2, aFma 3 2 (vI 3) 9 1]
def lamb2Tail : List Word64 := [aFma 7 4 (vI 1) 7 1, aFma (vO 0) 15 7 (vI 1) 1]
def lamb2Code : List Word64 := lamb2Head ++ adamStore ++ adamRoot ++ lamb2Tail
def lamb2Code1 : List Word64 := lamb2Head ++ adamStore ++ adamRoot1 (vI 0) ++ lamb2Tail

/-- The code of LAMB: one program in one slot, whose passes run phases of their own (R179, R222). -/
def lambCode : List Word64 := lamb1Code ++ lamb1Code1 ++ lamb2Code ++ lamb2Code1

def lionCode : List Word64 :=
  [aMul 0 (vI 0) 5 2, aMul 1 0 8 2, asm 1 3 0 1 1 (vI 2) 1 0 1 1, aFma 1 4 (vI 1) 1 1,
   aFnma (vO 0) 0 1 (vI 1) 1, aMul 2 0 9 2, aFma (vO 1) 2 (vI 2) 2 1]

/-- Phase A, the opening of phases M and M′, and the sum over the row terms (R222). -/
def facA : List Word64 :=
  [aMul 0 (vI 0) 5 2, aMul 1 0 0 0, arith 0 1 1 3 0 2, asm 5 3 7 0 1 0 0 0 0 1, asm 5 0 7 0 1 0 0 0 0 0]
def facOpen : List Word64 :=
  [asm 6 0xE 0 18 0 0 (bitf 0x3C800000 31 26) (bitf 0x3C800000 25 23) (bitf 0x3C800000 22 21) (bitf 0x3C800000 20 0),
   asm 5 4 0 20 0 0 0 0 0 0, asm 5 4 0 21 1 0 0 0 0 0, asm 5 2 0 22 0 0 0 0 0 0, asm 5 2 0 23 0 0 0 0 0 1]
/-- The factor of register `x` and strip `i`: R' or C' replaces the term (s ≠ 1), or goes to its own
register (s = 1). -/
def facStep (x i : Nat) : List Word64 :=
  [access 0 0 24 (vI 3) i, aMul x x 18 2, aMul x x 9 2, aFma x 2 24 x 1]
def facStep1 (x i : Nat) : List Word64 :=
  [access 0 0 (24 + i) (vI 3) i, aMul x x 18 2, aMul 28 x 9 2, aFma (24 + i) 2 (24 + i) 28 1]
def facSum : List Word64 :=
  [access 3 0 0 22 0, access 3 0 0 23 128, asm 5 0 0 1 22 0 0 0 0 0, asm 5 0 0 1 23 0 0 0 0 0,
   asm 5 1 0 17 1 0 0 0 0 0, asm 6 2 0 17 17 18 0 0 0 0]
def facM : List Word64 :=
  facOpen ++ facStep 22 0 ++ facStep 23 1 ++ facStep 20 2 ++ facStep 21 3 ++
  [access 1 0 (vO 2) 22 0, access 1 0 (vO 2) 23 1, access 1 0 (vO 2) 20 2, access 1 0 (vO 2) 21 3] ++ facSum
def facM1 : List Word64 :=
  facOpen ++ facStep1 22 0 ++ facStep1 23 1 ++ facStep1 20 2 ++ facStep1 21 3 ++
  [access 1 0 (vO 2) 24 0, access 1 0 (vO 2) 25 1, access 1 0 (vO 2) 26 2, access 1 0 (vO 2) 27 3] ++ facSum
def facBHead : List Word64 :=
  [asm 7 4 0 10 0 30 (bitf 0x16400000 31 26) (bitf 0x16400000 25 23) (bitf 0x16400000 22 21) (bitf 0x16400000 20 0),
   asm 2 1 6 11 21 20 0 0 0 0, aMul 12 10 11 0, arith 5 12 12 17 0 2]
def facBTail : List Word64 :=
  [arith 6 12 12 0 0 0, aMul 0 (vI 0) 5 2, arith 5 13 0 12 0 0, aMul 13 13 8 2, aFma 14 1 (vI 2) 13 1,
   aMov (vO 1) 14, aFma 15 4 (vI 1) 14 1, aFnma (vO 0) 0 15 (vI 1) 1]
def facB : List Word64 := facBHead ++ [aMul 12 12 11 2] ++ facBTail
def facB1 : List Word64 := facBHead ++ facBTail

/-- An FP32 binding of 16 KiB. -/
def bind32 (area off : Nat) : Bind := ⟨area, 0, 0, off, 128, 0, 0⟩
/-- A moment area: BF16 under `MOM_BF16` (R221). -/
def bindMom (bf : Bool) (rnd off : Nat) : Bind :=
  if bf then ⟨2, 1, 0, off, 64, rnd, 3⟩ else bind32 2 off

def bindList (n : Nat) (l : List Bind) : List Bind := l ++ List.replicate (n - l.length) Bind.none

/-- Two programs, for s ≠ 1 and s = 1, as the phases of one strip pass each. -/
def onePass (ins outs : List Bind) (c c1 : List Word64) : TackProg :=
  { segs := [0, 0, 0, 0], gather := some 0, commit := 0, ins := bindList 8 ins, outs := bindList 4 outs,
    phases := [⟨0, c.length, false, 32, 0, 2⟩, ⟨c.length, c1.length, false, 32, 0, 1⟩], code := c ++ c1 }

/-- The built-in programs: 0 SGD, 1 AdamW, 2 and 3 LAMB pass 1 and 2, 4 Lion, 5 factored. -/
def builtin (k : Nat) (bf : Bool) (rnd : Nat) : TackProg :=
  let sums := bind32 1 0
  let w := bind32 2 0
  let m := bindMom bf rnd 0x4000
  let v := bindMom bf rnd 0x8000
  let fac : Bind := ⟨2, 0, 0, 0x8000, 4, 0, 0⟩
  if k = 0 then onePass [sums, w, m] [w, m] sgdCode sgdCode
  else if k = 1 then onePass [sums, w, m, v] [w, m, v] adamCode adamCode1
  else if k = 2 then { onePass [sums, w, m, v] [bind32 3 0] lamb1Code lamb1Code1 with code := lambCode }
  else if k = 3 then
    let n := (lamb1Code ++ lamb1Code1).length
    let p := onePass [sums, w, m, v] [w, m, v] lamb2Code lamb2Code1
    { p with code := lambCode, phases := p.phases.map (fun ph => { ph with start := n + ph.start }) }
  else if k = 4 then onePass [sums, w, m] [w, m] lionCode lionCode
  else
    let a := facA.length
    let b := a + facM.length
    let c := b + facB.length
    let d := c + facM1.length
    { segs := [6, 0, 0, 0], gather := some 0, commit := 0, ins := bindList 8 [sums, w, m, fac],
      outs := bindList 4 [w, m, fac],
      phases := [⟨0, a, false, 32, 0, 0⟩, ⟨a, facM.length, true, 32, 0, 2⟩, ⟨b, facB.length, false, 32, 0, 2⟩,
                 ⟨c, facM1.length, true, 32, 0, 1⟩, ⟨d, facB1.length, false, 32, 0, 1⟩],
      code := facA ++ facM ++ facB ++ facM1 ++ facB1 }

/-- The number of a program: tenant slots, then 256 + k for the built-in ones. -/
def Desc.progNo (d : Desc) (k : TileKind) : Option Nat :=
  if d.gatherOnly then none
  else match d.recipe with
    | 1 => some 256
    | 2 => some 257
    | 3 => some (if k == .lamb1 then 258 else 259)
    | 4 => some 260
    | 5 => some 261
    | _ => some d.progId

/-- The slot of a program in the program area (R47): both passes of LAMB are one program. -/
def progSlot (n : Nat) : Nat := if n ≥ 259 then n - 1 else n

/-- The program that a number names for a descriptor. -/
def State.program (s : State) (d : Desc) (n : Nat) : TackProg :=
  if n ≥ 256 then builtin (n - 256) d.momBf16 d.rnd3
  else match afind s.progs n with
    | some p => parseProg p.image
    | none => parseProg []

/-! ### The A-cycle count (R196, R200, R201) -/

def wClass (w : Word64) : Nat := (w.extractLsb' 60 4).toNat
def wOp (w : Word64) : Nat := (w.extractLsb' 54 6).toNat

/-- Issue cost of an instruction (R205). -/
def issueCost (w : Word64) : Nat :=
  let f := (tackFields w).fmt.toNat
  match wClass w, wOp w with
  | 1, 5 => if f = 0 then 3 else 6
  | 1, 6 => if f = 0 then 4 else 8
  | 5, 1 => 4
  | 5, 2 => 4
  | 5, 4 => 4
  | 6, 4 => 3
  | 6, 5 => 4
  | _, _ => 1

/-- Lanes of a format (R176). -/
def laneBits (fmt : Nat) : Nat := if fmt = 0 then 32 else if fmt ≤ 2 then 16 else 8
def lanesOf (fmt : Nat) : Nat := 1024 / laneBits fmt

/-- How many sources of an instruction word the operation reads as vectors (R205). -/
def sourceFields (w : Word64) : List Nat :=
  let f := tackFields w
  let a := f.src1.toNat
  let b := f.src2.toNat
  let c := f.src3.toNat
  let pick (l : List (Nat × Nat)) : List Nat := (l.filter (fun x => x.1 != f.ssel.toNat)).map (·.2)
  match wClass w, wOp w with
  | 1, 3 => pick [(1, a), (2, b), (3, c)]
  | 1, 4 => pick [(1, a), (2, b), (3, c)]
  | 1, 6 => pick [(1, a)]
  | 1, 9 => pick [(1, a)]
  | 1, 10 => pick [(1, a)]
  | 1, _ => pick [(1, a), (2, b)]
  | 2, 0 => pick [(1, a)]
  | 2, 1 => pick [(1, a), (2, b)]
  | 2, 2 => []
  | 2, 3 => pick [(1, a)]
  | 2, 4 => []
  | 2, 8 => pick [(1, a)]
  | 2, 9 => pick [(1, a)]
  | 2, _ => pick [(1, a), (2, b)]
  | 3, 0 => pick [(1, a), (2, b)]
  | 4, _ => [a]
  | 5, 0 => pick [(1, a)]
  | 5, 3 => pick [(1, a)]
  | 7, 0 => [a]
  | 7, 1 => [a]
  | 7, 3 => [a]
  | _, _ => []

/-- The destination field when it names a vector or an outlet. -/
def destField (w : Word64) : Option Nat :=
  let d := (tackFields w).dst.toNat
  match wClass w, wOp w with
  | 1, _ => some d
  | 2, 3 => none
  | 2, _ => some d
  | 4, _ => some d
  | 5, 2 => some d
  | 5, 4 => some d
  | 7, 0 => some d
  | 7, 1 => some d
  | 7, 2 => some d
  | 7, 4 => some d
  | _, _ => none

def Bind.converts (b : Bind) : Bool := b.area != 0 && b.afmt != b.rfmt

def dedupNat (l : List Nat) : List Nat := l.foldl insSet []

/-- Cost and conversion slots of one pass over a phase. -/
def phaseCost (p : TackProg) (ph : Phase) : Nat × Nat :=
  let code := (p.code.drop ph.start).take ph.len
  let cost := code.foldl (fun n w => n + issueCost w) 0
  let ins := dedupNat ((code.flatMap sourceFields).filter (fun x => 0x20 ≤ x && x < 0x28 &&
    (lget Bind.none p.ins (x - 0x20)).converts))
  let outs := dedupNat ((code.filterMap destField).filter (fun x => 0x28 ≤ x && x < 0x2C &&
    (lget Bind.none p.outs (x - 0x28)).converts))
  let vcvt := (code.filter (fun w => wClass w == 4)).length
  (cost, (ins.length + outs.length) * (ph.width / 32) + vcvt)

def Phase.runs (ph : Phase) (isOne : Bool) : Bool :=
  ph.when_ == 0 || (ph.when_ == 1 && isOne) || (ph.when_ == 2 && !isOne)

/-- The count of R196 over the phases that run. -/
def cycleGo (p : TackProg) : List Phase → Nat → Nat → Nat
  | [], t, _ => t
  | ph :: r, t, rw =>
    let (cost, conv) := phaseCost p ph
    if ph.once then cycleGo p r (t + max (max cost conv) (rw - t)) rw
    else
      let t := max t rw + 4096 / ph.width * max cost conv
      cycleGo p r t (if r.isEmpty then rw else t + 128)

def TackProg.cycles (p : TackProg) (isOne : Bool) : Nat := cycleGo p (p.phases.filter (fun x => x.runs isOne)) 0 0

/-! ### What an operation sees -/

/-- What surrounds an instruction: the program, the stream's descriptor, the tile, the place in the
phase (R195), and whether the stream has a delta entry (R220). -/
structure Ctx where
  prog   : TackProg
  desc   : Desc
  tile   : Nat
  strip  : Nat
  width  : Nat
  order  : Nat
  once   : Bool
  firstOut : Nat
deriving DecidableEq, Repr

/-- What a source operand meets: an element of an inlet that its conversion saturates, or a scratch byte with bad parity. -/
inductive Read where
  | sat (code elem : Nat)
  | bad
deriving DecidableEq, Repr

/-- What an operation leaves: the engine, elements of the gather source written, results saturated, the (operand, element)
pairs that its inlets and its outlet saturated, or the cause of the fault. -/
structure TackOut where
  eng   : Engine
  firstOut : Nat
  sat   : Nat
  conv  : List (Nat × Nat)
  fault : Option EngCause
deriving DecidableEq, Repr

abbrev TackOp := TackFields → Ctx → Engine → TackOut

/-- The tile element that lane `l` of strip `n` carries (R195). -/
def Ctx.elem (c : Ctx) (n l : Nat) : Nat := if c.order = 1 then 64 * (32 * (n % 2) + l) + n / 2 else n * c.width + l

/-- The element is a real element of the tile. -/
def Ctx.real (c : Ctx) (k : Nat) : Bool := decide (k < c.desc.tileElems c.tile)

def Ctx.hasDelta (c : Ctx) : Bool := c.desc.gather.any (·.delta)

/-! ### Registers -/

/-- Split a register into lanes of `w` bits. -/
def lanes (w v : Nat) : List Nat := (List.range (1024 / w)).map (fun l => v / 2 ^ (w * l) % 2 ^ w)
def unlanes (w : Nat) (l : List Nat) : Nat := l.foldr (fun x a => x % 2 ^ w + a * 2 ^ w) 0

def Engine.sreg (e : Engine) (n : Nat) : Word64 := tget 0 e.sc (n % 32)
def Engine.setS (e : Engine) (n : Nat) (v : Word64) : Engine := { e with sc := tset 0 e.sc (n % 32) v }

/-- A predicate as 128 lanes (R198). -/
def Ctx.pred (c : Ctx) (e : Engine) (n : Nat) : List Bool :=
  if n = 0 then List.replicate 128 true
  else if n = 6 then List.replicate 128 (!c.once && c.strip % 2 == 1)
  else if n = 7 then (List.range 128).map (fun l => c.once || c.real (c.elem c.strip l))
  else (List.range 128).map (fun l => tbit (tget 0 e.p n) l)

def predBits (l : List Bool) : Nat := l.foldr (fun x a => b2n x + 2 * a) 0

/-! ### Inlets and outlets -/

/-- Where an area lies in scratch (R177); `HOLD` takes the residual slots, which LAMB pass 1 leaves
free. -/
def areaBase (a : Nat) : Nat := if a = 1 then 0 else if a = 2 then 0x4000 else 0x14000
def areaSize (a : Nat) : Nat := if a = 2 then 0x10000 else 0x4000
def workBase : Nat := 0x1C000

def Engine.sbytes (e : Engine) (a n : Nat) : Bytes := memBytes e.scratch a n
/-- A write of scratch stores good parity with its bytes (R177). -/
def Engine.setBytes (e : Engine) (a : Nat) (b : Bytes) : Engine :=
  { e with scratch := memWrite e.scratch a b,
           badBytes := e.badBytes.filter (fun x => decide (x < a ∨ a + b.length ≤ x)) }
/-- A read of `n` bytes of scratch meets a byte whose parity bit is wrong (R177, R186). -/
def Engine.badAt (e : Engine) (a n : Nat) : Bool := e.badBytes.any (fun x => decide (a ≤ x ∧ x < a + n))

/-- The binding covers the whole tile. -/
def Bind.whole (b : Bind) : Bool := b.len * 128 == 4096 * (elemFmt b.afmt).bytes

/-- The value of a lane in an arithmetic format; INT8 is a plain integer. -/
def laneVal (fmt c : Nat) : Val :=
  if fmt = 5 then let i := sext 8 (c % 256); .fin (decide (i < 0)) i.natAbs 1 else decodeElem (elemFmt fmt) c

/-- Round a value into a lane (R98, R207, R208): the code and whether it saturated. -/
def laneCode (fmt : Nat) (draw : Option Nat) (v : Val) : Nat × Bool :=
  if fmt = 5 then
    match v with
    | .fin neg n d =>
      let m := roundUp draw (n / d) (n % d) d
      if neg then (if n > 128 * d then (128, true) else ((256 - min m 128) % 256, false))
      else if n > 127 * d then (127, true) else (m, false)
    | x => ((Config.int8NonFinite (encodeElem (elemFmt 0) none x).1).toNat, false)
  else encodeElem (elemFmt fmt) draw v

/-- A conversion of one element between formats (R98): equal formats copy the bits. -/
def laneConv (src dst : Nat) (draw : Option Nat) (c : Nat) : Nat × Bool :=
  if src = dst then (c, false) else laneCode dst draw (laneVal src c)

def Ctx.draw (c : Ctx) (rnd site k : Nat) : Option Nat := (c.desc.rnd rnd site).draw (4096 * c.tile + k)

/-- Element `k` lies inside the binding. -/
def Bind.inside (b : Bind) (k : Nat) : Bool := decide ((k + 1) * (elemFmt b.afmt).bytes ≤ b.len * 128)

/-- Read strip `n` of inlet operand `code` (R199): lanes in the register format, and what the read meets. A lane beyond a
short binding, which only a ONCE phase can name, reads +0 (assumption 208): no inlet reaches past its binding (R217). -/
def readInlet (c : Ctx) (e : Engine) (code : Nat) (b : Bind) (n : Nat) : List Nat × List Read :=
  let w := (elemFmt b.afmt).bytes
  let r := (List.range c.width).map (fun l =>
    let k := c.elem n l
    if b.whole && !c.real k || !b.inside k then (0, [])
    else
      let at_ := areaBase b.area + b.off + k * w
      let (x, s) := laneConv b.afmt b.rfmt (c.draw b.rnd b.site k) (leNat (e.sbytes at_ w))
      (x, (if s then [Read.sat code k] else []) ++ (if e.badAt at_ w then [Read.bad] else [])))
  (r.map (·.1), r.flatMap (·.2))

/-- The elements of the gather source that `n` bytes at `STATE` offset `a` reach, if the stream has a delta entry. -/
def Ctx.deltaElems (c : Ctx) (b : Bind) (a n : Nat) : List Nat :=
  match c.prog.gather with
  | none => []
  | some g =>
    if c.hasDelta && b.area == 2 then
      dedupNat (((List.range n).filter (fun i => decide (g ≤ a + i ∧ a + i < g + 0x4000))).map (fun i => (a + i - g) / 4))
    else []

/-- The value of element `d` of the gather source, as `STATE` holds it. -/
def Ctx.gatherWord (c : Ctx) (e : Engine) (d : Nat) : Word32 :=
  BitVec.ofNat 32 (leNat (e.sbytes (areaBase 2 + c.prog.gather.getD 0 + 4 * d) 4))

/-- A lane of an outlet write: where in scratch, the `STATE` offset, the bytes, and whether the value saturated. -/
structure LaneOut where
  elem : Nat
  at_  : Nat
  off  : Nat
  data : Bytes
  on   : Bool
  sat  : Bool
deriving DecidableEq, Repr

/-- Lane value `v` for element `k` of an outlet. A lane whose element is not real (R199) or lies beyond the binding
(R217) is not written. -/
def laneOut (c : Ctx) (b : Bind) (k v : Nat) (on : Bool) : LaneOut :=
  let w := (elemFmt b.afmt).bytes
  let (x, sat) := laneConv b.rfmt b.afmt (c.draw b.rnd b.site k) v
  ⟨k, areaBase b.area + b.off + k * w, b.off + k * w, toLe w x, on && (!b.whole || c.real k) && b.inside k, sat⟩

/-- Write lanes to strip `n` of an outlet (R199). An element of the gather source takes only the first write that reaches
it, active or not, and that write puts the difference d into `SUMS`: w − w, where it leaves w as it is (R220;
assumption 209). -/
def writeOutlet (c : Ctx) (e : Engine) (code : Nat) (b : Bind) (n : Nat) (active : List Bool) (l : List Nat) : TackOut :=
  let outs := (List.range c.width).map (fun i => laneOut c b (c.elem n i) (lget 0 l i) (lget false active i))
  let hit (o : LaneOut) : List Nat := if b.inside o.elem then c.deltaElems b o.off (elemFmt b.afmt).bytes else []
  let new := dedupNat ((outs.flatMap hit).filter (fun d => !c.firstOut.testBit d))
  let live := outs.filter (fun o => o.on && (hit o).all (fun d => new.contains d))
  let e2 := live.foldl (fun g o => g.setBytes o.at_ o.data) e
  let e3 := new.foldl (fun g d => g.setBytes (4 * d) (toLe 4 (fSub (c.gatherWord e2 d) (c.gatherWord e d)).toNat)) e2
  ⟨e3, new.foldl (fun m d => m ||| 2 ^ d) c.firstOut, 0, (live.filter (·.sat)).map (fun o => (code, o.elem)), none⟩

def TackOut.ok (c : Ctx) (e : Engine) : TackOut := ⟨e, c.firstOut, 0, [], none⟩
def TackOut.fail (c : Ctx) (e : Engine) (x : EngCause) : TackOut := ⟨e, c.firstOut, 0, [], some x⟩
def TackOut.addSat (t : TackOut) (n : Nat) : TackOut := { t with sat := t.sat + n }
/-- What the operation met as it read its sources: saturated elements, or a parity error, which ends it. -/
def TackOut.reads (t : TackOut) (l : List Read) : TackOut :=
  { t with conv := l.filterMap (fun r => match r with | .sat k n => some (k, n) | .bad => none) ++ t.conv,
           fault := if l.contains .bad then some .scratchParity else t.fault }
/-- What a read of `n` bytes of `WORK` at `x` meets. -/
def Engine.workRead (e : Engine) (x n : Nat) : List Read := if e.badAt (workBase + x) n then [.bad] else []

/-! ### Operands -/

/-- Strip `n` of the inlet that an operand names. -/
def inletAt (c : Ctx) (e : Engine) (code n : Nat) : List Nat × List Read :=
  readInlet c e code (lget Bind.none c.prog.ins (code - 0x20)) n

/-- A vector source: register, inlet strip, or a scalar in every lane (R203). The lanes of an inlet whose `REG_FMT` has
another lane width than `fmt` are taken one code a lane, the missing lanes as 0 (DESIGN CHOICE, assumption 210). -/
def source (c : Ctx) (e : Engine) (fmt : Nat) (isScalar : Bool) (code : Nat) : List Nat × List Read :=
  if isScalar then (List.replicate (lanesOf fmt) ((e.sreg code).toNat % 2 ^ laneBits fmt), [])
  else if code < 0x20 then (lanes (laneBits fmt) (tget 0 e.v code), [])
  else inletAt c e code c.strip

/-- Write lanes to a vector destination under the active lanes (R199, R202). An outlet lane beyond the lanes of `fmt`
takes 0 (DESIGN CHOICE, assumption 210). -/
def dest (c : Ctx) (e : Engine) (fmt : Nat) (pz : Bool) (code : Nat) (active : List Bool) (l : List Nat) : TackOut :=
  if code < 0x20 then
    let old := lanes (laneBits fmt) (tget 0 e.v code)
    let new := (List.range (lanesOf fmt)).map (fun i =>
      if lget false active i then lget 0 l i else if pz then 0 else lget 0 old i)
    TackOut.ok c { e with v := tset 0 e.v code (unlanes (laneBits fmt) new) }
  else writeOutlet c e code (lget Bind.none c.prog.outs (code - 0x28)) c.strip active l

/-- Saturate an integer to an INT8 lane. -/
def satInt8 (i : Int) : Nat := wrapInt 8 (max (-128) (min 127 i))

/-- `MOD` of R204 on the code of a result. -/
def applyMod (fmt m code : Nat) : Nat :=
  if m = 0 then code
  else if fmt = 5 then
    let i := sext 8 code
    if m = 1 then satInt8 (if i > 0 then 1 else if i < 0 then -1 else 0)
    else if i = -128 then (Config.int8ModMin m).toNat
    else satInt8 (if m = 2 then i.natAbs else -i)
  else
    let v := decodeElem (elemFmt fmt) code
    if v.isNan then (elemFmt fmt).nan
    else
      let r : Val := if m = 1 then
          (if v.lt Val.zero then .fin true 1 1 else if Val.zero.lt v then .fin false 1 1 else Val.zero)
        else if m = 2 then v.abs else v.neg
      (encodeElem (elemFmt fmt) none r).1

/-- A lane operation: on values in a floating-point format, on integers in INT8. -/
structure LaneFn where
  fp  : Val → Val → Val → Val
  int : Int → Int → Int → Int

/-- A class 0x1 operation (R205, R207). -/
def arithOp (fn : LaneFn) : TackOp := fun f c e =>
  let fmt := f.fmt.toNat
  let (a, s1) := source c e fmt (f.ssel == 1) f.src1.toNat
  let (b, s2) := source c e fmt (f.ssel == 2) f.src2.toNat
  let (d, s3) := source c e fmt (f.ssel == 3) f.src3.toNat
  let r := (List.range (lanesOf fmt)).map (fun i =>
    let x := lget 0 a i
    let y := lget 0 b i
    let z := lget 0 d i
    let (code, sat) : Nat × Bool :=
      if fmt = 5 then (satInt8 (fn.int (sext 8 x) (sext 8 y) (sext 8 z)), false)
      else roundOp (elemFmt fmt) (fn.fp (laneVal fmt x) (laneVal fmt y) (laneVal fmt z))
    (applyMod fmt (f.xf.toNat % 4) code, b2n sat))
  let active := c.pred e f.pred.toNat
  ((dest c e fmt f.pz f.dst.toNat active (r.map (·.1))).addSat
    ((List.range (lanesOf fmt)).foldl (fun n i => n + (if lget false active i then (lget (0, 0) r i).2 else 0)) 0)).reads
    (s1 ++ s2 ++ s3)

/-- The sources that an operation reads. -/
def one (g : Val → Val) (h : Int → Int) : LaneFn := ⟨fun a _ _ => g a, fun a _ _ => h a⟩
def two (g : Val → Val → Val) (h : Int → Int → Int) : LaneFn := ⟨fun a b _ => g a b, fun a b _ => h a b⟩

/-- An operation of one or two sources ignores the fields of the others. -/
def unary (f : TackFields) : TackFields := { f with src2 := 0, src3 := 0 }
def binary (f : TackFields) : TackFields := { f with src3 := 0 }

def tackNop : TackOp := fun _ c e => TackOut.ok c e
def tackVadd : TackOp := fun f => arithOp (two Val.add (· + ·)) (binary f)
def tackVsub : TackOp := fun f => arithOp (two (fun a b => a.add b.neg) (· - ·)) (binary f)
def tackVmul : TackOp := fun f => arithOp (two Val.mul (· * ·)) (binary f)
def tackVfma : TackOp := arithOp ⟨fun a b c => (a.mul b).add c, fun a b c => a * b + c⟩
def tackVfnma : TackOp := arithOp ⟨fun a b c => (a.mul b).neg.add c, fun a b c => -(a * b) + c⟩
def tackVdiv : TackOp := fun f => arithOp (two Val.div (fun a _ => a)) (binary f)
def tackVsqrt : TackOp := fun f => arithOp (one Val.sqrt (fun a => a)) (unary f)
def tackVmin : TackOp := fun f => arithOp (two Val.minN min) (binary f)
def tackVmax : TackOp := fun f => arithOp (two Val.maxN max) (binary f)
def tackVabs : TackOp := fun f => arithOp (one Val.abs (fun a => a.natAbs)) (unary f)
def tackVneg : TackOp := fun f => arithOp (one Val.neg (fun a => -a)) (unary f)

/-! ### Class 0x2 -/

/-- A lane-wise operation on bits. -/
def bitOp (g : Nat → Nat → Nat) : TackOp := fun f c e =>
  let fmt := f.fmt.toNat
  let (a, s1) := source c e fmt (f.ssel == 1) f.src1.toNat
  let (b, s2) := source c e fmt (f.ssel == 2) f.src2.toNat
  let r := (List.range (lanesOf fmt)).map (fun i => g (lget 0 a i) (lget 0 b i) % 2 ^ laneBits fmt)
  (dest c e fmt f.pz f.dst.toNat (c.pred e f.pred.toNat) r).reads (s1 ++ s2)

def tackVmov : TackOp := fun f => bitOp (fun a _ => a) { f with src2 := 0 }
def tackVsel : TackOp := fun f c e =>
  let fmt := f.fmt.toNat
  let (a, s1) := source c e fmt (f.ssel == 1) f.src1.toNat
  let (b, s2) := source c e fmt (f.ssel == 2) f.src2.toNat
  let p := c.pred e f.pred.toNat
  let r := (List.range (lanesOf fmt)).map (fun i => if lget false p i then lget 0 a i else lget 0 b i)
  (dest c e fmt false f.dst.toNat (c.pred e 0) r).reads (s1 ++ s2)
def tackVbcast : TackOp := fun f c e =>
  let fmt := f.fmt.toNat
  dest c e fmt f.pz f.dst.toNat (c.pred e f.pred.toNat) (source c e fmt true f.src1.toNat).1
/-- `VEXT`: bits of S[d] above the lane are zero (DESIGN CHOICE, assumption 211). -/
def tackVext : TackOp := fun f c e =>
  let fmt := f.fmt.toNat
  let i := (e.sreg f.src2.toNat).toNat
  if i ≥ lanesOf fmt then TackOut.fail c e .illegal
  else
    let (a, n) := source c e fmt (f.ssel == 1) f.src1.toNat
    (TackOut.ok c (e.setS f.dst.toNat (BitVec.ofNat 64 (lget 0 a i)))).reads n
/-- `VINS`: of a register's lanes that `PRED` leaves active only lane S[b] changes; the others are zeroed under `PZ`
(R202). -/
def tackVins : TackOp := fun f c e =>
  let fmt := f.fmt.toNat
  let i := (e.sreg f.src2.toNat).toNat
  let p := c.pred e f.pred.toNat
  let d := f.dst.toNat
  if i ≥ lanesOf fmt then TackOut.fail c e .illegal
  else
    let a := (source c e fmt true f.src1.toNat).1
    let old := lanes (laneBits fmt) (tget 0 e.v d)
    if d < 0x20 then
      dest c e fmt f.pz d p ((List.range (lanesOf fmt)).map (fun l => if l = i then lget 0 a l else lget 0 old l))
    else dest c e fmt false d ((List.range 128).map (fun l => l == i && lget false p l)) a
def tackVand : TackOp := bitOp (fun a b => a &&& b)
def tackVor : TackOp := bitOp (fun a b => a ||| b)
def tackVxor : TackOp := bitOp (fun a b => a ^^^ b)
def tackVshl : TackOp := fun f => bitOp (fun a _ => a * 2 ^ (f.xf.toNat % 32)) { f with src2 := 0 }
def tackVshr : TackOp := fun f => bitOp (fun a _ => a / 2 ^ (f.xf.toNat % 32)) { f with src2 := 0 }

/-! ### Class 0x3 -/

/-- Write a predicate: lanes that are not active keep their value, or are cleared under `PZ`. -/
def setPred (c : Ctx) (e : Engine) (pz : Bool) (d : Nat) (active new : List Bool) : TackOut :=
  let n := d % 8
  if n = 0 ∨ n ≥ 6 then TackOut.ok c e
  else
    let old := c.pred e n
    let r := (List.range 128).map (fun i => if lget false active i then lget false new i else !pz && lget false old i)
    TackOut.ok c { e with p := tset 0 e.p n (predBits r) }

/-- `COND` of R204. -/
def condHolds (fmt cond x y : Nat) : Bool :=
  let (lt, eq, un) : Bool × Bool × Bool :=
    if fmt = 5 then (decide (sext 8 x < sext 8 y), x == y, false)
    else
      let a := laneVal fmt x
      let b := laneVal fmt y
      (a.lt b, a.eqv b, a.isNan || b.isNan)
  match cond with
  | 0 => eq
  | 1 => !eq
  | 2 => lt
  | 3 => lt || eq
  | 4 => !un && !lt && !eq
  | 5 => !un && !lt
  | 6 => un
  | _ => !un

def tackVcmp : TackOp := fun f c e =>
  let fmt := f.fmt.toNat
  let (a, s1) := source c e fmt (f.ssel == 1) f.src1.toNat
  let (b, s2) := source c e fmt (f.ssel == 2) f.src2.toNat
  let n := lanesOf fmt
  let p := c.pred e f.pred.toNat
  let active := (List.range 128).map (fun i => decide (i ≥ n) || lget false p i)
  let r := (List.range 128).map (fun i => decide (i < n) && condHolds fmt (f.xf.toNat % 8) (lget 0 a i) (lget 0 b i))
  (setPred c e f.pz f.dst.toNat active r).reads (s1 ++ s2)

def predOp (g : Bool → Bool → Bool) : TackOp := fun f c e =>
  let a := c.pred e (f.src1.toNat % 8)
  let b := c.pred e (f.src2.toNat % 8)
  setPred c e f.pz f.dst.toNat (c.pred e f.pred.toNat)
    ((List.range 128).map (fun i => g (lget false a i) (lget false b i)))
def tackPand : TackOp := predOp (· && ·)
def tackPor : TackOp := predOp (· || ·)
def tackPnot : TackOp := predOp (fun a _ => !a)
def tackPset : TackOp := fun f => predOp (fun _ _ => tbit f.xf.toNat 0) f

/-! ### Class 0x4 -/

def tackVcvt : TackOp := fun f c e =>
  let x := f.xf.toNat
  let src := bitf x 20 18
  let dst := bitf x 17 15
  let sp := bitf x 4 3
  let dp := bitf x 2 1
  let (a, s1) := source c e src false f.src1.toNat
  let p := c.pred e f.pred.toNat
  let group (i : Nat) : Bool := decide (i / 32 = dp)
  let r := (List.range (lanesOf dst)).map (fun i =>
    if group i then
      let j := i % 32
      let lane := if lanesOf src = c.width then 32 * sp + j else 32 * dp + j
      let (v, s) := laneConv src dst (c.draw (bitf x 14 13) (bitf x 12 5) (c.elem c.strip lane)) (lget 0 a (32 * sp + j))
      (v, b2n s)
    else (0, 0))
  let act := (List.range 128).map (fun i => group i && lget false p (i % 32))
  let sat := (List.range (lanesOf dst)).foldl (fun n i => n + (if lget false act i then (lget (0, 0) r i).2 else 0)) 0
  if f.dst.toNat < 0x20 then
    let old := lanes (laneBits dst) (tget 0 e.v f.dst.toNat)
    let new := (List.range (lanesOf dst)).map (fun i =>
      if lget false act i then (lget (0, 0) r i).1 else if group i && f.pz then 0 else lget 0 old i)
    ((TackOut.ok c { e with v := tset 0 e.v f.dst.toNat (unlanes (laneBits dst) new) }).addSat sat).reads s1
  else ((dest c e dst false f.dst.toNat act (r.map (·.1))).addSat sat).reads s1

/-! ### Class 0x5 (R209) -/

def tackPacc : TackOp := fun f c e =>
  let (a, s1) := source c e 0 (f.ssel == 1) f.src1.toNat
  let p := c.pred e f.pred.toNat
  let k := f.dst.toNat % 4
  let push := (List.range 32).filterMap (fun l =>
    if lget false p l then some (c.elem c.strip l, BitVec.ofNat 32 (lget 0 a l)) else none)
  (TackOut.ok c { e with a := tset [] e.a k (tget [] e.a k ++ push) }).reads s1

/-- `PGET`: bits [63:32] of S[d] are zero (DESIGN CHOICE, assumption 211). -/
def tackPget : TackOp := fun f c e =>
  let k := f.src1.toNat % 4
  TackOut.ok c (e.setS f.dst.toNat (BitVec.ofNat 64 (psum ((tget [] e.a k).map (·.2))).toNat))

def tackPres : TackOp := fun f c e =>
  let k := f.src1.toNat % 4
  let n := lget 0 c.prog.segs k
  let seg (j : Nat) : List Word32 :=
    ((tget [] e.a k).filter (fun x => (if n = 0 then 0 else x.1 / 2 ^ n) == j)).map (·.2)
  let r := (List.range 32).map (fun l => (psum (seg (32 * b2n (tbit f.xf.toNat 0) + l))).toNat)
  dest c e 0 false f.dst.toNat (c.pred e 0) r

def tackVpacc : TackOp := fun f c e =>
  let (a, s1) := source c e 0 (f.ssel == 1) f.src1.toNat
  let p := c.pred e f.pred.toNat
  let par := b2n (tbit f.xf.toNat 0) * (if c.once then 0 else c.strip % 2)
  let k := (f.dst.toNat % 4) ^^^ par
  let q := (List.range 32).foldl (fun q l =>
    if lget false p l then tset [] q (128 * k + l) (tget [] q (128 * k + l) ++ [BitVec.ofNat 32 (lget 0 a l)]) else q) e.q
  (TackOut.ok c { e with q := q }).reads s1

def tackVpget : TackOp := fun f c e =>
  let k := f.src1.toNat % 4
  dest c e 0 false f.dst.toNat (c.pred e 0) ((List.range 32).map (fun l => (psum (tget [] e.q (128 * k + l))).toNat))

/-! ### Class 0x6 -/

/-- A scalar FP32 operation: bits [63:32] of the result are zero. -/
def scalarFp (g : Word32 → Word32 → Word32 → Word32) : TackOp := fun f c e =>
  let r (n : BitVec 6) : Word32 := (e.sreg n.toNat).setWidth 32
  TackOut.ok c (e.setS f.dst.toNat ((g (r f.src1) (r f.src2) (r f.src3)).setWidth 64))

def scalarInt (g : Word64 → Word64 → Word64) : TackOp := fun f c e =>
  TackOut.ok c (e.setS f.dst.toNat (g (e.sreg f.src1.toNat) (e.sreg f.src2.toNat)))

def tackSadd : TackOp := scalarFp (fun a b _ => fAdd a b)
def tackSsub : TackOp := scalarFp (fun a b _ => fSub a b)
def tackSmul : TackOp := scalarFp (fun a b _ => fMul a b)
def tackSfma : TackOp := scalarFp (fun a b c => fFma a b c)
def tackSdiv : TackOp := scalarFp (fun a b _ => fDiv a b)
def tackSsqrt : TackOp := scalarFp (fun a _ _ => toF32 (f32 a).sqrt)
def tackSmin : TackOp := scalarFp (fun a b _ => toF32 ((f32 a).minN (f32 b)))
def tackSmax : TackOp := scalarFp (fun a b _ => toF32 ((f32 a).maxN (f32 b)))
def tackSiadd : TackOp := scalarInt (· + ·)
def tackSisub : TackOp := scalarInt (· - ·)
def tackSand : TackOp := scalarInt (· &&& ·)
def tackSor : TackOp := scalarInt (· ||| ·)
def tackSshl : TackOp := scalarInt (fun a b =>
  if b.toNat < 64 then a <<< b.toNat else Config.bigShift 0 a.toNat b.toNat)
def tackSshr : TackOp := scalarInt (fun a b =>
  if b.toNat < 64 then a >>> b.toNat else Config.bigShift 1 a.toNat b.toNat)

/-- Bits [31:0] of the instruction word (R205). -/
def lowWord (f : TackFields) : Nat := f.src3.toNat * 2 ^ 26 + f.fmt.toNat * 2 ^ 23 + f.ssel.toNat * 2 ^ 21 + f.xf.toNat

def tackSmovi : TackOp := fun f c e => TackOut.ok c (e.setS f.dst.toNat (BitVec.ofNat 64 (lowWord f)))

/-! ### Class 0x7 (R206, R217) -/

/-- The address X. -/
def addrX (e : Engine) (f : TackFields) : Nat :=
  let w := lowWord f
  bitf w 20 7 + (if bitf w 27 24 = 0 then 0
    else ((e.sreg f.src2.toNat).toNat / 2 ^ bitf w 31 28 % 2 ^ bitf w 27 24) * 2 ^ bitf w 23 21)

/-- Strip X lies inside the binding, in either element order. -/
def Bind.holdsStrip (b : Bind) (c : Ctx) (x : Nat) : Bool :=
  b.area != 0 && decide ((x + 1) * c.width * (elemFmt b.afmt).bytes ≤ b.len * 128) &&
    (List.range c.width).all (fun l => b.inside (c.elem x l))

def tackIns : TackOp := fun f c e =>
  let b := lget Bind.none c.prog.ins (f.src1.toNat - 0x20)
  let x := addrX e f
  if !b.holdsStrip c x then TackOut.fail c e .sandbox
  else
    let (l, n) := inletAt c e f.src1.toNat x
    (dest c e b.rfmt false f.dst.toNat (c.pred e 0) l).reads n

def tackOuts : TackOp := fun f c e =>
  let b := lget Bind.none c.prog.outs (f.dst.toNat - 0x28)
  let x := addrX e f
  if !b.holdsStrip c x then TackOut.fail c e .sandbox
  else
    let (a, n) := source c e b.rfmt false f.src1.toNat
    (writeOutlet c e f.dst.toNat b x (c.pred e f.pred.toNat) a).reads n

/-- A `WORK` access that is aligned and inside (R206, R217). -/
def workOk (x n : Nat) : Bool := x % n == 0 && decide (x + n ≤ 0x4000)

/-- The register format of a source or a destination operand: that of the binding it names, FP32 for a register, whose
bits a copy leaves as they are. -/
def inletFmt (c : Ctx) (code : Nat) : Nat := if code < 0x20 then 0 else (lget Bind.none c.prog.ins (code - 0x20)).rfmt
def outletFmt (c : Ctx) (code : Nat) : Nat := if code < 0x20 then 0 else (lget Bind.none c.prog.outs (code - 0x28)).rfmt

def tackVld : TackOp := fun f c e =>
  let x := addrX e f
  let fmt := outletFmt c f.dst.toNat
  if !workOk x 128 then TackOut.fail c e .sandbox
  else (dest c e fmt false f.dst.toNat (c.pred e 0) (lanes (laneBits fmt) (leNat (e.sbytes (workBase + x) 128)))).reads
    (e.workRead x 128)
def tackVst : TackOp := fun f c e =>
  let x := addrX e f
  let fmt := inletFmt c f.src1.toNat
  if !workOk x 128 then TackOut.fail c e .sandbox
  else
    let (a, n) := source c e fmt false f.src1.toNat
    (TackOut.ok c (e.setBytes (workBase + x) (toLe 128 (unlanes (laneBits fmt) a)))).reads n
def tackVldb : TackOp := fun f c e =>
  let x := addrX e f
  if !workOk x 4 then TackOut.fail c e .sandbox
  else (dest c e 0 false f.dst.toNat (c.pred e 0) (List.replicate 32 (leNat (e.sbytes (workBase + x) 4)))).reads (e.workRead x 4)
def tackSld : TackOp := fun f c e =>
  let x := addrX e f
  if !workOk x 8 then TackOut.fail c e .sandbox
  else (TackOut.ok c (e.setS f.dst.toNat (BitVec.ofNat 64 (leNat (e.sbytes (workBase + x) 8))))).reads (e.workRead x 8)
def tackSst : TackOp := fun f c e =>
  let x := addrX e f
  if !workOk x 8 then TackOut.fail c e .sandbox
  else TackOut.ok c (e.setBytes (workBase + x) (toLe 8 (e.sreg f.src1.toNat).toNat))

/-- The operation of a tack instruction, with its fields. -/
def tackOf (i : Instr) : Option (TackFields × TackOp) :=
  match i with
  | .nop _ f => some (f, tackNop)
  | .vadd _ f => some (f, tackVadd)
  | .vsub _ f => some (f, tackVsub)
  | .vmul _ f => some (f, tackVmul)
  | .vfma _ f => some (f, tackVfma)
  | .vfnma _ f => some (f, tackVfnma)
  | .vdiv _ f => some (f, tackVdiv)
  | .vsqrt _ f => some (f, tackVsqrt)
  | .vmin _ f => some (f, tackVmin)
  | .vmax _ f => some (f, tackVmax)
  | .vabs _ f => some (f, tackVabs)
  | .vneg _ f => some (f, tackVneg)
  | .vmov _ f => some (f, tackVmov)
  | .vsel _ f => some (f, tackVsel)
  | .vbcast _ f => some (f, tackVbcast)
  | .vext _ f => some (f, tackVext)
  | .vins _ f => some (f, tackVins)
  | .vand _ f => some (f, tackVand)
  | .vor _ f => some (f, tackVor)
  | .vxor _ f => some (f, tackVxor)
  | .vshl _ f => some (f, tackVshl)
  | .vshr _ f => some (f, tackVshr)
  | .vcmp _ f => some (f, tackVcmp)
  | .pand _ f => some (f, tackPand)
  | .por _ f => some (f, tackPor)
  | .pnot _ f => some (f, tackPnot)
  | .pset _ f => some (f, tackPset)
  | .vcvt _ f => some (f, tackVcvt)
  | .pacc _ f => some (f, tackPacc)
  | .pget _ f => some (f, tackPget)
  | .pres _ f => some (f, tackPres)
  | .vpacc _ f => some (f, tackVpacc)
  | .vpget _ f => some (f, tackVpget)
  | .sadd _ f => some (f, tackSadd)
  | .ssub _ f => some (f, tackSsub)
  | .smul _ f => some (f, tackSmul)
  | .sfma _ f => some (f, tackSfma)
  | .sdiv _ f => some (f, tackSdiv)
  | .ssqrt _ f => some (f, tackSsqrt)
  | .smin _ f => some (f, tackSmin)
  | .smax _ f => some (f, tackSmax)
  | .siadd _ f => some (f, tackSiadd)
  | .sisub _ f => some (f, tackSisub)
  | .sand _ f => some (f, tackSand)
  | .sor _ f => some (f, tackSor)
  | .sshl _ f => some (f, tackSshl)
  | .sshr _ f => some (f, tackSshr)
  | .smovi _ f => some (f, tackSmovi)
  | .ins _ f => some (f, tackIns)
  | .outs _ f => some (f, tackOuts)
  | .vld _ f => some (f, tackVld)
  | .vst _ f => some (f, tackVst)
  | .vldb _ f => some (f, tackVldb)
  | .sld _ f => some (f, tackSld)
  | .sst _ f => some (f, tackSst)
  | _ => none

end Sys2Proof.Machine
end

