-- ==== Sys2Proof/Machine/Engines.lean ====
section
/-! DEFINITION. The update engines: taking and stealing tiles (R179 to R185), the first read of a state
granule with its stamp test (R151, R155, R438), the preset of a tile (R177, R197), running a program,
the passes after it (R112, R114, R164, R219), commits (R154, R436), norm groups (R162), faults and
resets (R186 to R189), the release of gather writes that the weir rate held (R293), and the end of a stream (R167,
R168). -/
namespace Sys2Proof.Machine

open Sys2Proof

def clusterOfEngine (e : Nat) : Nat := e / 8
def regionOfEngine (e : Nat) : Nat := e / 64

/-! ### Stamps -/

/-- d of R151. -/
def stampDist (step : Word32) (stamp : Nat) : Nat := (step.toNat + 0x10000 - stamp % 0x10000) % 0x10000

inductive StampIs where
  | next | stale | gap
deriving DecidableEq, Repr

def stampIs (d : Nat) : StampIs := if d = 1 then .next else if d = 0 ∨ d ≥ 0x8000 then .stale else .gap

/-- The stamp of a granule as an accepted batch will leave it. -/
def State.stampNow (s : State) (g : Nat) : Option Nat :=
  match (s.region (regionOfGranule g)).commit.find? (fun b => b.granule == g) with
  | some b => some b.stamp.toNat
  | none => s.stamp g

/-- The same where the metadata is read (R328, R339). -/
def State.stampRead (s : State) (g : Nat) : Option Nat × State :=
  if (s.region (regionOfGranule g)).commit.any (fun b => b.granule == g) then (s.stampNow g, s) else s.readStamp g

/-! ### Faults -/

def causeCode (c : EngCause) : Nat :=
  match c with
  | .illegal => 1 | .sandbox => 2 | .watchdog => 3 | .scratchParity => 4 | .pstoreParity => 5 | .inletProtocol => 6

def causeHard (c : EngCause) : Bool := decide (causeCode c ≥ 4)

/-- The core die of an engine. -/
def dieOfEngine (e : Nat) : Nat := e / 384

/-- The engine waits for no line any more: its places in the order of the homes are gone (R65). -/
def State.leaveLines (s : State) (e : Nat) : State := s.dropPlaces (· == .engine e)

/-- The engine gives its tile up: cycles are counted for the stream's owner and the cluster (R192). An engine whose
online bit was cleared meanwhile is offline now (R191). -/
def State.freeEngine (s : State) (e : Nat) : State :=
  match (s.engine e).tile with
  | none => s
  | some r =>
    let owner := ((s.stream r.entry.stream).map (·.owner)).getD 0
    let n := s.aCyclesSince (dieOfEngine e) r.started
    let s := (s.count owner 0x3220 n).modCluster (e / 8) (fun k => { k with busyCyc := k.busyCyc + n })
    (s.leaveLines e).modEngine e (fun g => { g with tile := none, gbuf := [], online := g.online && !g.leave, leave := false })

/-- The granules that an operand touches, once it is translated (R153). -/
def granulesOf (segs : List Seg) : List Nat :=
  (segs.flatMap (fun x => span (granuleOf x.pa) ((x.pa + x.len - 1) / granuleBytes + 1 - granuleOf x.pa))).foldl insSet []

/-- Write a stamp: an accepted batch that is not written yet takes the value (R153). -/
def State.putStamp (s : State) (g : Nat) (v : Nat) : State :=
  match (s.region (regionOfGranule g)).commit.find? (fun b => b.granule == g) with
  | some _ => s.modRegion (regionOfGranule g) (fun r =>
      { r with commit := r.commit.map (fun b => if b.granule = g then { b with stamp := BitVec.ofNat 16 v } else b) })
  | none => (s.setStamp g v).dirtyBlocks g []

/-- STEP_STAMP_SET on an operand (R153): `none` while a commit of one of its granules is pending or a dirty table lacks room
(R361), else its status. -/
def State.stampSet (s : State) (vi : Nat) (op : Operand) (v : Nat) : Option Nat × State :=
  match s.opSegs (.cmd vi) op true with
  | (0, segs, s) =>
    let gs := granulesOf segs
    if !s.rangesServe (segRanges segs) then (some stRETRY, s)
    else if gs.any (fun g => s.reservation g == some false) || s.lacksEntries gs then (none, s)
    else (some stOK, gs.foldl (fun s g => s.putStamp g v) s)
  | (st, _, s) => (some st, s)

/-- The STEP_STAMP_SET commands that wait are tried again. -/
def State.retryStampSets (s : State) : State :=
  (s.vis.filterMap (fun v => v.2.cmd.bind (fun b => if b.opcode == 0x0504 && b.ready.isNone && s.complexUp (complexOf v.1) then some (v.1, b.cmd) else none))).foldl
    (fun s v =>
      match s.stampSet v.1 (opArg v.2 0) (arg v.2 16 2) with
      | (none, s) => s
      | (some st, s) => if isWait st then s else s.finishCmd v.1 st []) s

/-- The end of a reservation that was not accepted: held writebacks are performed (R155). -/
def State.dropReservation (s : State) (g e : Nat) : State := ((s.unreserve g e).releaseWb (regionOfGranule g)).retryStampSets

/-- After tiles have ended between their passes: writebacks and stamp settings that waited for them (R155). -/
def State.freeHolds (s : State) : State :=
  ((List.range 12).foldl (fun s g => s.releaseWb g) s).retryStampSets

/-- A pass-1 tile has failed: its group stops when all have finished (R162). -/
def State.failPass1 (s : State) (n t status : Nat) : State :=
  s.modStream n (fun x => match x.groupOf t with
    | some i => x.modGroup i (fun g => { g with failed := g.failed ++ [(t, status)] })
    | none => x)

/-- A tile that an engine holds or would take ends with a status before its batch is accepted. -/
def State.stopTile (s : State) (q : QEntry) (status : Nat) : State :=
  if q.kind == .lamb1 then s.failPass1 q.stream q.tile status else (s.failTile q.stream q.tile status).freeHolds

/-- The engine has no entry claimed any more; one whose online bit was cleared meanwhile is offline now (R191). -/
def State.unclaim (s : State) (e : Nat) : State :=
  (s.leaveLines e).modEngine e (fun g => { g with claim := none, online := g.online && !g.leave, leave := false })

/-- Gather writes of a tile that a region has not handed on yet. -/
def State.unsent (s : State) (g n t : Nat) : List OutPkt :=
  (s.region g).paced.filter (fun o => match o.ref with | some (a, b, _) => a == n && b == t | none => false)

/-- The engine's tile is over once its last gather write has left. -/
def State.sendsOver (s : State) (g n t : Nat) : State :=
  if !(s.unsent g n t).isEmpty then s else
  match s.engines.find? (fun e => e.1 / 64 == g && (match e.2.tile with
      | some r => r.sending && r.entry.stream == n && r.entry.tile == t | none => false)) with
  | some e => s.freeEngine e.1
  | none => s

/-- An abort after acceptance or after the first gather write: the commit stands, and every destination not yet sent
fails with `RETRY_LATER` (R187). -/
def State.abortSends (s : State) (e : Nat) (r : TileRun) : State :=
  let n := r.entry.stream
  let t := r.entry.tile
  let left := s.unsent (e / 64) n t
  let s := s.modRegion (e / 64) (fun q => { q with paced := q.paced.filter (fun o => !left.contains o) })
  let s := (left.filterMap (·.ref)).foldl (fun s d => s.gatherAnswered n t d.2.2 stRETRY) s
  s.freeEngine e

/-- An entry that engine `e` has given up before acceptance (R187): a gather tile is queued once more at the tail of
the cluster's queue, any other fails. -/
def State.abortEntry (s : State) (e owner : Nat) (q : QEntry) (status : Nat) (requeue : Bool) : State :=
  if q.kind == .gather && requeue && !q.requeued then
    let q := { q with requeued := true }
    let s := s.count owner 0x3230 1
    if (s.cluster (e / 8)).room = 0 then s.modEngine e (fun g => { g with keep := some q })
    else s.pushEntry (e / 8) q
  else s.stopTile q status

/-- An aborted tile ends (R187). An entry that the engine has claimed and whose reads it waits for ends in the same way
as one it runs. -/
def State.abortTile (s : State) (e : Nat) (status : Nat) (requeue : Bool) : State :=
  match (s.engine e).tile with
  | none =>
    match (s.engine e).claim with
    | some k =>
      if !k.arrived then s else
      match s.stream k.entry.stream with
      | none => s.unclaim e
      | some x => (s.unclaim e).abortEntry e x.owner k.entry status requeue
    | none => s
  | some r =>
    if r.sending then s.abortSends e r else
    let s := s.freeEngine e
    match s.stream r.entry.stream with
    | none => s
    | some x =>
      let s := match r.pa with
        | some a => s.dropReservation (granuleOf a) e
        | none => s
      s.abortEntry e x.owner r.entry status requeue

/-- Count a hardware fault of an engine; three within a second take it offline (R188). -/
def State.hardFault (s : State) (e : Nat) : State :=
  let span := slowEdge s (ms 1000)
  let fs := ((s.engine e).faults ++ [s.now]).filter (fun t => decide (s.now < t + span ∨ t = s.now))
  let s := (s.modEngine e (fun g => { g with faults := fs })).modCluster (e / 8) (fun k => { k with faultsHw := k.faultsHw + 1 })
  if fs.length ≥ 3 && (s.engine e).online then
    ((s.idleEnd e).modEngine e (fun g =>
      { g with online := false, leave := false, offline := true, claim := g.claim.filter (·.arrived) })).postPfs evENG_OFFLINE 0 (toLe 2 e)
  else s

/-- The entry of the tile that an engine holds: the one it runs, or one it has claimed whose sums it has. -/
def Engine.held (g : Engine) : Option QEntry :=
  match g.tile with
  | some r => some r.entry
  | none => (g.claim.filter (·.arrived)).map (·.entry)

/-- An engine fault (R186, R187). -/
def State.engineFault (s : State) (e : Nat) (c : EngCause) : State :=
  let s := if causeHard c then s.hardFault e
    else s.modCluster (e / 8) (fun k => { k with faultsProg := k.faultsProg + 1 })
  match (s.engine e).held with
  | none =>
    if causeHard c then s.postPfs evENG_FAULT 0 (toLe 2 e ++ toLe 2 0xFFFF ++ toLe 4 0xFFFFFFFF ++ toLe 1 (causeCode c)) else s
  | some q =>
    let n := q.stream
    let owner := match s.stream n with | some x => x.owner | none => 0
    let s := (s.post owner evENG_FAULT 0 (toLe 2 e ++ toLe 2 n ++ toLe 4 q.tile ++ toLe 1 (causeCode c))).count owner 0x3228 1
    s.abortTile e stRETRY true

/-! ### Running a program -/

/-- What surrounds the engine's next instruction. A tile of a stream without a program runs none, whatever the store
holds. -/
def State.tackCtx (s : State) (e : Nat) : Option Ctx :=
  match (s.engine e).tile with
  | none => none
  | some r =>
    match s.stream r.entry.stream, ((s.stream r.entry.stream).bind (fun x => x.desc.progNo r.entry.kind)) with
    | some x, some n =>
      let p := s.program x.desc n
      match (p.phases)[r.phase]? with
      | some ph => some ⟨p, x.desc, r.entry.tile, r.strip, ph.width, ph.order, ph.once, r.firstOut⟩
      | none => none
    | _, _ => none

/-- The first phase from `k` on that runs. -/
def TackProg.phaseFrom (p : TackProg) (isOne : Bool) (k : Nat) : Nat :=
  ((span k (p.phases.length - k)).find? (fun i =>
    match (p.phases)[i]? with | some ph => ph.runs isOne | none => false)).getD p.phases.length

/-- The place after the current instruction (R195, R196). -/
def nextPlace (p : TackProg) (isOne : Bool) (r : TileRun) : TileRun :=
  match (p.phases)[r.phase]? with
  | none => r
  | some ph =>
    if r.index + 1 < ph.len then { r with index := r.index + 1 }
    else if !ph.once && decide (r.strip + 1 < 4096 / ph.width) then { r with index := 0, strip := r.strip + 1 }
    else { r with index := 0, strip := 0, phase := p.phaseFrom isOne (r.phase + 1) }

/-- Issue one instruction on an engine: S30 and S31 are set at the start of a strip (R197), the place
moves on, a fault ends the tile (R217). An element that an inlet or an outlet saturates counts once a strip, as it is
converted once (R101, R201; assumption 212); a saturated result of an instruction marks the tile as a conversion's does
(DESIGN CHOICE, assumption 213). -/
def State.tackIssue (s : State) (e : Nat) (f : TackFields) (op : TackOp) : State :=
  match (s.engine e).tile, s.tackCtx e with
  | some r, some c =>
    if (s.engine e).reload || r.finished || r.stale then s
    else
      let g := s.engine e
      let g := if r.index = 0 then
          (g.setS 30 (BitVec.ofNat 64 c.strip)).setS 31 (BitVec.ofNat 64 (4096 * c.tile + c.elem c.strip 0))
        else g
      let o := op f c g
      let owner := ((s.stream r.entry.stream).map (·.owner)).getD 0
      match o.fault with
      | some x => (s.setEngine e g).engineFault e x
      | none =>
        let old := if r.index = 0 then [] else r.conv
        let conv := o.conv.foldl (fun l x => if l.contains x then l else x :: l) old
        let n := o.sat + (conv.length - old.length)
        let r := nextPlace c.prog (c.desc.step == 1#32) { r with firstOut := o.firstOut, conv := conv, sat := r.sat || n != 0 }
        (s.setEngine e { o.eng with tile := some r }).count owner 0x3190 n
  | _, _ => s

/-- The engine's place in its program store (R177). -/
def State.tackPlace (s : State) (e : Nat) : Option Nat :=
  match (s.engine e).tile, s.tackCtx e with
  | some r, some c => ((c.prog.phases)[r.phase]?).map (fun ph => ph.start + r.index)
  | _, _ => none

/-- The instruction word at that place. -/
def State.tackWordAt (s : State) (e : Nat) : Option Word64 := (s.tackPlace e).bind (fun k => ((s.engine e).store)[k]?)

/-- Fetch, decode and issue the next instruction; a word whose parity bit is wrong is cause 5 (R177, R186). -/
def State.tackNext (s : State) (e : Nat) : State :=
  match s.tackWordAt e with
  | none => s
  | some w =>
    if (s.engine e).badWords.contains ((s.tackPlace e).getD 0) then s.engineFault e .pstoreParity
    else
      match (decodeTack e w).bind tackOf with
      | some (f, op) => s.tackIssue e f op
      | none => s.engineFault e .illegal

/-- Instructions that a program issues over a tile, at most. -/
def TackProg.issues (p : TackProg) : Nat :=
  p.phases.foldl (fun n ph => n + ph.len * (if ph.once then 1 else 4096 / ph.width)) 0

/-- Run the rest of the program. -/
def State.tackRun (s : State) (e : Nat) : State :=
  match s.tackCtx e with
  | none => s
  | some c => (List.range c.prog.issues).foldl (fun s _ => s.tackNext e) s

/-! ### Taking a tile -/

/-- What the first read of a tile comes to. -/
inductive Take where
  | wait
  | ended (status : Nat)
  | gap
  | run (stale : Bool)
deriving DecidableEq, Repr

/-- The tile belongs to a group that `STEP_STALE` stopped after pass 1: it goes on as a stale tile (R162,
R164). -/
def Stream.stoppedStale (x : Stream) (q : QEntry) : Bool :=
  q.kind == .lamb2 &&
  match x.groupOf q.tile with
  | some i => match (x.groups)[i]? with
    | some g => g.computed && !g.failed.isEmpty
    | none => false
  | none => false

/-- The hold slot of a tile (R162): the one that pass 1 used, else the one of its rank in its region. -/
def State.holdSlot (s : State) (x : Stream) (t : Nat) : Option (Nat × Nat) :=
  match (x.groups.flatMap (·.hold)).find? (fun h => h.1 == t) with
  | some h => some h.2
  | none => (s.tileRegion x t).map (fun g => (g, rankIn (s.regionTiles x g) t))

/-- The tile reads or writes a hold slot (R162). -/
def QEntry.usesHold (q : QEntry) : Bool := q.kind == .lamb1 || (q.kind == .lamb2 && q.loc == .none)

/-- A range of the pool that a tile addresses: its number, its operand, and its place there. -/
structure TileRange where
  part : Nat
  op   : Operand
  off  : Nat
  len  : Nat
deriving DecidableEq, Repr

/-- What the tile of an entry addresses (R465): its state granule (range 0), its residual slices (1 to 8), and the
workspace slot that holds its sums (10). -/
def tileRanges (x : Stream) (c : Nat) (q : QEntry) : List TileRange :=
  let d := x.desc
  let ws : List TileRange := if q.loc == .workspace then [⟨10, x.ws (c / 8), accOff q.slot, 0x4000⟩] else []
  ⟨0, d.stateOp, q.tile * d.tileStep, granuleBytes⟩ ::
    d.residuals.filterMap (fun k => (d.gather)[k]?.map (fun e => ⟨1 + k, e.residual, 8192 * q.tile, 2 * d.tileElems q.tile⟩)) ++ ws

/-- Its hold slot (range 9), once its region is known. -/
def State.holdRange (s : State) (x : Stream) (q : QEntry) : List TileRange :=
  if q.usesHold then (s.holdSlot x q.tile).toList.map (fun h => ⟨9, x.ws h.1, x.desc.holdOff h.2, 0x4000⟩) else []

/-- Look up every page of ranges of a tile; engine lookups are of kind 3. -/
def State.lookTile (s : State) (rs : List TileRange) : List PageLook × State :=
  rs.foldl (fun (a : List PageLook × State) r =>
    let (l, s) := a.2.lookRange r.part r.op.window (r.op.off + r.off) r.len 3
    (a.1 ++ l, s)) ([], s)

/-- Translate every page of a claimed entry's tile before any byte moves (R58). -/
def State.claimPages (s : State) (e : Nat) (x : Stream) (k : Claim) : List PageLook × State :=
  let keep (l : List PageLook) (s : State) : State :=
    s.modEngine e (fun g => { g with claim := g.claim.map (fun k => { k with looks := l }) })
  let (l, s) := if k.looks.isEmpty then s.lookTile (tileRanges x (e / 8) k.entry) else (k.looks, s)
  if l.any (fun p => p.part == 9) || l.any (fun p => p.part == 0 && p.waits) then (l, keep l s)
  else
    let (m, s) := s.lookTile (s.holdRange x k.entry)
    (l ++ m, keep (l ++ m) s)

/-- The PA of a range of the tile. -/
def rangePa (l : List PageLook) (part : Nat) : Option Nat := (lookSegs l part).head?.map (·.pa)

/-- Every range of the tile is one run of addresses in the stack of the engine's region (R16, R465). A unit found in
another stack ends the tile as a split one does (assumption 195). -/
def unitsOk (e : Nat) (l : List PageLook) : Bool :=
  (List.range 11).all (fun i => contiguous (lookSegs l i) && inStack (regionOfEngine e) (lookSegs l i))

/-- The first read of the state granule: its stack's queues, reservations and fills of others, holders of coherent lines,
the stamp (R26, R151, R155, R438). -/
def State.firstRead (s : State) (e : Nat) (x : Stream) (q : QEntry) (l : List PageLook) : Take × Bytes × State :=
  match rangePa l 0 with
  | none => (.ended stBOUND, [], s)
  | some pa =>
    let g := granuleOf pa
    let whole := [(g * granuleBytes, granuleBytes)]
    if !unitsOk e l then (.ended stBOUND, [], s)
    else if !s.rangesServe whole then (.ended stRETRY, [], s)
    else if s.readHeld whole || s.fillHolds whole false then (.wait, [], s)
    else
      match s.ownAccess (.engine e) .own whole with
      | (some _, s) => (.wait, [], s)
      | (none, s) =>
        let (r, s) := s.read (some x.owner) (g * granuleBytes) granuleBytes
        let s := (s.countPoison x.owner r.poison).countLost pa (r.lost && !r.poison)
        if r.poison then (.ended stPOISON, [], s)
        else if x.desc.gatherOnly then (.run false, r.data, s)
        else if x.stoppedStale q then (.run true, r.data, s)
        else
          match s.stampRead g with
          | (none, s) => (.ended stPOISON, [], s)
          | (some st, s) =>
            match stampIs (stampDist x.desc.step st) with
            | .next => (.run false, r.data, s)
            | .stale => (.run true, r.data, s)
            | .gap => (.gap, [], s)

/-- Read a translated range of the tile through the home of a coherent line (R62, R66): `none` while it waits for a
line, for a stamp that is being written (R155), or for a zero-fill. -/
def State.inletRead (s : State) (e owner : Nat) (segs : List Seg) : Option RdRes × State :=
  if s.readHeld (segRanges segs) || s.fillHolds (segRanges segs) false then (none, s)
  else match s.ownAccess (.engine e) .rd (segRanges segs) with
    | (some _, s) => (none, s)
    | (none, s) =>
      let (r, s) := s.readSegs (some owner) segs
      (some r, (s.countPoison owner r.poison).countLost ((segs.head?.map (·.pa)).getD 0) (r.lost && !r.poison))

/-- What the reads of several ranges come to. -/
inductive Inlets where
  | wait
  | poison
  | data (l : List Bytes)
deriving DecidableEq, Repr

/-- The residual slices of a tile (R111). -/
def State.readResiduals (s : State) (e : Nat) (x : Stream) (l : List PageLook) : Inlets × State :=
  x.desc.residuals.foldl (fun (a : Inlets × State) k =>
    match a.1 with
    | .wait => a
    | .poison => a
    | .data ds =>
      match a.2.inletRead e x.owner (lookSegs l (1 + k)) with
      | (none, s) => (.wait, s)
      | (some r, s) => (if r.poison then .poison else .data (ds ++ [slice r.data 0 8192]), s)) (.data [], s)

/-- The sums of an entry that its slot or buffer holds, copied when it is claimed (R181). -/
def State.entrySums (s : State) (c : Nat) (q : QEntry) : Bytes :=
  match q.loc with
  | .slot => wordBytes (((afind (s.cluster (8 * (c / 8) + q.cluster)).sums q.slot).map (·.vals)).getD [])
  | .buffer => wordBytes (((afind (s.cluster c).bufs q.slot).map (·.vals)).getD [])
  | .workspace => []
  | .none => []

/-- `SUMS` at the start of a tile (R162, R177): `ext` is what its hold slot or workspace slot holds. -/
def tileSumsArea (x : Stream) (k : Claim) (ext : Bytes) : Bytes :=
  let hp (k : Nat) : Word32 := lget 0 x.desc.hp k
  let b := if k.entry.loc == .slot || k.entry.loc == .buffer then k.sums else ext
  match k.entry.kind with
  | .gather => zeros 0x4000
  | .lamb2 =>
    if k.entry.loc == .none then b
    else (List.range 4096).flatMap (fun k => toLe 4 (fMul (BitVec.ofNat 32 (fld b (4 * k) 4)) (hp 5)).toNat)
  | .fused => b
  | .lamb1 => b

/-- The sums of a tile that lie in its hold slot or workspace slot. -/
def State.readSums (s : State) (e : Nat) (x : Stream) (q : QEntry) (l : List PageLook) : Inlets × State :=
  let part := if q.loc == .workspace then 10 else 9
  if !(q.loc == .workspace || (q.kind == .lamb2 && q.loc == .none)) then (.data [], s)
  else match s.inletRead e x.owner (lookSegs l part) with
    | (none, s) => (.wait, s)
    | (some r, s) => (if r.poison then .poison else .data [r.data], s)

/-- The registers preset at the start of a tile (R157, R197). -/
def presetS (x : Stream) (q : QEntry) (ratio : Word32) : Tbl Word64 :=
  let d := x.desc
  let hp (k : Nat) : Word32 := lget 0 d.hp k
  let w (v : Word32) : Word64 := v.setWidth 64
  let base := (List.range 8).foldl (fun t k => tset 0 t k (w (hp k))) ([] : Tbl Word64)
  let t := tset 0 base 8 (w (oneMinus (hp 1)))
  let t := tset 0 t 9 (w (oneMinus (hp 2)))
  let t := tset 0 t 10 (w (biasScale (hp 1) d.step.toNat))
  let t := tset 0 t 11 (w (biasScale (hp 2) d.step.toNat))
  let t := tset 0 t 12 (w d.step)
  let t := tset 0 t 13 (BitVec.ofNat 64 (b2n (d.step == 1#32) + 2 * b2n q.nonFin))
  let t := tset 0 t 14 (BitVec.ofNat 64 q.tile)
  if q.kind == .lamb2 then tset 0 t 15 (w (toF32 (((f32 (hp 0)).neg).mul (f32 ratio)))) else t

/-- The stored ratio of a tile's group. -/
def Stream.ratioOf (x : Stream) (t : Nat) : Word32 :=
  match x.groupOf t with
  | some i => ((x.groups)[i]?.map (·.ratio)).getD 0
  | none => 0

/-- An engine starts a claimed tile whose data it has read (R177, R179, R191, R192, R197): `ext` is what its hold slot
or workspace slot holds. A tile of a stream with another program than the store's reloads it. -/
def State.startTile (s : State) (e : Nat) (x : Stream) (k : Claim) (l : List PageLook) (stale : Bool) (img ext : Bytes)
    (res : List Bytes) : State :=
  let c := e / 8
  let q := k.entry
  let g := s.engine e
  let prog := (x.desc.progNo q.kind).map progSlot
  let p := match x.desc.progNo q.kind with | some n => s.program x.desc n | none => parseProg []
  let reload := prog.isSome && (g.prog != prog || g.store != p.code)
  let old := if g.lastVi == some x.owner then g.scratch else []
  let m := memWrite (memWrite (memClear old workBase 0x4000) 0 (slice (tileSumsArea x k ext) 0 0x4000)) 0x4000 img
  let m := ((List.range res.length).zip res).foldl (fun m r => memWrite m (0x14000 + 8192 * r.1) r.2) m
  let hold := match s.holdSlot x q.tile, rangePa l 9 with
    | some h, some a => some (h.1, h.2, a)
    | _, _ => none
  let r : TileRun :=
    { pa := rangePa l 0, resid := x.desc.residuals.map (fun k => rangePa l (1 + k)), hold := hold,
      exts := ((List.range 11).flatMap (fun i => (lookSegs l i).map (·.ext))).foldl insSet [],
      entry := q, started := s.aWork (dieOfEngine e), limit := (s.region (e / 64)).tileLimit, stale := stale,
      phase := p.phaseFrom (x.desc.step == 1#32) 0, strip := 0, index := 0, finished := false, sat := q.sat,
      batch := none, sending := false, firstOut := 0, conv := [] }
  let s := (s.idleEnd e).setEngine e
    { g with tile := some r, claim := none, idleAt := none, lastVi := some x.owner,
             prog := if prog.isSome then prog else g.prog, store := if prog.isSome then p.code else g.store, reload := reload,
             badWords := if prog.isSome then [] else g.badWords,
             badBytes := if g.lastVi == some x.owner then
               g.badBytes.filter (fun a => decide (0x14000 + 8192 * res.length ≤ a ∧ a < workBase)) else [],
             scratch := m, v := [], p := [], a := [], q := [], gbuf := [], sc := presetS x q (x.ratioOf q.tile) }
  let s := (s.count x.owner 0x3218 1).modCluster c (fun k =>
    { k with tilesRun := k.tilesRun + 1, reloads := k.reloads + b2n reload })
  let s := s.when reload (fun s => s.count x.owner 0x3240 1)
  if stale || x.desc.gatherOnly then s
  else match r.pa.map granuleOf with
    | some gr => s.modHome (fun h =>
        { h with reserved := h.reserved.filter (fun z => z.2.1 != betweenPasses q.stream q.tile) ++ [(gr, e, false)] })
    | none => s

/-- Take an entry out of its queue: its slot or buffer is free once the sums are copied, and the queue
takes what waits for a place (R181). -/
def State.unqueue (s : State) (c : Nat) (q : QEntry) : State :=
  ((s.modCluster c (fun k => { k with queue := k.queue.erase q })).freeSums c q).refill c

/-- An engine claims a queued entry and copies its sums (R181). -/
def State.claimEntry (s : State) (e : Nat) (q : QEntry) : State :=
  let c := e / 8
  let sums := s.entrySums c q
  ((s.unqueue c q).idleEnd e).modEngine e (fun g => { g with claim := some ⟨q, sums, [], true⟩ })

/-- The claimed tile ends before it starts. -/
def State.endClaim (s : State) (e : Nat) (q : QEntry) (status : Nat) : State := (s.unclaim e).stopTile q status

/-- Start the tile that an engine has claimed, as far as its data is there (R58, R151, R158, R181, R182). -/
def State.runClaim (s : State) (e : Nat) : State :=
  match (s.engine e).claim with
  | none => s
  | some k =>
    let q := k.entry
    match s.stream q.stream with
    | none => s.unclaim e
    | some x =>
      if !k.arrived then s
      else if q.nonFin && x.desc.recipe != 6 then ((s.unclaim e).satTile q.stream q.tile).stopTile q stSATURATED
      else
        let (l, s) := s.claimPages e x k
        match s.judge l with
        | .wait _ _ _ => s
        | .retry => s.endClaim e q stRETRY
        | .bad _ st => s.endClaim e q st
        | .ok =>
          match s.firstRead e x q l with
          | (.wait, _, s) => s
          | (.ended st, _, s) => s.endClaim e q st
          | (.gap, _, s) => (s.post x.owner evSTEP_GAP 0 (evTile q.stream q.tile)).endClaim e q stBOUND
          | (.run stale, img, s) =>
            if stale && q.kind == .lamb1 then s.endClaim e q stSTALE
            else
              match s.readSums e x q l with
              | (.wait, s) => s
              | (.poison, s) => s.endClaim e q stPOISON
              | (.data ext, s) =>
                match s.readResiduals e x l with
                | (.wait, s) => s
                | (.poison, s) => s.endClaim e q stPOISON
                | (.data res, s) => s.startTile e x k l stale img (ext.headD []) res

/-- Entries of a queue that may be stolen (R183). -/
def Cluster.stealable (k : Cluster) : Nat := (k.queue.filter (fun q => !q.stolen)).length

/-- The victim of a steal (R183): the cluster with the most stealable entries, lowest index on a tie. -/
def State.stealVictim (s : State) (thief : Nat) : Option Nat :=
  let cs := (span (8 * (thief / 8)) 8).filter (fun c => c != thief && !(s.cluster c).inReset)
  match cs.foldl (fun (a : Option Nat) c =>
      match a with
      | none => some c
      | some b => if (s.cluster c).stealable > (s.cluster b).stealable then some c else some b) none with
  | some v => if (s.cluster v).stealable = 0 then none else some v
  | none => none

/-- Choose what a steal moves, youngest first: at most `n` entries, `buf` of which need a buffer. -/
def stealPick (n buf : Nat) : List QEntry → List QEntry
  | [] => []
  | q :: r =>
    if n = 0 then [] else if q.stolen then stealPick n buf r
    else if q.loc == .slot then (if buf = 0 then stealPick n buf r else q :: stealPick (n - 1) (buf - 1) r)
    else q :: stealPick (n - 1) buf r

/-- A cross-cluster steal for a cluster (R183, R184): entries that need no record enter its queue at
once, the others are in transit. An entry counts as received once it is in the thief's queue (R193). -/
def State.steal (s : State) (thief : Nat) : State :=
  match s.stealVictim thief with
  | none => s.modCluster thief (fun k => { k with noSteal := true })
  | some v =>
    let k := s.cluster thief
    let n := min (cdiv (s.cluster v).stealable 2) (256 - k.queue.length - k.transit.length)
    let buf := 8 - k.bufs.length - (k.transit.filter (fun q => q.loc == .slot)).length
    let took := stealPick n buf (s.cluster v).queue.reverse
    if took.isEmpty then s.modCluster thief (fun k => { k with noSteal := true })
    else
      let s := s.modCluster v (fun k =>
        { k with queue := k.queue.filter (fun q => !took.contains q), stolenOut := k.stolenOut + took.length })
      let s := took.foldl (fun s q =>
        let s := match s.stream q.stream with | some x => s.count x.owner 0x3238 1 | none => s
        let q := { q with stolen := true }
        if q.loc == .slot then s.modCluster thief (fun k => { k with transit := k.transit ++ [q] })
        else (s.modCluster thief (fun k => { k with stolenIn := k.stolenIn + 1 })).pushEntry thief q) s
      s.refill v

/-- The oldest entry in transit to a cluster that none of its engines has claimed. -/
def State.unclaimed (s : State) (c : Nat) : Option QEntry :=
  (s.cluster c).transit.find? (fun q => !(span (8 * c) 8).any (fun e => match (s.engine e).claim with
    | some k => !k.arrived && k.entry == q
    | none => false))

/-- An engine with no tile acts (R181, R183): it goes on with the entry that it has claimed, takes the oldest of its
own queue, claims one in transit, or asks for a steal. -/
def State.takeTile (s : State) (e : Nat) : State :=
  let g := s.engine e
  let c := e / 8
  let k := s.cluster c
  if g.tile.isSome || !g.online || g.testing || g.keep.isSome || k.inReset || (s.region (e / 64)).inReset ||
     s.boot.unlocked.contains (.a (e / 384)) then s
  else if g.claim.isSome then s.runClaim e
  else if g.leave then s
  else
    match k.queue with
    | q :: _ => (s.claimEntry e q).runClaim e
    | [] =>
      match s.unclaimed c with
      | some q => (s.idleEnd e).modEngine e (fun g => { g with claim := some ⟨q, [], [], false⟩ })
      | none =>
        let s := if k.noSteal || (s.region (e / 64)).stealScope = 0 then s else s.steal c
        if (s.cluster c).queue.isEmpty && (s.unclaimed c).isNone && (s.engine e).idleAt.isNone then
          s.modEngine e (fun g => { g with idleAt := some (s.aWork (dieOfEngine e)) })
        else s

/-- ENGINE_TAKE_TILE (R181, R183). -/
def execEngineTakeTile (engine : Nat) (s : State) : Host.Outcome State Fault Refusal :=
  onUnit (decide (engine < 768)) (s.takeTile engine)

/-- The first record in transit to a cluster is written into a steal buffer and its entry enters the queue (R184); the
engine that has claimed it takes it. -/
def State.stealArrive (s : State) (c : Nat) : State :=
  match (s.cluster c).transit with
  | [] => s
  | q :: r =>
    let by_ := (span (8 * c) 8).find? (fun e => match (s.engine e).claim with
      | some k => !k.arrived && k.entry == q
      | none => false)
    let sums := (afind (s.cluster (8 * (c / 8) + q.cluster)).sums q.slot).getD ⟨[], []⟩
    let b := ((List.range 8).find? (fun n => (afind (s.cluster c).bufs n).isNone)).getD 0
    let s := s.freeSums c q
    let q' := { q with loc := .buffer, cluster := c % 8, slot := b }
    let s := (s.modCluster c (fun k =>
      { k with transit := r, bufs := tput k.bufs b sums, stolenIn := k.stolenIn + 1 })).pushEntry c q'
    match by_ with
    | some e => (s.claimEntry e q').runClaim e
    | none => s

/-- STEAL_RECORD_ARRIVE (R184). -/
def execStealRecordArrive (cluster : Nat) (s : State) : Host.Outcome State Fault Refusal :=
  onUnit (decide (cluster < 96)) (s.stealArrive cluster)

/-- PROG_RELOAD_DONE (R179). -/
def execProgReloadDone (engine : Nat) (s : State) : Host.Outcome State Fault Refusal :=
  onUnit (decide (engine < 768)) (s.modEngine engine (fun g => { g with reload := false }))

/-! ### After the last phase (R219) -/

/-- The 4,096 FP32 values at an offset of scratch. -/
def Engine.f32s (g : Engine) (a : Nat) : List Word32 :=
  let b := g.sbytes a 0x4000
  (List.range 4096).map (fun k => BitVec.ofNat 32 (fld b (4 * k) 4))

/-- The first `m` of a tile's elements, and zero for each element that the shard does not have (R93). -/
def realFirst {α : Type} (m : Nat) (z : α) (l : List α) : List α := l.take m ++ List.replicate (4096 - m) z

/-- The delta stream of a tile (R112): the payload's conversion and the new residual. -/
def deltaPass (d : Desc) (e : GatherEnt) (t : Nat) (diffs : List Word32) (res : Bytes) : Conv × Conv :=
  let r := (decodeArray 1 4096 res).map (fun v => toF32 v)
  let ts := (diffs.zip r).map (fun x => fAdd x.1 x.2)
  let q := encodeArray e.fmt (d.rnd e.rnd 1) (4096 * t) (ts.map f32)
  let back := decodeArray e.fmt 4096 q.data
  let errs := (ts.zip back).map (fun x => f32 (toF32 ((f32 x.1).add x.2.neg)))
  (q, encodeArray 1 (d.rnd e.rnd2 2) (4096 * t) errs)

/-- A rebase (R114): the payload's conversion and the new residual. -/
def rebasePass (d : Desc) (e : GatherEnt) (t : Nat) (w : List Word32) : Conv × Conv :=
  let q := encodeArray e.fmt (d.rnd e.rnd 0) (4096 * t) (w.map f32)
  let sent := if e.fmt = 0 then w.map f32 else decodeArray e.fmt 4096 q.data
  let q := if e.fmt = 0 then { q with data := wordBytes w } else q
  (q, encodeArray 1 Rnd.rne (4096 * t) ((w.zip sent).map (fun x => (f32 x.1).add x.2.neg)))

/-- One gather entry of a tile: payloads, new residuals, and counts (R219). -/
def State.gatherEntry (s : State) (e n t : Nat) (x : Stream) (r : TileRun) (src : Nat) (k : Nat) : State :=
  match (x.desc.gather)[k]? with
  | none => s
  | some ge =>
    let g := s.engine e
    let m := x.desc.tileElems t
    let w := realFirst m 0#32 (g.f32s (0x4000 + src))
    let slot := (x.desc.residuals.findIdx? (· == k)).getD 0
    let put (s : State) (c : Conv) : State :=
      (s.modEngine e (fun g => { g with gbuf := g.gbuf ++ [(k, c.data)] })).when (c.sat != 0) (fun s => s.satTile n t)
    let putRes (s : State) (c : Conv) : State :=
      s.modEngine e (fun g => g.setBytes (0x14000 + 8192 * slot) c.data)
    if ge.delta then
      if r.stale then s
      else
        let b := g.sbytes 0 0x4000
        let diffs := (List.range 4096).map (fun i =>
          if !decide (i < m) then 0#32
          else if r.firstOut.testBit i then BitVec.ofNat 32 (fld b (4 * i) 4)
          else let w := lget 0#32 w i; fSub w w)
        let (q, res) := deltaPass x.desc ge t diffs
          (g.sbytes (0x14000 + 8192 * slot) (2 * m) ++ List.replicate (8192 - 2 * m) 0#8)
        ((put (putRes s res) q).countConv x.owner q).countConv x.owner res
    else if ge.rebase then
      let (q, res) := rebasePass x.desc ge t w
      ((put (putRes s res) q).countConv x.owner q).countConv x.owner res
    else
      let first := (List.range k).find? (fun j =>
        match (x.desc.gather)[j]? with
        | some o => o.fmt == ge.fmt && o.rnd == ge.rnd && !o.delta && !o.rebase
        | none => false)
      match first with
      | some j => s.modEngine e (fun g => { g with gbuf := g.gbuf ++ [(k, (afind g.gbuf j).getD [])] })
      | none =>
        let q := if ge.fmt = 0 then ⟨wordBytes w, 0, 0, 0⟩ else encodeArray ge.fmt (x.desc.rnd ge.rnd 0) (4096 * t) (w.map f32)
        (put s q).countConv x.owner q

/-- Areas that the program's outlets wrote, as (STATE offset, bytes). -/
def outletAreas (p : TackProg) (g : Engine) : List (Nat × Bytes) :=
  (p.outs.filter (fun b => b.area == 2)).map (fun b => (b.off, g.sbytes (0x4000 + b.off) (b.len * 128)))

/-- The residual slices of a tile as writes, each with the window that it goes through. -/
def State.residualWrites (s : State) (e : Nat) (x : Stream) (r : TileRun) : List (Nat × Nat × Bytes) :=
  let rs := x.desc.residuals
  ((List.range rs.length).zip rs).filterMap (fun y =>
    match (x.desc.gather)[y.2]? with
    | some ge =>
      if r.stale && ge.delta then none
      else (lget none r.resid y.1).map (fun pa =>
        (ge.residual.window, pa, (s.engine e).sbytes (0x14000 + 8192 * y.1) (2 * x.desc.tileElems r.entry.tile)))
    | none => none)

/-- LAMB pass 1 ends (R162, R219): g goes to the hold slot, the two sums to the group. The granule stays
reserved until pass 2 has written its stamp (R155). -/
def State.endPass1 (s : State) (e n t : Nat) (x : Stream) (r : TileRun) : State :=
  let g := s.engine e
  let sums (k : Nat) : Word32 := psum ((tget [] g.a k).map (·.2))
  match r.hold with
  | none =>
    let s := match r.pa with
      | some a => s.dropReservation (granuleOf a) e
      | none => s
    (s.freeEngine e).failPass1 n t stBOUND
  | some (h, rank, a) =>
    let range := [(a, 0x4000)]
    if !s.rangesServe range then s.abortTile e stRETRY false
    else if s.fillHolds range true then s
    else match s.ownAccess (.engine e) .wr range with
    | (some _, s) => s
    | (none, s) =>
      let s := (s.countFills (x.ws h).window range).storeQuiet a (g.sbytes 0x14000 0x4000)
      let s := s.modHome (fun h => { h with reserved := h.reserved.map (fun z =>
        if z.2.1 == e && !z.2.2 then (z.1, betweenPasses n t, false) else z) })
      (s.modStream n (fun x => match x.groupOf t with
        | some i => x.modGroup i (fun y => { y with pass1 := y.pass1 ++ [(t, sums 0, sums 1)], hold := y.hold ++ [(t, h, rank)] })
        | none => x)).freeEngine e

/-- Scratch that the framework reads after a tile's last phase: the outlets and the residual slots that its batch writes,
the gather source, and the differences of a delta entry (R219, R220). -/
def frameReads (x : Stream) (r : TileRun) (p : TackProg) (src : Nat) : List (Nat × Nat) :=
  if r.entry.kind == .lamb1 then [(0x14000, 0x4000)]
  else
    (if r.stale || x.desc.gatherOnly then []
     else (p.outs.filter (fun b => b.area == 2)).map (fun b => (0x4000 + b.off, b.len * 128))) ++
    (if x.desc.gather.isEmpty then [] else [(0x4000 + src, 0x4000)]) ++
    (if x.desc.gather.any (·.delta) && !r.stale then [(0, 0x4000)] else []) ++
    (List.range x.desc.residuals.length).map (fun k => (0x14000 + 8192 * k, 8192))

/-- The passes after the last phase (R219); a parity error that they read is cause 4 of R186. -/
def State.framework (s : State) (e : Nat) : State :=
  match (s.engine e).tile with
  | none => s
  | some r =>
    let n := r.entry.stream
    let t := r.entry.tile
    match s.stream n with
    | none => s.freeEngine e
    | some x =>
      let p : TackProg := match x.desc.progNo r.entry.kind with | some k => s.program x.desc k | none => parseProg []
      let src := if x.desc.recipe = 6 then p.gather.getD 0 else 0
      if (frameReads x r p src).any (fun a => (s.engine e).badAt a.1 a.2) then s.engineFault e .scratchParity
      else if r.entry.kind == .lamb1 then s.endPass1 e n t x r
      else
        let s := (List.range x.desc.gather.length).foldl (fun s k => s.gatherEntry e n t x r src k) s
        let s := s.when r.sat (fun s => s.satTile n t)
        let pa := r.pa.getD 0
        let state := if r.stale || x.desc.gatherOnly then []
          else (outletAreas p (s.engine e)).map (fun w => (x.desc.stateOp.window, pa + w.1, w.2))
        let ws := state ++ s.residualWrites e x r
        let b : Batch := ⟨n, t, granuleOf pa, BitVec.ofNat 16 x.desc.step.toNat, ws.map (·.2), ws.map (·.1), none⟩
        s.modEngine e (fun g => { g with tile := some { r with finished := true, batch := some b } })

/-- A stale tile reads its granule again at its end (R151, R164): whether it goes on. One whose granule cannot be read
fails `POISON` and sends nothing (R166). -/
def State.rereadStale (s : State) (e : Nat) (r : TileRun) : Bool × State :=
  match s.stream r.entry.stream with
  | none => (true, s)
  | some x =>
    match r.pa.map granuleOf with
    | none => (true, s)
    | some g =>
      let whole := [(g * granuleBytes, granuleBytes)]
      if !s.rangesServe whole then (false, s.abortTile e stRETRY false)
      else if s.readHeld whole || s.fillHolds whole false then (false, s)
      else
        match s.ownAccess (.engine e) .rd whole with
        | (some _, s) => (false, s)
        | (none, s) =>
          let (d, s) := s.read (some x.owner) (g * granuleBytes) granuleBytes
          let s := (s.countPoison x.owner d.poison).countLost (g * granuleBytes) (d.lost && !d.poison)
          if d.poison then (false, s.abortTile e stPOISON false)
          else (true, s.modEngine e (fun q => q.setBytes 0x4000 d.data))

/-- The engine's program runs to its end, and the framework after it. -/
def State.programEnd (s : State) (e : Nat) : State :=
  match (s.engine e).tile with
  | none => s
  | some r =>
    if r.finished || (s.engine e).reload then s
    else if r.stale then
      match s.rereadStale e r with
      | (false, s) => s
      | (true, s) => s.framework e
    else
      let s := s.tackRun e
      if (s.engine e).tile.isNone then s else s.framework e

/-- TILE_PROGRAM_END (R196, R219). -/
def execTileProgramEnd (engine : Nat) (s : State) : Host.Outcome State Fault Refusal :=
  onUnit (decide (engine < 768)) (s.programEnd engine)

/-! ### Commit -/

/-- A tile of the stream is accepted: when it is the last, regions close their pair cycles (R436). -/
def State.noteAccepted (s : State) (n t : Nat) (mirrored : Bool) : State :=
  let s := s.modStream n (fun x => { x with accepted := insSet x.accepted t })
  match s.stream n with
  | some x =>
    if mirrored && s.pair.state == .active && x.selTiles.all (fun u => x.accepted.contains u || (afind x.outcomes u).isSome) then
      s.modCyc (fun c => { c with closeNow := true, early := if c.closeNow then c.early else c.early + 1 })
    else s
  | none => s

/-- Send what the gather buffer holds (R164); each rebased tile is counted (R114), once for each REBASE entry (DESIGN
CHOICE, assumption 214). The engine keeps the tile until the
last write has left. -/
def State.sendTile (s : State) (e n t : Nat) (x : Stream) : State :=
  let bufs := (s.engine e).gbuf
  let rebased := (bufs.filter (fun b => match (x.desc.gather)[b.1]? with | some ge => ge.rebase && !ge.delta | none => false)).length
  let s := s.count x.owner 0x31A8 rebased
  let s := bufs.foldl (fun s b => s.sendGather n t b.1 (e / 64) b.2) s
  (s.modEngine e (fun g => { g with tile := g.tile.map (fun r => { r with sending := true }) })).sendsOver (e / 64) n t

/-- The ranges that a batch writes. -/
def writeRanges (l : List (Nat × Bytes)) : List (Nat × Nat) := l.map (fun w => (w.1, w.2.length))

/-- The zero-fills of a set of writes count for the owner of the window that each goes through (R61). -/
def State.countWrites (s : State) (ws : List (Nat × Bytes)) (wins : List Nat) : State :=
  (wins.foldl insSet []).foldl (fun s w =>
    s.countFills w (writeRanges (((ws.zip wins).filter (fun x => x.2 == w)).map (·.1)))) s

/-- A tile without a stamp: residuals are written, payloads sent, the outcome follows (R166). -/
def State.finishPlain (s : State) (e n t : Nat) (x : Stream) (r : TileRun) : State :=
  let ws := (r.batch.map (·.writes)).getD []
  let ranges := writeRanges ws
  if !s.rangesServe ranges then s.abortTile e stRETRY false
  else if s.fillHolds ranges true || s.needsEntry ranges then s
  else match s.ownAccess (.engine e) .wr ranges with
  | (some _, s) => s
  | (none, s) =>
  let s := ws.foldl (fun s w => s.store w.1 w.2) (s.countWrites ws ((r.batch.map (·.wins)).getD []))
  let s := s.sendTile e n t x
  if r.stale then s.endTile n t ⟨.stale, stSTALE, ((s.stream n).getD x).satTiles.contains t⟩
  else match s.stream n with
    | some y => if y.unanswered.any (fun u => u.1 == t) then s else s.endTile n t (y.goodEnd t)
    | none => s

/-- The granule and the ranges that a batch writes. -/
def Batch.ranges (b : Batch) : List (Nat × Nat) := (b.granule * granuleBytes, granuleBytes) :: writeRanges b.writes

/-- An accepted batch has its entries in the dirty tables from its acceptance on, so that it falls in the cycle that is
open then and its writes never wait for room (R436, R446, assumption 196). -/
def State.takeEntries (s : State) (b : Batch) : State :=
  (b.granule :: rangeGranules (writeRanges b.writes)).foldl (fun s g => s.dirtyBlocks g []) s

/-- Acceptance of a commit batch (R151, R154). -/
def State.acceptBatch (s : State) (e : Nat) : State :=
  match (s.engine e).tile with
  | none => s
  | some r =>
    let n := r.entry.stream
    let t := r.entry.tile
    match r.batch, s.stream n with
    | some b, some x =>
      if !r.finished || r.sending then s
      else if r.stale || x.desc.gatherOnly then s.finishPlain e n t x r
      else
        let g := b.granule
        let rg := regionOfGranule g
        if (s.region rg).commit.length ≥ 4 || s.needsEntry b.ranges then s
        else
          let (st, s) := s.stampRead g
          match st.map (fun st => stampIs (stampDist x.desc.step st)) with
          | some .next =>
            let b := { b with cycle := if s.mirroredAt g && s.pair.state == PairState.active then some s.cyc.cycle else none }
            let s := (s.takeEntries b).modRegion rg (fun q => { q with commit := q.commit ++ [b] })
            let s := s.modHome (fun h => { h with reserved := h.reserved.map (fun z =>
              if z.1 == g && z.2.1 == e then (z.1, z.2.1, true) else z) })
            ((s.sendTile e n t x).noteAccepted n t (s.mirroredAt g)).retryStampSets
          | none => s.abortTile e stPOISON false
          | some _ =>
            -- the batch is discarded; the tile goes on as a stale one (R151, R164)
            (s.modEngine e (fun q => { q with tile := some { r with stale := true, finished := false, batch := none },
                                              gbuf := [] })).dropReservation g e
    | _, _ => s

/-- COMMIT_BATCH_ACCEPT (R154). -/
def execCommitBatchAccept (engine : Nat) (s : State) : Host.Outcome State Fault Refusal :=
  onUnit (decide (engine < 768)) (s.acceptBatch engine)

/-- An accepted batch is written, the stamp last (R154): the reservation ends, the tile is updated, or waits for the
acknowledgement of the cycle that was open at the acceptance (R436, R446). -/
def State.writeBatch (s : State) (b : Batch) : State :=
  let g := b.granule
  let s := b.writes.foldl (fun s w => s.store w.1 w.2) (s.countWrites b.writes b.wins)
  let s := ((s.setStamp g b.stamp.toNat).dirtyBlocks g []).dropPlaces (· == .batch g)
  let s := s.modRegion (regionOfGranule g) (fun q => { q with commit := q.commit.erase b })
  let s := s.modHome (fun h => { h with reserved := h.reserved.filter (fun z => !(z.1 == g && z.2.2)) })
  let s := match s.stream b.stream with
    | none => s
    | some x =>
      match b.cycle with
      | some c =>
        if s.pair.state == PairState.active then s.modStream b.stream (fun x => { x with waitCycle := x.waitCycle ++ [(b.tile, c)] })
        else s.endTile b.stream b.tile (x.goodEnd b.tile)
      | none => s.endTile b.stream b.tile (x.goodEnd b.tile)
  (s.resumeStamp g).releaseWb (regionOfGranule g)

/-- An accepted batch is written unless it must wait: for the queues of its stack (R26), for a zero-fill or a
dirty-table entry (R49, R361), and for the holders of its lines, among them the sharers granted during the reservation,
which are invalidated first (R66, R438). -/
def State.tryBatch (s : State) (b : Batch) : Bool × State :=
  if !s.rangesServe b.ranges || s.fillHolds (writeRanges b.writes) true || s.needsEntry b.ranges then (false, s)
  else match s.ownAccess (.batch b.granule) .wr b.ranges with
    | (some _, s) => (false, s)
    | (none, s) => (true, s.writeBatch b)

def State.stampWrite (s : State) (g : Nat) : State :=
  match (s.region (regionOfGranule g)).commit.find? (fun b => b.granule == g) with
  | none => s
  | some b => (s.tryBatch b).2

/-- STAMP_WRITE (R154). -/
def execStampWrite (granule : Nat) (s : State) : Host.Outcome State Fault Refusal :=
  onUnit (decide (granule < 12 * stackGranules)) (s.stampWrite granule)

/-- A line that a batch writes before its holders have answered: a mark under way is written first, every holder is
sent `SNP_INV`, and dirty data that still comes back does not go over the batch (R154, R438, assumption 191). Where a
transaction is open on the line, its end sends the snoops (`State.closeSnoop`). -/
def State.forceLine (s : State) (b : Batch) (line : Nat) : State :=
  let s := s.markDone line
  let mine := (writeRanges b.writes).filter (fun r => decide (r.1 < 64 * line + 64 ∧ 64 * line < r.1 + r.2))
  let s := match s.txn line with
    | some _ => s
    | none =>
      let ags := ((s.dirEnt line).map Dir.ags).getD []
      if ags.isEmpty then s else s.openTxn line (.engine b.granule) (ags.map (fun a => (a, .inv)))
  s.modHome (fun h => { h with txns := amod h.txns line (fun t => { t with keeps := t.keeps ++ mine }) })

/-- An accepted batch is written now: a region stops, or what the batch belongs to may wait no longer (R57, R154). -/
def State.flushBatch (s : State) (b : Batch) : State :=
  match s.tryBatch b with
  | (true, s) => s
  | (false, s) => ((s.heldLines b.ranges).foldl (fun s n => s.forceLine b n) s).writeBatch b

/-- Write every accepted batch of a region before it stops (R154). -/
def State.flushCommits (s : State) (g : Nat) : State := (s.region g).commit.foldl (fun s b => s.flushBatch b) s

/-! ### Tiles held at the descriptor stage -/

/-- The lookup of a held tile has changed: it waits on, ends with the status of its page, or goes to its cluster. -/
def State.relLookDone (s : State) (n : Nat) (t : Nat) (l : List PageLook) : State :=
  let drop (s : State) : State := s.modStream n (fun x => { x with relLooks := x.relLooks.filter (fun r => r.1 != t) })
  let fail (s : State) (st : Nat) : State :=
    match (s.stream n).bind (fun x => x.release.find? (fun q => q.tile == t)) with
    | some q => ((drop s).modStream n (fun x => { x with release := x.release.erase q })).stopTile q st
    | none => drop s
  match s.judge l with
  | .wait _ _ _ => (drop s).modStream n (fun x => { x with relLooks := x.relLooks ++ [(t, l)] })
  | .retry => fail s stRETRY
  | .bad _ st => fail s st
  | .ok => drop s

/-- A held tile whose region is known goes to its cluster (R131, R180, R185). -/
def State.releaseTile (s : State) (n : Nat) (x : Stream) (q : QEntry) : State :=
  match s.tileCluster x q.tile with
  | none => s
  | some c =>
    if s.deadEnd c then (s.modStream n (fun x => { x with release := x.release.erase q })).stopTile q stRETRY
    else s.refillOne c

/-- Tiles held at the descriptor stage whose region is not known look it up, and what the lookup finds is judged (R43,
R58); those whose page is known go to their clusters (R180). -/
def State.openRelease (s : State) (n : Nat) : State :=
  match s.stream n with
  | none => s
  | some x =>
    x.release.foldl (fun s q =>
      if (s.tileCluster x q.tile).isSome || x.relLooks.any (fun r => r.1 == q.tile) then s.releaseTile n x q
      else
        let (l, s) := s.lookRange 0 x.desc.stateOp.window (x.desc.stateOp.off + q.tile * x.desc.tileStep) granuleBytes 3
        (s.relLookDone n q.tile l).releaseTile n x q) s

/-! ### Norm groups (R162) -/

/-- The exact sum of FP32 values, if all are finite. -/
def exactSum (l : List Word32) : Option Val :=
  if l.any (fun w => !(f32 w).isFin) then none else some (l.foldl (fun v w => v.add (f32 w)) Val.zero)

/-- The trust ratio: sqrt(ΣPw) / sqrt(ΣPu) rounded once, 1 when a sum is zero or not finite; the flag
is set when one is not finite. -/
def trustRatio (pw pu : List Word32) : Word32 × Bool :=
  match exactSum pw, exactSum pu with
  | some a, some b =>
    if (a.mag).1 = 0 ∨ (b.mag).1 = 0 then (0x3F800000#32, false) else (toF32 ((a.div b).sqrt), false)
  | _, _ => (0x3F800000#32, true)

/-- Members of a group that the stream selects. -/
def Stream.members (x : Stream) (g : Group) : List Nat := x.selTiles.filter (fun t => g.holds t)

/-- The status of the lowest tile of a group that failed in pass 1 or before it. -/
def Stream.groupFailure (x : Stream) (g : Group) : Option Nat :=
  ((x.members g).filterMap (fun t =>
    match afind g.failed t with
    | some st => some st
    | none => match afind x.outcomes t with
      | some o => if o.ended == .failed then some o.status else none
      | none => none)).head?

/-- Every selected tile of the group has finished pass 1. -/
def Stream.pass1Over (x : Stream) (g : Group) : Bool :=
  (x.members g).all (fun t => (g.pass1.any (fun p => p.1 == t)) || (afind g.failed t).isSome || (afind x.outcomes t).isSome)

/-- The entry of a tile that goes on after pass 1. -/
def State.pass2Entry (s : State) (n : Nat) (x : Stream) (t : Nat) (sat : Bool) : QEntry :=
  ⟨n, .lamb2, false, x.satTiles.contains t || sat, false, false, .none, ((s.tileCluster x t).getD 0) % 8, t, 0⟩

/-- Complex 0 computes the ratio of a group and releases pass 2, or stops the group (R162). -/
def State.lambRatio (s : State) (n i : Nat) : State :=
  match s.stream n with
  | none => s
  | some x =>
    match (x.groups)[i]? with
    | none => s
    | some g =>
      if g.computed || g.skip || !g.reached || (x.members g).isEmpty || !x.pass1Over g then s
      else
        let s := s.modStream n (fun x => x.modGroup i (fun g => { g with computed := true }))
        match x.groupFailure g with
        | some st =>
          let left := (x.members g).filter (fun t => (afind x.outcomes t).isNone)
          if st = stSTALE then
            -- stale tiles send their weights as they stand (R164)
            let mine := left.map (betweenPasses n)
            let s := (s.modHome (fun h => { h with reserved := h.reserved.filter (fun z => !mine.contains z.2.1) })).freeHolds
            ((left.foldl (fun s t => s.releaseEntry n (s.pass2Entry n x t false)) s).openRelease n).freeHolds
          else (left.foldl (fun s t => s.failTile n t st) s).freeHolds
        | none =>
          let (r, bad) := trustRatio (g.pass1.map (·.2.1)) (g.pass1.map (·.2.2))
          let (st, s) := s.writeOp (.ratio n i) { x.desc.groups with off := x.desc.groups.off + 16 * i + 8, len := 8 }
            (toLe 4 r.toNat ++ toLe 4 x.desc.step.toNat)
          -- not computed yet while the write waits for its page, a zero-fill or the holders of its line (R43, R49, R66)
          -- it is tried again after RETRY_LATER; with any other status pass 2 goes on (assumption 197)
          let again (s : State) : State := s.modStream n (fun x => x.modGroup i (fun g => { g with computed := false }))
          if isWait st then again s else
          let s := s.endOp (.ratio n i)
          if st = stRETRY then again s else
          let s := s.when bad (fun s => (x.members g).foldl (fun s t => s.satTile n t) s)
          let s := s.modStream n (fun x => x.modGroup i (fun g => { g with ratio := r, ratioStep := x.desc.step }))
          (((x.members g).foldl (fun s t => s.releaseEntry n (s.pass2Entry n x t bad)) s).openRelease n).freeHolds

/-- LAMB_RATIO_COMPUTE (R162). -/
def execLambRatioCompute (stream group : Nat) (s : State) : Host.Outcome State Fault Refusal :=
  onUnit (decide (stream < 16384)) (s.lambRatio stream group)

/-! ### Misses that engines wait for -/

/-- A miss closes for the tiles held at the descriptor stage. -/
def State.releaseMiss (s : State) (g w c : Nat) (status : Option Nat) : State :=
  s.streams.foldl (fun s e =>
    let mine := e.2.relLooks.filter (fun r => r.2.any (fun p => p.on g w c))
    let s := mine.foldl (fun s r =>
      let (l, s) := s.closeLooks g w c status r.2
      s.relLookDone e.1 r.1 l) s
    if mine.isEmpty then s else s.openRelease e.1) s

/-- It closes for the entries that engines have claimed. -/
def State.claimMiss (s : State) (g w c : Nat) (status : Option Nat) : State :=
  s.engines.foldl (fun s e =>
    match e.2.claim with
    | none => s
    | some k =>
      if k.looks.any (fun p => p.on g w c) then
        let (l, s) := s.closeLooks g w c status k.looks
        (s.modEngine e.1 (fun g => { g with claim := g.claim.map (fun k => { k with looks := l }) })).runClaim e.1
      else s) s

/-- A miss entry closes for requests, for engines and for the descriptor stage (R43, R46). -/
def State.missClosed (s : State) (g w c : Nat) (status : Option Nat) : State :=
  ((s.closeMiss g w c status).releaseMiss g w c status).claimMiss g w c status

/-- MISS_LIMIT_EXPIRE (R46): a miss has waited for the window's MISS_LIMIT; its waiters are answered
RETRY_LATER. -/
def State.missExpire (s : State) (g w c : Nat) : State :=
  match (s.region g).miss.find? (fun m => m.window == w && m.chunk == c) with
  | none => s
  | some m =>
    match m.dueAt with
    | none => s
    | some t => (s.reach t).missClosed g w c (some stRETRY)

def execMissLimitExpire (region window chunk : Nat) (s : State) : Host.Outcome State Fault Refusal :=
  onUnit (decide (region < 12 ∧ window < 1024)) (s.missExpire region window chunk)

/-! ### Resets of clusters (R189) -/

/-- Open tiles of a cluster's accumulator SRAM are lost (R139). -/
def State.loseOpen (s : State) (c : Nat) : State :=
  let open_ := (s.cluster c).tiles.map (·.2)
  let s := s.modCluster c (fun k => { k with tiles := [] })
  open_.foldl (fun s t => s.tileLost t.stream t.tile) s

/-- Steps 1 to 4 of a cluster reset. -/
def State.clusterReset (s : State) (c : Nat) : State :=
  if (s.cluster c).inReset then s
  else
    let s := s.modCluster c (fun k => { k with inReset := true })
    let es := span (8 * c) 8
    let s := es.foldl (fun s e => (s.abortTile e stRETRY false).unclaim e) s
    let s := es.foldl (fun s e =>
      match (s.engine e).keep with
      | some q => (s.modEngine e (fun g => { g with keep := none })).stopTile q stRETRY
      | none => s) s
    -- entries of the queue, entries held, copies coming in, and entries being copied out to a thief
    let mine := (s.cluster c).entries
    let s := mine.foldl (fun s q => s.stopTile q stRETRY) s
    let s := s.dropEntries c (fun _ => true)
    let s := (span (8 * (c / 8)) 8).foldl (fun s d =>
      let out := (s.cluster d).transit.filter (fun q => q.cluster == c % 8 && q.loc == .slot)
      let s := (out.foldl (fun s q => s.stopTile q stRETRY) s).dropClaims (fun e q => e / 8 == d && out.contains q)
      s.dropEntries d (fun q => out.contains q && (s.cluster d).transit.contains q)) s
    let s := s.modCluster c (fun k => { k with sums := [], bufs := [], noSteal := false })
    es.foldl (fun s e => s.modEngine e (fun g =>
      { g with scratch := [], badBytes := [], badWords := [], v := [], sc := [], p := [], a := [], q := [], gbuf := [], prog := none, store := [],
               reload := false, lastVi := none, testing := !g.online })) s

/-- Step 5 of a cluster reset, once its self-tests have ended: open tiles are reported, held entries
enter the queue (R180, R188). -/
def State.clusterResetEnd (s : State) (c : Nat) : State :=
  if !(s.cluster c).inReset || (span (8 * c) 8).any (fun e => (s.engine e).testing) then s
  else
    let s := ((s.loseOpen c).modCluster c (fun k => { k with inReset := false })).refill c
    s.finishWaiters 0x0B01 c

/-! ### Rows -/

/-- ENGINE_FAULT (R186). -/
def execEngineFault (engine : Nat) (cause : EngCause) (s : State) : Host.Outcome State Fault Refusal :=
  onUnit (decide (engine < 768)) (s.engineFault engine cause)

/-- TILE_WATCHDOG (R186): the tile has run for 2^(16 + TILE_LIMIT) A-cycles; none pass while the die has no A-clock. -/
def execTileWatchdog (engine : Nat) (s : State) : Host.Outcome State Fault Refusal :=
  onUnit (decide (engine < 768))
    (match (s.engine engine).tile with
     | none => s
     | some r =>
       match s.aMoment (dieOfEngine engine) r.started (2 ^ (16 + r.limit)) with
       | some t => (s.reach t).engineFault engine .watchdog
       | none => s)

/-- `TILE_LIMIT` and `STEAL_SCOPE` of an ENGINE_SET are in range (R191). -/
def engCtlOk (c : Cmd) : Bool := decide (bitf (arg c 4 4) 11 8 ≤ 8 ∧ bitf (arg c 4 4) 1 0 ≤ 1)

/-- The self-test of an engine has ended: ENGINE_SET is answered once all that it started have (R191). The
object of the waiting command is the set of its engines. -/
def State.testEnded (s : State) (e : Nat) : State :=
  (s.vis.filterMap (fun v => v.2.cmd.bind (fun b =>
      if b.opcode == 0x0601 && b.ready.isNone && tbit b.object e then some (v.1, b) else none))).foldl (fun s v =>
    let left := v.2.object - 2 ^ e
    if left = 0 then
      s.answerCmd v.1 0x0601 v.2.cmd v.2.keyed true (if engCtlOk v.2.cmd then stOK else stBOUND) 0x44 []
    else s.modVi v.1 (fun x => { x with cmd := some { v.2 with object := left } })) s

/-- SELF_TEST_DONE (R188): outside a cluster reset the engine is online when it passed; inside one the
result stands for the end of the reset. -/
def execSelfTestDone (engine : Nat) (passed : Bool) (s : State) : Host.Outcome State Fault Refusal :=
  onUnit (decide (engine < 768))
    (if (s.engine engine).testing then
      (s.modEngine engine (fun g =>
        { g with testing := false, online := passed, offline := !passed,
                 faults := if passed then [] else g.faults })).testEnded engine
     else s)

/-- CLUSTER_RESET_FAULT (R189): an accumulator or steal-buffer fault starts a cluster reset. -/
def execClusterResetFault (cluster : Nat) (s : State) : Host.Outcome State Fault Refusal :=
  onUnit (decide (cluster < 96)) (s.clusterReset cluster)

/-- CLUSTER_RESET_END (R189). -/
def execClusterResetEnd (cluster : Nat) (s : State) : Host.Outcome State Fault Refusal :=
  onUnit (decide (cluster < 96)) (if (s.region (cluster / 8)).inReset then s else s.clusterResetEnd cluster)

/-! ### The end of a stream -/

/-- ANCHOR_USED: the anchor that the stream ran with, or the fall-back ANCHOR of a pre-pass stream that ended before its
anchor was fixed (R125). In a gather stream, whose Confluence block is ignored (R121), the value is open (assumption
176). -/
def Stream.anchorUsed (x : Stream) : Nat :=
  match x.anchor with
  | some a => wrapInt 8 a
  | none => if x.desc.gatherOnly then (Config.noAnchor x.desc.cstream).toNat else wrapInt 8 x.desc.anchor

/-- The record of R125. -/
def Stream.confRecord (x : Stream) : Bytes :=
  toLe 2 (match x.maxExp with | some e => wrapInt 16 e | none => 0x8000) ++
  toLe 1 x.anchorUsed ++
  toLe 1 (b2n (x.desc.prePass && !x.desc.gatherOnly) + 2 * b2n (x.satElems != 0) + 4 * b2n (x.nfElems != 0) + 8 * b2n x.anchor.isSome) ++
  toLe 4 x.spilled ++ toLe 8 x.satElems ++ toLe 8 x.nfElems ++ toLe 4 x.discarded ++ toLe 4 x.lost

def Stream.countEnd (x : Stream) (e : Ended) : Nat := (x.outcomes.filter (fun o => o.2.ended == e)).length

/-- The lowest failed tile. -/
def Stream.firstFailed (x : Stream) : Option Nat :=
  (x.selTiles.find? (fun t => match afind x.outcomes t with | some o => o.ended == .failed | none => false))

/-- `STATUS` of a stream that ends (R168). -/
def Stream.finalStatus (x : Stream) : Nat :=
  if x.cancelled && x.outcomes.any (fun o => o.2.status == stCANCELLED) then stCANCELLED
  else match x.firstFailed with
    | some t => ((afind x.outcomes t).map (·.status)).getD stOK
    | none =>
      match x.firstFail.find? (· != 0) with
      | some st => st
      | none =>
        if !x.satTiles.isEmpty then stSATURATED
        else if x.countEnd .stale = x.selTiles.length && !x.selTiles.isEmpty then stSTALE
        else stOK

/-- The completion record (R167). -/
def Stream.completion (x : Stream) : Bytes :=
  toLe 2 x.desc.cstream ++ toLe 2 x.finalStatus ++ toLe 4 x.desc.step.toNat ++ toLe 4 x.selTiles.length ++
  toLe 4 (x.countEnd .updated) ++ toLe 4 (x.countEnd .stale) ++ toLe 4 (x.countEnd .failed) ++
  toLe 4 (x.firstFailed.getD 0xFFFFFFFF) ++ toLe 4 x.satTiles.length ++ x.confRecord ++
  (List.range 8).flatMap (fun k => toLe 4 (lget 0 x.delivered k) ++ toLe 2 (lget 0 x.firstFail k) ++ zeros 2)

/-- Every selected tile has an outcome, every gather write an answer, every pair cycle its
acknowledgement (R167, R436). -/
def Stream.over (x : Stream) : Bool :=
  x.openNow && x.unanswered.isEmpty && x.waitCycle.isEmpty && x.selTiles.all (fun t => (afind x.outcomes t).isSome)

def State.streamEnd (s : State) (n : Nat) : State :=
  match s.stream n with
  | none => s
  | some x =>
    if !x.over then s
    else
      let (st, s) := if x.desc.complete.present then s.writeOp (.complete n) x.desc.complete x.completion else (stOK, s)
      if isWait st then s
      -- the page is looked up again (assumption 177)
      else if st = stRETRY then s.endOp (.complete n) else
      let s := (s.endOp (.complete n)).modStream n (fun x => { x with openNow := false, wsUsed := [] })
      let s := s.post x.owner evSTEP_DONE x.finalStatus (evStream n)
      s.freeOrphans

/-- WEIR_PACE_RELEASE (R293): the rate toward its destination allows a region's next gather write, and the region hands
it on. The engine whose tile it is the last write of is then free (R181). -/
def execWeirPaceRelease (region : Nat) (s : State) : Host.Outcome State Fault Refusal :=
  onUnit (decide (region < 12)) (
    match (s.region region).paced with
    | [] => s
    | o :: r =>
      match o.dest, o.ref with
      | .node n, some (st, ti, d) =>
        let s := s.reach (tget 0 s.fabric.paceAt n)
        match s.launch o n with
        | (.waits, _) => s
        | (x, t) =>
          let t := t.modRegion region (fun q => { q with paced := r })
          let t := t.modFabric (fun f =>
            { f with paceAt := tset 0 f.paceAt n (t.now + paceTicks (wireBytes o.pkt) (t.rateOf n true)) })
          let t := if x = .abandoned then
              (t.modStream st (fun y => { y with abandoned := y.abandoned ++ [(ti, d)] })).gatherAnswered st ti d stRETRY
            else t
          t.sendsOver region st ti
      | _, _ => s.modRegion region (fun q => { q with paced := r }))

/-- STREAM_END (R167). -/
def execStreamEnd (stream : Nat) (s : State) : Host.Outcome State Fault Refusal :=
  onUnit (decide (stream < 16384)) (s.streamEnd stream)

end Sys2Proof.Machine
end

