-- ==== Sys2Proof/Machine/EngineCmds.lean ====
section
/-! DEFINITION. The commands of the update engines (R189, R191, R193, R403, R404). -/
namespace Sys2Proof.Machine

open Sys2Proof

/-- The engine holds a tile, or an entry that it has taken and not started. -/
def Engine.busy (g : Engine) : Bool := g.tile.isSome || g.claim.any (·.arrived)

/-- A self-test of scratch and program store starts (R188). It overwrites both; no later tile sees the pattern that it
leaves, since the next one loads its program and clears the scratch of its VI (assumption 179). -/
def Engine.selfTest (g : Engine) : Engine :=
  { g with testing := true, scratch := [], store := [], badBytes := [], badWords := [], prog := none, lastVi := none }

/-- Set the online bits of a cluster (R191): the engines whose self-test starts. An engine that holds a tile goes
offline once the tile is over. -/
def State.setOnline (s : State) (c bits : Nat) : List Nat × State :=
  (span (8 * c) 8).foldl (fun (a : List Nat × State) e =>
    let g := a.2.engine e
    let want := tbit bits (e % 8)
    if want && !g.online && !g.testing then (a.1 ++ [e], a.2.modEngine e Engine.selfTest)
    else if want && g.leave then (a.1, a.2.modEngine e (fun g => { g with leave := false }))
    else if !want && g.online && g.busy then (a.1, a.2.modEngine e (fun g => { g with leave := true }))
    else if !want && g.online then
      (a.1, (a.2.idleEnd e).modEngine e (fun g => { g with online := false, claim := none }))
    else a) ([], s)

/-- ENGINE_SET (R191). -/
def execEngineSet (page : Nat) (c : Cmd) (s : State) : Host.Outcome State Fault Refusal :=
  s.command page 0x0601 c (lenIs c 104) [(0, 2, 0xFFF), (2, 2, 0), (4, 4, 0xF03)] .pf false (fun s =>
    let rs := (List.range 12).filter (fun g => tbit (arg c 0 2) g)
    let lim := bitf (arg c 4 4) 11 8
    let sc := bitf (arg c 4 4) 1 0
    let s := rs.foldl (fun s g => s.modRegion g (fun r =>
      { r with tileLimit := if lim ≤ 8 then lim else r.tileLimit, stealScope := if sc ≤ 1 then sc else r.stealScope })) s
    let (started, s) := (rs.flatMap (fun g => span (8 * g) 8)).foldl (fun (a : List Nat × State) k =>
      let (l, s) := a.2.setOnline k (arg c (8 + k) 1)
      (a.1 ++ l, s)) ([], s)
    if !started.isEmpty then (.wait (started.foldl (fun n e => n + 2 ^ e) 0), s)
    else (if engCtlOk c then .ok else .bound 0x44, s))

/-- A-cycles of the engines of a cluster that are idle now. -/
def State.idleNow (s : State) (c : Nat) : Nat :=
  (span (8 * c) 8).foldl (fun n e => n + match (s.engine e).idleAt with | some t => s.aCyclesSince (e / 384) t | none => 0) 0

/-- A-cycles of the tiles that engines of a cluster hold now. -/
def State.busyNow (s : State) (c : Nat) : Nat :=
  (span (8 * c) 8).foldl (fun n e => n + match (s.engine e).tile with | some r => s.aCyclesSince (e / 384) r.started | none => 0) 0

/-- The record of R193. -/
def State.clusterRecord (s : State) (c : Nat) : Bytes :=
  let k := s.cluster c
  toLe 8 k.tilesRun ++ toLe 8 (k.busyCyc + s.busyNow c) ++ toLe 8 (k.idleCyc + s.idleNow c) ++ toLe 8 k.stolenIn ++ toLe 8 k.stolenOut ++
  toLe 4 k.faultsHw ++ toLe 4 k.faultsProg ++ toLe 4 k.reloads ++ toLe 2 k.queue.length ++ toLe 2 k.queueMax ++
  toLe 1 ((List.range 8).foldl (fun n e => n + b2n (s.engine (8 * c + e)).online * 2 ^ e) 0) ++ zeros 7

/-- CLUSTER_STATS (R193): QUEUE_MAX is cleared when it is read. -/
def execClusterStats (page : Nat) (c : Cmd) (s : State) : Host.Outcome State Fault Refusal :=
  s.command page 0x0603 c (lenIs c 16) (opRsv 0) .pf false (fun s =>
    s.statsTo page (opArg c 0) ((List.range 96).flatMap s.clusterRecord) (fun s =>
      (List.range 96).foldl (fun s k => s.modCluster k (fun x => { x with queueMax := 0 })) s))

/-- CLUSTER_RESET (R189, R404): answered when the reset ends; a cluster in reset already is not reset again. -/
def execClusterReset (page : Nat) (c : Cmd) (s : State) : Host.Outcome State Fault Refusal :=
  s.command page 0x0B01 c (lenIs c 1) [] .pf false (fun s =>
    let k := arg c 0 1
    if k ≥ 96 then (.bound 0x40, s)
    else if (s.region (k / 8)).inReset then (.undone, s)
    else (.wait k, s.clusterReset k))

end Sys2Proof.Machine
end

