-- ==== Sys2Proof/Machine/Heartbeat.lean ====
section
/-! DEFINITION. Heartbeats received on the two paths of a pair (R353 to R355). -/
namespace Sys2Proof.Machine

open Sys2Proof

/-- A valid heartbeat: its count is later than the last one; eight in a row clear the degraded alarm
(R354, R355). -/
def HbPath.beat (p : HbPath) (n : Word32) (now : Nat) : HbPath :=
  if later 32 n.toNat p.last.toNat then
    { p with last := n, at_ := now, lastOk := now, misses := 0, valid := p.valid + 1,
             degraded := p.degraded && decide (p.valid + 1 < 8) }
  else p

def State.beatRein (s : State) (n : Nat) : State :=
  s.modPair (fun p => { p with rein := p.rein.beat (BitVec.ofNat 32 n) s.now })

def State.beatSb (s : State) (n : Nat) : State :=
  s.modPair (fun p => { p with sb := p.sb.beat (BitVec.ofNat 32 n) s.now })

end Sys2Proof.Machine
end

