-- ==== Sys2Proof/Machine/Transport.lean ====
section
/-! DEFINITION. The transport (R262 to R283): acceptance of packets and assembly of messages,
resending and abandoning, weir marks, echoes and rates, sluice stops, writeback acknowledgements, and
what a failing path does. -/
namespace Sys2Proof.Machine

open Sys2Proof

/-! ### Acceptance (R266 to R268, R273) -/

/-- The weir mark of an occupancy (R273). -/
def markOf (used size : Nat) : Nat :=
  let pct := 100 * used
  if pct < 25 * size then 0 else if pct < 40 * size then 1 else if pct < 55 * size then 2 else 3

def isReq (t : Nat) : Bool := decide (1 ≤ t ∧ t ≤ 4)
def isCol (t : Nat) : Bool := t == 8 || t == 9

/-- The level to which a link die raises the mark of an arriving REQ or COL packet (R273). -/
def LinkDie.raises (d : LinkDie) (p : Pkt) : Nat :=
  if isCol p.ptype then markOf d.colOcc 0x1000000
  else if isReq p.ptype then markOf d.reqOcc 0x800000 else 0

/-- The destination keeps the largest mark of a source and class that it has received since its last echo,
on whichever link die (R274). -/
def State.keepMark (s : State) (node : Nat) (col : Bool) (m : Nat) : State :=
  if m = 0 then s else
  let mine (e : Nat × Bool × Nat × Option Nat) : Bool := e.1 == node && e.2.1 == col
  s.modFabric (fun f =>
    { f with marks := if f.marks.any mine then
        f.marks.map (fun e => if mine e then (e.1, e.2.1, max e.2.2.1 m, e.2.2.2) else e)
      else f.marks ++ [(node, col, m, none)] })

/-- A REQ or COL packet arrives at link die `l`: its mark is raised, never lowered, and remembered (R273, R274). -/
def State.weirMark (s : State) (l : Nat) (p : Pkt) : Pkt × State :=
  let m := (s.die l).raises p
  let p' := { p with weir := max p.weir m }
  if !(isReq p.ptype || isCol p.ptype) then (p, s)
  else (p', (s.when (decide (p.weir < m)) (fun s => s.modDie l (·.stat 0x38 1))).keepMark p.srcNode (isCol p.ptype) p'.weir)

/-- The floor moves on; states below it are discarded (R266). -/
def AccCtx.arrive (c : AccCtx) (p : Pkt) (now : Nat) : AccCtx :=
  let f := if later 32 p.floor.toNat c.floor.toNat then p.floor else c.floor
  { c with floor := f, usedAt := now, states := c.states.filter (fun x => !later 32 f.toNat x.1) }

/-- The message of an assembly entry (R259): the packets in order. -/
def assemble (ps : List Pkt) (first : Pkt) : Pkt :=
  let nth (i : Nat) : List Pkt := ps.filter (fun p => p.msgIdx == i)
  let head := ((nth 0).head?).getD first
  { head with weir := ps.foldl (fun m p => max m p.weir) 0,
              payload := (List.range (first.msgLast + 1)).flatMap (fun i => (((nth i).head?).map (·.payload)).getD []) }

def LinkDie.modCtx (d : LinkDie) (node ssg : Nat) (f : AccCtx → AccCtx) : LinkDie :=
  { d with ctxs := d.ctxs.map (fun c => if c.node == node && c.ssg == ssg then f c else c) }

/-- What a link die does with an originated packet (R267). -/
inductive Arrival where
  | drop (stat : Nat)
  | dupAnswer
  | take
deriving DecidableEq, Repr

/-- The first row of R267 that applies to a packet, after its context took its floor. -/
def arrival (l : Nat) (c : AccCtx) (asms : List Asm) (p : Pkt) : Arrival :=
  let q := p.seq.toNat
  let below := later 32 c.floor.toNat q
  if q % 4 ≠ l ∨ (!below && decide ((q + 2 ^ 32 - c.floor.toNat) % 2 ^ 32 ≥ 8192)) then .drop 0x20
  else if below then .drop 0x1C
  else
    match afind c.states q with
    | some 2 => if p.msgIdx = 0 then .dupAnswer else .drop 0x10
    | some _ =>
      match asms.find? (fun a => a.node == p.srcNode && a.ssg == p.ssg && a.seq == p.seq) with
      | some a => if a.pkts.any (fun x => x.msgIdx == p.msgIdx) then .drop 0x10 else .take
      | none => .drop 0x10
    | none => .take

/-- Keep an accepted packet; the message goes to the ingress when it is whole (R267, R268). -/
def LinkDie.keep (d : LinkDie) (p : Pkt) (now : Nat) : LinkDie :=
  let d := d.stat 0 1
  let n := pktBytes p
  let d := { d with reqOcc := if isReq p.ptype then d.reqOcc + n else d.reqOcc,
                    colOcc := if isCol p.ptype then d.colOcc + n else d.colOcc }
  let d := d.modCtx p.srcNode p.ssg (fun c =>
    if (afind c.states p.seq.toNat).isSome then c else { c with states := tput c.states p.seq.toNat 1 })
  let mine (a : Asm) : Bool := a.node == p.srcNode && a.ssg == p.ssg && a.seq == p.seq
  let old := d.asms.find? mine
  let got := ((old.map (·.pkts)).getD []) ++ [p]
  if got.length = p.msgLast + 1 then
    { d with asms := d.asms.filter (fun a => !mine a), inbox := d.inbox ++ [assemble got p] }
  else
    { d with asms := d.asms.filter (fun a => !mine a) ++
        [⟨p.srcNode, p.ssg, p.seq, (old.map (·.since)).getD now, got⟩] }

/-- An originated packet arrives at link die `l`. -/
def State.originated (s : State) (l : Nat) (p : Pkt) : State :=
  let (p, s) := s.weirMark l p
  let d := s.die l
  let known := d.ctxs.any (fun c => c.node == p.srcNode && c.ssg == p.ssg)
  if !known && decide (d.ctxs.length ≥ 8192) then
    let s := s.modDie l (·.stat 0x28 1)
    if p.msgIdx = 0 then s.replyEdge (.fabric l) p none 7 stRETRY else s
  else
    let d := if known then d else { d with ctxs := d.ctxs ++ [⟨p.srcNode, p.ssg, p.floor, [], s.now⟩] }
    let d := d.modCtx p.srcNode p.ssg (fun c => c.arrive p s.now)
    match d.ctxs.find? (fun c => c.node == p.srcNode && c.ssg == p.ssg) with
    | none => s
    | some c =>
      match arrival l c d.asms p with
      | .drop st => s.setDie l (d.stat st 1)
      | .dupAnswer => (s.setDie l (d.stat 0x18 1)).replyEdge (.fabric l) p none 7 stDUP
      | .take => s.setDie l (d.keep p s.now)

/-- The message of a granule record that is whole goes to one of the four record buffers of its region; with all four in
use it waits in the buffers of link die 0 until one is free (R365). -/
def State.recordIn (s : State) (p : Pkt) : State :=
  let r := recordOf p
  if (s.region (regionOfGranule r.granule)).recBuf.length < 4 then
    s.modRegion (regionOfGranule r.granule) (fun g => { g with recBuf := g.recBuf ++ [(r, p.ptype)] })
  else s.modDie 0 (fun d => { d with inbox := d.inbox ++ [p] })

/-- A message of the Rein link has been received whole: the floor passes over the numbers that follow each other. -/
def Fabric.reinGot (f : Fabric) (n : Nat) : Fabric :=
  let seen := insSet f.reinSeen n
  let k := ((List.range seen.length).find? (fun i => !seen.contains ((f.reinFloor.toNat + i) % 2 ^ 32))).getD seen.length
  let passed := (List.range k).map (fun i => (f.reinFloor.toNat + i) % 2 ^ 32)
  { f with reinFloor := f.reinFloor + BitVec.ofNat 32 k, reinSeen := seen.filter (fun x => !passed.contains x) }

/-- A second copy of a Rein message: its number has been received whole (R248, R364). -/
def Fabric.reinOld (f : Fabric) (n : Nat) : Bool := later 32 f.reinFloor.toNat n || f.reinSeen.contains n

/-- A packet of the Rein link arrives (R364): records are assembled, other messages are whole; a second copy that a
hand-over brought is dropped by its number (R248, R250). The assembly entries of the Rein link stand in link die 0
under node number 4096. -/
def State.reinArrive (s : State) (p : Pkt) : State :=
  let deliver (s : State) (m : Pkt) : State :=
    let s := s.modFabric (fun f => f.reinGot m.seq.toNat)
    if m.ptype = 0x20 ∨ m.ptype = 0x27 then s.recordIn m
    else s.modDie 0 (fun d => { d with inbox := d.inbox ++ [m] })
  if p.ptype = 0x0A then s.modDie 0 (fun d => { d with inbox := d.inbox ++ [{ p with srcNode := 4096 }] })
  else if s.fabric.reinOld p.seq.toNat then s
  else if p.msgLast = 0 then deliver s p else
  let d := s.die 0
  let mine (a : Asm) : Bool := a.node == 4096 && a.seq == p.seq
  let old := ((d.asms.find? mine).map (·.pkts)).getD []
  let rest := d.asms.filter (fun a => !mine a)
  if old.any (fun x => x.msgIdx == p.msgIdx) then s
  else if old.length + 1 = p.msgLast + 1 then deliver (s.setDie 0 { d with asms := rest }) (assemble (old ++ [p]) p)
  else s.setDie 0 { d with asms := rest ++ [⟨4096, 0, p.seq, s.now, old ++ [p]⟩] }

/-- The Rein link comes up after both its ports were down: both directions number their messages from 0, and what is
left of messages received in part is gone (assumption 182). -/
def State.reinStart (s : State) : State :=
  let s := s.modFabric (fun f => { f with reinFloor := 0, reinSeen := [] })
  let s := s.modDie 0 (fun d => { d with asms := d.asms.filter (fun a => a.node != 4096), seqs := tset 0 d.seqs 4096 0 })
  { s with outbox := s.outbox.map (fun o => if o.dest == .rein then { o with port := noPort } else o) }

/-- A Rein message leaves the buffer in which it waits. -/
def State.takeRein (s : State) (t : Nat) (payload : Bytes) : State :=
  s.modDie 0 (fun d =>
    match d.inbox.find? (fun p => p.ptype == t && p.payload == payload) with
    | some p => { d with inbox := d.inbox.erase p }
    | none => d)

/-- A packet that a port's receiver has parsed reaches the transport. -/
def State.packetArrive (s : State) (port : Nat) (p : Pkt) : State :=
  let l := dieOfPort port
  if port ≥ 64 then s.reinArrive p
  else if p.ptype = 0x0A then s.modDie l (fun d => { d with inbox := d.inbox ++ [p] })
  else s.originated l p

/-! ### Abandoning and resending (R270, R281) -/

/-- A packet handed back by a port that went down (R281, R250). -/
def State.handBack (s : State) (l : Nat) (o : OutPkt) : State :=
  match o.dest with
  | .host _ => s.emit o
  | .rein => s.emit o
  | .node n =>
    if o.pkt.ptype = 0x0A then s.sendToNode { o with port := noPort } n
    else
      match (s.die l).sends.find? (fun x => x.tag == o.pkt.tag.toNat && x.node == n) with
      | none => s
      | some x =>
        if (s.activePorts n).isEmpty || s.dieDown l then s.abandon l x
        else (s.modDie l (·.stat 0x34 1)).reSpray l o n

/-- Packets that name a port and have not been framed. -/
def Sfq.all (q : Sfq) : List OutPkt := (q.leaf.flatMap (·.2)).map (·.1)

/-- Everything held for a port that goes down: packets in units not freed, snoops, packets in its
leaves, at its instance's shapers and on their way to them. -/
def State.drainPort (s : State) (p : Nat) : List OutPkt × State :=
  let q := s.port p
  let x := s.schedPort p
  let onPort (o : OutPkt) : Bool := (o.port == p) && (match o.dest with | .node _ => true | _ => false)
  let i := instOf p
  let parked := s.sched.shapers.flatMap (fun e => if e.1 / 1024 == i then e.2.fifo.filter onPort else [])
  let out := s.outbox.filter onPort
  let gone := if p < 64 then q.outq.map (·.2.2) ++ q.snpq ++ x.rsp.all ++ x.col.all ++ parked ++ out
              else q.outq.map (·.2.2)
  if p ≥ 64 then (gone, s) else
  let s := s.integrate p
  let s := s.setSchedPort p { (s.schedPort p) with rsp := { x.rsp with leaf := [] }, col := { x.col with leaf := [] } }
  (gone, { s with outbox := s.outbox.filter (fun o => !onPort o),
                  sched := { s.sched with shapers := s.sched.shapers.map (fun e =>
                    if e.1 / 1024 == i then (e.1, { e.2 with fifo := e.2.fifo.filter (fun o => !onPort o) }) else e) } })

/-! ### Rates (R275) -/

/-- An echo of mark `m` for a node and class. -/
def State.cutRate (s : State) (n : Nat) (col : Bool) (m : Nat) : State :=
  let r := rateCut (s.rateOf n col) m
  s.modFabric (fun f => { f with rates := tput f.rates (2 * n + b2n col) (r.1, r.2, s.now) })

/-- A `WEIR_ECHO` word (R274, R277): an acknowledgement of writebacks is for agents and does nothing
here; kinds 2 and 3 are discarded. -/
def State.echoWord (s : State) (port content : Nat) : State :=
  if bitf content 23 22 = 0 ∧ bitf content 35 24 = s.aon.nodeId then
    (s.modDie (dieOfPort port) (·.stat 0x40 1)).cutRate (bitf content 11 0) (tbit content 18) (bitf content 21 20)
  else s

/-! ### The rows -/

/-- SPRAY_WEIGHT_UPDATE (R262): a link die recomputes the weights of its fabric ports from the mean
bytes queued since it last did. -/
def execSprayWeightUpdate (die : Nat) (s : State) : Host.Outcome State Fault Refusal :=
  onUnit (decide (die < 4)) (
    let s := s.reach ((s.schedPort (16 * die)).sAt + us 10)
    (span (16 * die) 16).foldl (fun s p =>
      let s := s.integrate p
      let x := s.schedPort p
      let q := tget 0 x.qacc 8 / max 1 (s.now - x.sAt)
      let s := s.setSchedPort p { x with qacc := tset 0 x.qacc 8 0, sAt := s.now }
      s.modPort p (fun t =>
        { t with queued := q, weight := if t.state == .active then max 1 (15 - q / 16384) else 0 })) s)

/-- Subscriber VI and class of an originated message (R285). -/
def State.sendVi (s : State) (x : Send) : Option Nat × Nat :=
  match x.ref.bind (fun r => s.stream r.1) with
  | some y => (some y.owner, (s.win y.desc.stateOp.window).cls)
  | none => (none, 7)

/-- E2E_TIMEOUT (R270, R281, R282): an unanswered message is sent again, or abandoned, by the limits in force when it
was first sent. -/
def execE2eTimeout (die tag : Nat) (s : State) : Host.Outcome State Fault Refusal :=
  onUnit (decide (die < 4)) (
    match (s.die die).sends.find? (fun x => x.tag == tag) with
    | none => s
    | some x =>
      let s := s.reach (x.lastAt + lCycles (17500 * x.limit))
      if x.resends ≥ x.tries || (s.activePorts x.node).isEmpty then s.abandon die x
      else
        let next := (tget 0 (s.die die).seqs x.node).toNat
        let fl := BitVec.ofNat 32 ((s.die die).floorOf x.node next)
        let s := s.modDie die (fun d =>
          { (d.stat 0x2C 1) with sends := d.sends.map (fun y =>
              if y.tag == tag then { y with resends := y.resends + 1, lastAt := s.now } else y) })
        let (vi, cls) := s.sendVi x
        (packetsOf x.msg).foldl (fun s pk =>
          s.reSpray die ⟨{ pk with resend := true, floor := fl }, .node x.node, vi, cls, noPort, x.ref, x.reg⟩ x.node) s)

/-- ASM_TIMEOUT (R268): an entry still incomplete after 1 ms is discarded; its number is accepted
afresh. -/
def execAsmTimeout (die node ssg : Nat) (seq : Word32) (s : State) : Host.Outcome State Fault Refusal :=
  onUnit (decide (die < 4)) (
    match (s.die die).asms.find? (fun a => a.node == node && a.ssg == ssg && a.seq == seq) with
    | none => s
    | some a =>
      let s := s.reach (a.since + ms 1)
      let bytes (f : Nat → Bool) : Nat :=
        (a.pkts.filter (fun p => f p.ptype)).foldl (fun n p => n + pktBytes p) 0
      s.modDie die (fun d =>
        ({ d with asms := d.asms.erase a, reqOcc := d.reqOcc - bytes isReq, colOcc := d.colOcc - bytes isCol }.modCtx
          node ssg (fun c => { c with states := tdel c.states seq.toNat, usedAt := s.now })).stat 0x24 1))

/-- ACC_CTX_EXPIRE (R266): a context is freed after 10 ms in which no packet of its pair arrived and no number was in
state 01. -/
def execAccCtxExpire (die node ssg : Nat) (s : State) : Host.Outcome State Fault Refusal :=
  onUnit (decide (die < 4)) (
    match (s.die die).ctxs.find? (fun c => c.node == node && c.ssg == ssg) with
    | none => s
    | some c =>
      if c.states.any (fun x => x.2 == 1) then s
      else (s.reach (c.usedAt + ms 10)).modDie die (fun d => { d with ctxs := d.ctxs.erase c }))

/-- RSP_HOLD_TIMEOUT (R281): answers held for 1 ms toward a node are discarded; a copy of the request then meets
state 10 (assumption 183). -/
def execRspHoldTimeout (node : Nat) (s : State) : Host.Outcome State Fault Refusal :=
  onUnit true (
    let mine (h : OutPkt × Nat) : Bool := h.1.dest == .node node
    match s.fabric.rspHold.find? mine with
    | none => s
    | some h =>
      let s := s.reach (h.2 + ms 1)
      let late (h : OutPkt × Nat) : Bool := mine h && decide (h.2 + ms 1 ≤ s.now)
      let gone := s.fabric.rspHold.filter late
      gone.foldl (fun s h => (s.modDie h.1.pkt.ssg (·.stat 0x4C 1)).answerLeft h.1)
        (s.modFabric (fun f => { f with rspHold := f.rspHold.filter (fun h => !late h) })))

/-- WEIR_ECHO_SEND (R274): the largest mark of a source and class since the last echo goes back to it, at most once
per 1 µs, on the first ACTIVE port of a link die toward it (assumption 184). -/
def execWeirEchoSend (die node : Nat) (col : Bool) (s : State) : Host.Outcome State Fault Refusal :=
  onUnit (decide (die < 4)) (
    match s.fabric.marks.find? (fun e => e.1 == node && e.2.1 == col) with
    | none => s
    | some e =>
      match ((s.activePorts node).filter (fun p => dieOfPort p == die)).head? with
      | none => s
      | some p =>
        if e.2.2.1 = 0 then s else
        let s := s.reach (match e.2.2.2 with | some t => t + us 1 | none => 0)
        let s := s.modPort p (fun q => q.push (bypassWord 8
          (node % 4096 * 2 ^ 24 + e.2.2.1 % 4 * 2 ^ 20 + b2n col * 2 ^ 18 + s.aon.nodeId % 4096)))
        (s.modDie die (·.stat 0x3C 1)).modFabric (fun f => { f with marks := f.marks.map (fun x =>
          if x == e then (node, col, 0, some s.now) else x) }))

/-- WEIR_RATE_RECOVER (R275): 1 µs without an echo has passed. -/
def execWeirRateRecover (node : Nat) (col : Bool) (s : State) : Host.Outcome State Fault Refusal :=
  onUnit true (
    match afind s.fabric.rates (2 * node + b2n col) with
    | none => s
    | some (n, k, t) =>
      let s := s.reach (t + us 1)
      let r := rateRise (n, k) s.fabric.weirAi (s.rateMax node)
      s.modFabric (fun f => { f with rates := tput f.rates (2 * node + b2n col) (r.1, r.2, t + us 1) }))

/-- Send a sluice word for REQ on every port of a link die. -/
def State.sluiceAll (s : State) (l : Nat) (stop : Bool) : State :=
  (portsOf l).foldl (fun s p => s.modPort p (fun q =>
    if q.state == .active then q.push (bypassWord 7 (vcREQ + 8 * b2n stop)) else q)) s

/-- SLUICE_RENEW (R276): a link die sends a stop above 75 %, renews it every 10 µs above 50 %, and
sends go below 50 %. -/
def execSluiceRenew (die : Nat) (s : State) : Host.Outcome State Fault Refusal :=
  onUnit (decide (die < 4)) (
    let d := s.die die
    if !d.stopTx then
      if 4 * d.reqOcc > 3 * 0x800000 then
        (s.modDie die (fun d => { (d.stat 0x44 1) with stopTx := true, stopAt := s.now })).sluiceAll die true
      else s
    else if 2 * d.reqOcc < 0x800000 then
      (s.modDie die (fun d => { d with stopTx := false })).sluiceAll die false
    else if 2 * d.reqOcc > 0x800000 then
      let s := s.reach (d.stopAt + us 10)
      (s.modDie die (fun d => { d with stopAt := s.now })).sluiceAll die true
    else s)

/-- SLUICE_LAPSE (R276): a received stop lapses 25 µs after the last one. -/
def execSluiceLapse (port vc : Nat) (s : State) : Host.Outcome State Fault Refusal :=
  onUnit (decide (port < 66)) (
    let t := tget 0 (s.port port).tx.stopUntil vc
    if t = 0 then s
    else
      ((s.reach t).modPort port (fun q => { q with tx := { q.tx with stopUntil := tset 0 q.tx.stopUntil vc 0 } })).modDie
        (dieOfPort port) (·.stat 0x48 1))

/-- WB_ACK_REFRESH (R277): a region sends its count again to every agent whose count has changed since
power-on. -/
def execWbAckRefresh (region : Nat) (s : State) : Host.Outcome State Fault Refusal :=
  onUnit (decide (region < 12)) (
    let s := s.reach ((s.region region).wbSentAt + us 10)
    let s := s.modRegion region (fun r => { r with wbSentAt := s.now })
    (s.region region).wbEver.foldl (fun s x => s.sendWbAck region x) s)

/-- WB_ACK (R73, R277): the count reaches its agent, which frees as many buffers as it advanced. -/
def execWbAck (region agent count : Nat) (s : State) : Host.Outcome State Fault Refusal :=
  onUnit (decide (region < 12)) (s.modRegion region (fun r =>
    let left := (tget 0 r.wbCount agent + 64 - count % 64) % 64
    { r with wbUsed := tset 0 r.wbUsed agent (min (tget 0 r.wbUsed agent) left) }))

/-- WEIR_ECHO (R274, R275, R277). -/
def execWeirEcho (port content : Nat) (s : State) : Host.Outcome State Fault Refusal :=
  onUnit (decide (port < 66)) (s.echoWord port content)

end Sys2Proof.Machine
end

