-- ==== Sys2Proof/Machine/Link.lean ====
section
/-! DEFINITION. The link layer of the fabric and Rein ports (R223 to R253): flow units, bypass words,
acknowledgement and replay, credits, training, retrain and link down. -/
namespace Sys2Proof.Machine

open Sys2Proof

/-! ### Flow units (R226, R227) -/

def seqSeed (n : Nat) : Nat := 0xFFFFFFFFFFFFF000 + n % 4096
def ctlSeed : Nat := 0x5A5A5A5A5A5A5A5A

/-- A flow unit with its CRC. -/
def flowUnit (kind vc : Nat) (w : BitVec 40) (body : Bytes) (seed : Nat) : Bytes :=
  let u := toLe 1 (kind + 4 * vc) ++ toLe 5 w.toNat ++ slice body 0 242
  u ++ toBe 8 (unitCrc seed u)

def unitKind (u : Bytes) : Nat := fld u 0 1 % 4
def unitVc (u : Bytes) : Nat := bitf (fld u 0 1) 4 2
def unitWord (u : Bytes) : BitVec 40 := BitVec.ofNat 40 (fld u 1 5)
def unitBody (u : Bytes) : Bytes := slice u 6 242

/-- The unit is whole, of the kind, and passes its CRC with a seed (R227). -/
def unitOk (u : Bytes) (kind seed : Nat) : Bool :=
  u.length == 256 && unitKind u == kind && beNat (slice u 0xF8 8) == unitCrc seed (slice u 0 0xF8)

def wordType (w : BitVec 40) : Nat := bitf w.toNat 39 36
def wordContent (w : BitVec 40) : Nat := bitf w.toNat 35 0

/-! ### The port -/

/-- Buffer of a class in a port of the part (R237). -/
def rxBuffer (vc : Nat) : Nat :=
  if vc = vcRSP then 512 else if vc = vcSNP then 128 else if vc = vcREQ then 384 else 1024

def Port.modTx (p : Port) (f : PortTx → PortTx) : Port := { p with tx := f p.tx }
def Port.modRx (p : Port) (f : PortRx → PortRx) : Port := { p with rx := f p.rx }

/-- Free receive-buffer units of a class (R243). -/
def Port.free (p : Port) (vc : Nat) : Nat := rxBuffer vc - tget 0 p.rx.occ vc

/-- A credit of the class is available (R237, R239, R240). -/
def Port.credit (p : Port) (vc : Nat) : Bool :=
  if vc = vcCOL then decide (0 < p.tx.colAvail)
  else decide ((tget 0 p.tx.size vc + tget 0 p.tx.returned vc + 65536 - tget 0 p.tx.debited vc) % 65536 ≠ 0)

/-- Debit a credit (R238). -/
def Port.debit (p : Port) (vc : Nat) : Port :=
  p.modTx (fun t =>
    if vc = vcCOL then { t with colAvail := t.colAvail - 1 }
    else { t with debited := tset 0 t.debited vc ((tget 0 t.debited vc + 1) % 65536) })

/-- The oldest number that is not freed. -/
def Port.oldest (p : Port) : Option Nat := (p.tx.buf.head?).map (·.1)

/-- Take the next bypass word for a header. A framed `CRD_INC` enters the audit count; `CRD_AUDIT` and `CRD_CUM` carry
their counts as they stand when they are framed (R239, R241); a `NAK` is counted as it is sent (R253). -/
def Port.takeWord (p : Port) : BitVec 40 × Port :=
  match p.tx.bypass with
  | [] => (0#40, p)
  | w :: r =>
    let p := p.modTx (fun t => { t with bypass := r })
    match wordType w with
    | 2 => (w, p.stat 0x40 1)
    | 4 => (w, p.modRx (fun x => { x with colFramed := (x.colFramed + wordContent w % 2048) % 2 ^ 24 }))
    | 5 => (bypassWord 5 (wordContent w % 8 + 8 * tget 0 p.rx.retd (wordContent w % 8)), p)
    | 6 => (bypassWord 6 p.rx.colFramed, p)
    | _ => (w, p)

/-- A word leaves a port. An acknowledgement of writebacks answers the notices that it counts (R267, R277). -/
def State.wordLeaves (s : State) (w : BitVec 40) : State :=
  let c := wordContent w
  if wordType w ≠ 8 ∨ bitf c 23 22 ≠ 1 then s
  else
    let mine (o : WbOwed) : Bool := o.node == bitf c 35 24 && o.region == bitf c 15 12 &&
      decide ((bitf c 21 16 + 64 - o.count % 64) % 64 < 32)
    (s.fabric.wbOwed.filter mine).foldl (fun s o => s.markAnswered o.die o.node o.ssg o.seq)
      (s.modFabric (fun f => { f with wbOwed := f.wbOwed.filter (fun o => !mine o) }))

/-- The first `k` queued words of a port leave it. -/
def State.wordsLeave (s : State) (i k : Nat) : State := ((s.port i).tx.bypass.take k).foldl (fun s w => s.wordLeaves w) s

/-- Remember the COL credits that sequenced unit `n` carries (R236). -/
def Port.noteCol (p : Port) (n : Nat) (w : BitVec 40) : Port :=
  if wordType w = 4 then p.modTx (fun t => { t with sentCol := t.sentCol ++ [(n, wordContent w % 2048)] }) else p

/-- The record that a port sends in CONFIG (R243). -/
def State.ownConfig (s : State) (i : Nat) : Bytes :=
  let p := s.port i
  toLe 2 1 ++ toLe 1 (if i ≥ 64 then 2 else 0) ++ toLe 1 0 ++ toLe 2 (if i ≥ 64 then 0 else s.aon.nodeId) ++
  toLe 2 p.rx.e ++ [vcRSP, vcSNP, vcREQ, vcCOL].flatMap (fun v => toLe 2 (p.free v)) ++ zeros 16

/-- A port that starts from DOWN keeps LINK_CTL, its counters and its partner. -/
def Port.fresh (p : Port) (st : LinkState) (now : Nat) : Port :=
  { Port.reset with state := st, since := now, leakRetrain := p.leakRetrain, replayN := p.replayN,
                    autoTrain := p.autoTrain, enable := p.enable, stats := p.stats, partner := p.partner,
                    tried := p.tried }

/-! ### Link down and retrain (R244 to R248) -/

/-- Causes of LINK_DOWN as the log keeps them (assumption 9). -/
abbrev downReplay : Nat := 1
abbrev downRetrain : Nat := 2
abbrev downProtocol : Nat := 3
abbrev downWord : Nat := 4
abbrev downDisabled : Nat := 5

/-- The link of a port is up: ACTIVE, or retrained from it (R242, R246). -/
def Port.linkUp (p : Port) : Bool := p.state == .active || p.state == .retrain || (p.state == .config && p.wasRetrain)

/-- The Rein link is down since now if neither of its ports is up any more (R250). -/
def State.noteRein (s : State) : State :=
  s.modFabric (fun f => { f with reinDownAt :=
    if (s.port 64).linkUp || (s.port 65).linkUp then none else some (f.reinDownAt.getD s.now) })

/-- The ACTIVE ports of nodes have changed since `old`: a rate that no echo has set goes on from where it stood when r_max
rises again (R275). It starts at r_max when the node's first port becomes ACTIVE (assumption 44). -/
def State.keepRates (s old : State) : State :=
  let hold (n : Nat) (col : Bool) (s : State) : State :=
    let a := old.rateMax n
    let b := s.rateMax n
    let key := 2 * n + b2n col
    if (afind s.fabric.rates key).isSome || a == 0 || (decide (b ≤ a) && b != 0) then s
    else s.modFabric (fun f => { f with rates := tput f.rates key (min a b, 0, s.now) })
  (s.fabric.nodes.map (·.1)).foldl (fun s n => hold n true (hold n false s)) s

/-- A port goes down (R248, R281). -/
def State.portDown (s : State) (i cause : Nat) : State :=
  let p := s.port i
  if p.state == .down then s else
  let l := dieOfPort i
  let old := s
  let (held, s) := s.drainPort i
  let q := ((p.fresh .down s.now).stat 0x50 1).modTx (fun t =>
    { t with last := flowUnit 0 0 (bypassWord 0xA 0) [] ctlSeed })
  let s := (s.setPort i q).logRec lgLINK_DOWN [i, cause, p.oldest.getD p.tx.next, p.tx.buf.length]
  (((held.foldl (fun s o => s.handBack l o) s).abandonLost).keepRates old).noteRein

/-- A port enters RETRAIN (R245, R246): messages that no other ACTIVE port of their node could carry are abandoned
(R281). -/
def State.retrain (s : State) (i : Nat) (proto : Bool) : State :=
  if (s.port i).state != .active then s
  else
    (s.modPort i (fun p =>
      { (p.stat 0x4C 1) with state := .retrain, since := s.now, weight := 0, wasRetrain := true, proto := proto,
                             cfg := [], cfgCount := 0, cfgSent := 0 })).abandonLost.keepRates s

/-- A protocol error: a second one within 1 ms of the return to ACTIVE takes the port down (R245). -/
def State.protoError (s : State) (i : Nat) : State :=
  let p := s.port i
  if p.proto && decide (s.now ≤ p.activeAt + ms 1) then s.portDown i downProtocol else s.retrain i true

/-! ### Replay (R235, R236, R247) -/

/-- Frames from `r` on are replayed; a NAK queues their COL credits again. -/
def Port.replayFromN (p : Port) (r now : Nat) (byNak : Bool) : Port :=
  let from_ (n : Nat) : Bool := n == r || later 12 n r
  let back := (p.tx.sentCol.filter (fun e => from_ e.1)).foldl (fun a e => a + e.2) 0
  let p := p.modTx (fun t =>
    { t with replay := some ⟨r, ((t.buf.getLast?).map (·.1)).getD r⟩, replayFrom := r, replayAt := now + 1 })
  if byNak ∧ back ≠ 0 then
    ((p.modTx (fun t => { t with sentCol := t.sentCol.filter (fun e => !from_ e.1) })).modRx (fun x =>
      { x with colFramed := (x.colFramed + 2 ^ 24 - back % 2 ^ 24) % 2 ^ 24 })).push (bypassWord 4 back)
  else p

/-- A trigger for a replay from `r`: replay, retrain or link down by the count of R247. -/
def State.triggerReplay (s : State) (i r : Nat) (byNak : Bool) : State :=
  let p := s.port i
  let same := p.tx.replayFrom == r
  let c := if same then p.tx.rcount else 0
  let marked := same && p.tx.retrained
  if c < p.replayN then
    s.modPort i (fun p =>
      let p := p.replayFromN r s.now byNak
      let p := p.modTx (fun t => { t with rcount := c + 1, retrained := marked })
      if byNak then p else p.stat 0x48 1)
  else if !marked then
    (s.modPort i (fun p => p.modTx (fun t => { t with replayFrom := r, rcount := 0, retrained := true }))).retrain i false
  else s.portDown i downReplay

/-! ### Bypass words at the transmitter (R233 to R241) -/

/-- Free the entries up to n that a running replay does not still have to send (R233, R236). -/
def Port.freeTo (p : Port) (n : Nat) : Port :=
  let toSend (k : Nat) : Bool := match p.tx.replay with
    | some r => (k == r.next || later 12 k r.next) && (k == r.last || later 12 r.last k)
    | none => false
  let freed (k : Nat) : Bool := (k == n || later 12 n k) && !toSend k
  { p.modTx (fun t => { t with buf := t.buf.filter (fun e => !freed e.1), sentCol := t.sentCol.filter (fun e => !freed e.1) }) with
    outq := p.outq.filter (fun o => match o.2.1 with | some k => !freed k | none => true) }

/-- The oldest unit r and what was counted for it is behind: every number up to `n` has been accepted (R247). -/
def PortTx.passed (t : PortTx) (n : Nat) : PortTx :=
  if t.replayFrom = n || later 12 n t.replayFrom then { t with rcount := 0, retrained := false } else t

/-- `ACK` (n): free entries up to n. Those that a running replay still has to send are freed once they have been
sent (R236). -/
def State.ackWord (s : State) (i n : Nat) : State :=
  s.modPort i (fun p =>
    if !p.tx.buf.any (fun e => e.1 == n) then p else
    (p.freeTo n).modTx (fun t => { t.passed n with acked := t.replay.map (fun _ => n) }))

/-- `NAK` (n) (R235). -/
def State.nakWord (s : State) (i n : Nat) : State :=
  let s := s.modPort i (·.stat 0x44 1)
  let p := s.port i
  if p.tx.buf.any (fun e => e.1 == n) then
    if p.tx.replayFrom = n ∧ p.tx.replayAt ≠ 0 ∧ s.now + 1 < p.tx.replayAt + lCycles 2625 then s
    else s.triggerReplay i n true
  else if n = p.tx.next then s
  else s.protoError i

/-- `CRD_INC` (n) (R240). -/
def State.crdIncWord (s : State) (i n : Nat) : State :=
  s.modPort i (·.modTx (fun t => { t with colAvail := t.colAvail + n, colRcvd := (t.colRcvd + n) % 2 ^ 24 }))

/-- Units of a class that the partner may return credits for (R239): those debited, and those that stood in its receive
buffer at the last CONFIG, which lie outside the size it gave then (R244). -/
def PortTx.owed (t : PortTx) (vc : Nat) : Nat := (tget 0 t.debited vc + (tget 0 t.whole vc - tget 0 t.size vc)) % 65536

/-- `CRD_CUM` (vc, n): a count beyond what was sent is a protocol error (R239). -/
def State.crdCumWord (s : State) (i vc n : Nat) : State :=
  if vc = 0 ∨ vc > 3 then s else
  if later 16 (n % 65536) ((s.port i).tx.owed vc) then s.protoError i
  else s.modPort i (·.modTx (fun t => { t with returned := tset 0 t.returned vc (n % 65536) }))

/-- `CRD_AUDIT` (n) taken in normal state (R241). -/
def State.auditWord (s : State) (i n : Nat) : State :=
  let p := s.port i
  let est := (n + 2 ^ 24 - p.tx.colRcvd) % 2 ^ 24
  let high := p.leakRetrain ≠ 0 ∧ est ≥ p.leakRetrain ∧ p.tx.leakPrev ≥ p.leakRetrain
  let s := s.modPort i (fun p => (p.modTx (fun t => { t with leakEst := est, leakPrev := est })).statMax 0x5E est)
  if high then s.retrain i false else s

/-- `SLUICE`: a stop holds for 25 µs after the last one (R276). -/
def State.sluiceWord (s : State) (i vc : Nat) (stop : Bool) : State :=
  s.modPort i (·.modTx (fun t => { t with stopUntil := tset 0 t.stopUntil vc (if stop then s.now + us 25 else 0) }))

/-- Act on a bypass word; `taken` is set when the unit that carries it is accepted in normal state. -/
def State.bypassIn (s : State) (i : Nat) (taken : Bool) (w : BitVec 40) : State :=
  let c := wordContent w
  match wordType w with
  | 0 => s
  | 1 => s.ackWord i (c % 4096)
  | 2 => s.nakWord i (c % 4096)
  | 3 => s
  | 4 => s.crdIncWord i (c % 2048)
  | 5 => s.crdCumWord i (c % 8) (bitf c 18 3)
  | 6 => if taken then s.auditWord i (c % 2 ^ 24) else s
  | 7 => s.sluiceWord i (c % 8) (tbit c 3)
  | 8 => s.echoWord i c
  | 9 => if i ≥ 64 then s.beatRein (c % 2 ^ 32) else s
  | 10 => s.portDown i downWord
  | _ => s.modPort i (·.stat 0x58 1)

/-! ### The transmitter (R228, R230, R232) -/

/-- The next message for the Rein link of a class, numbered from the one sequence space of this
direction (R364); an answer keeps its request's number, and what another port handed back keeps its own (R248). -/
def State.reinNext (s : State) (vc : Nat) : Option OutPkt × State :=
  match s.outbox.find? (fun o => o.dest == .rein && classOf o.pkt.ptype == vc) with
  | none => (none, s)
  | some o =>
    let n := tget 0 (s.die 0).seqs 4096
    let s := { s with outbox := s.outbox.erase o }
    if o.pkt.ptype = 0x0A ∨ o.port ≠ noPort then (some o, s)
    else (some { o with pkt := { o.pkt with seq := n } }, s.modDie 0 (fun d => { d with seqs := tset 0 d.seqs 4096 (n + 1) }))

/-- The transmitter takes the next packet of a class at a port. -/
def State.nextPkt (s : State) (i vc : Nat) : Option OutPkt × State :=
  if i ≥ 64 then s.reinNext vc
  else if vc = vcSNP then
    match (s.port i).snpq with
    | [] => (none, s)
    | o :: r => (some o, (s.integrate i).modPort i (fun p => { p with snpq := r }))
  else if vc = vcRSP then s.selectPkt i false
  else if vc = vcCOL then s.selectPkt i true
  else (none, s)

/-- Take packets of a class until a body is full or none is queued. An answer leaves the part as it is framed
(R267, R272). -/
def State.fillBody (s : State) (i vc k : Nat) : State :=
  match k with
  | 0 => s
  | k + 1 =>
    if (tget [] (s.port i).outBytes vc).length ≥ 242 then s else
    match s.nextPkt i vc with
    | (none, s) => s
    | (some o, s) =>
      let bytes := if i ≥ 64 then (reinPackets o.pkt).flatMap encodePkt else encodePkt o.pkt
      ((s.answerLeft o).modPort i (fun p =>
        { p with outBytes := tset [] p.outBytes vc (tget [] p.outBytes vc ++ bytes),
                 outq := p.outq ++ [(vc, none, { o with port := i })] })).fillBody i vc k

/-- Packets of a class are framed up to unit `n`; the last one only when no byte of it is left. -/
def framed (vc n : Nat) (whole : Bool) (l : List (Nat × Option Nat × OutPkt)) : List (Nat × Option Nat × OutPkt) :=
  match l with
  | [] => []
  | o :: r =>
    let more := r.any (fun x => x.1 == vc && x.2.1.isNone)
    (if o.1 = vc ∧ o.2.1.isNone ∧ (more ∨ whole) then (o.1, some n, o.2.2) else o) :: framed vc n whole r

/-- Frame a new sequenced unit of a class (R232, R238, R254). -/
def State.sendSeq (s : State) (i vc : Nat) : State :=
  (s.wordsLeave i 1).modPort i (fun p =>
    let b := tget [] p.outBytes vc
    let n := p.tx.next
    let (w, p) := p.takeWord
    let u := flowUnit 1 vc w (b.take 242) (seqSeed n)
    let p := ((p.noteCol n w).debit vc).modTx (fun t =>
      { t with next := (n + 1) % 4096, buf := t.buf ++ [(n, vc, s.now, u)], last := u })
    let p := { p with outBytes := tset [] p.outBytes vc (b.drop 242),
                      outq := framed vc n (b.drop 242).isEmpty p.outq }
    (p.stat 0 1).statMax 0x60 p.tx.buf.length)

/-- Send a control unit with the words that are queued, up to nine (R228). -/
def State.sendControl (s : State) (i : Nat) : State :=
  (s.wordsLeave i 9).modPort i (fun p =>
    let (ws, p) := (List.range 9).foldl (fun (a : List (BitVec 40) × Port) _ =>
      let (w, p) := a.2.takeWord
      (a.1 ++ [w], p)) ([], p)
    let u := flowUnit 0 0 (ws.headD 0#40) ((ws.drop 1).flatMap (fun w => toLe 5 w.toNat)) ctlSeed
    p.modTx (fun t => { t with last := u }))

/-- Send the next unit of a replay (R229, R236). -/
def State.sendReplay (s : State) (i : Nat) (r : Replay) : State :=
  let t := (s.port i).tx
  (if r.next = t.replayFrom || !t.buf.any (fun e => e.1 == r.next) then s else s.wordsLeave i 1).modPort i (fun p =>
    match p.tx.buf.find? (fun e => e.1 == r.next) with
    | none => p.modTx (fun t => { t with replay := none, acked := none })
    | some (n, vc, _, u) =>
      let (w, p) := if n = p.tx.replayFrom then (bypassWord 3 n, p) else p.takeWord
      let v := flowUnit 1 vc w (unitBody u) (seqSeed n)
      let p := ((p.noteCol n w).modTx (fun t =>
        { t with last := v, replay := if n = r.last then none else some { r with next := (n + 1) % 4096 } })).stat 0x10 1
      let q := match p.tx.acked with | some a => p.freeTo a | none => p
      if n = r.last then q.modTx (fun t => { t with acked := none }) else q)

/-- A new unit of the class may be framed: it has bytes or a packet, a credit, and no stop. -/
def State.maySend (s : State) (i vc : Nat) : Bool :=
  (s.port i).credit vc && !s.stopped i vc &&
  (!(tget [] (s.port i).outBytes vc).isEmpty || (s.nextPkt i vc).1.isSome)

/-- The order of R228 for new units. -/
def State.nextClass (s : State) (i : Nat) : Option Nat := [vcRSP, vcSNP, vcREQ, vcCOL].find? (fun v => s.maySend i v)

/-- What a port in ACTIVE sends in a slot. -/
def State.transmit (s : State) (i : Nat) : State :=
  let p := s.port i
  if p.tx.bypass.length > 16 then s.sendControl i
  else match p.tx.replay with
    | some r => s.sendReplay i r
    | none =>
      if p.tx.buf.length ≥ 1024 then s.sendControl i
      else match s.nextClass i with
        | some v => (s.fillBody i v 10).sendSeq i v
        | none => s.sendControl i

/-! ### CONFIG (R243, R244) -/

/-- Credits from the partner's record: `keep` counts a class's units that stay in the replay buffer. At first training
the record gives the whole buffers (R243). -/
def Port.credits (p : Port) (rcd : Bytes) (keep : Nat → Nat) : Port :=
  let free (v : Nat) : Nat := fld rcd (8 + 2 * (v - 1)) 2
  p.modTx (fun t =>
    { t with whole := if p.wasRetrain then t.whole else [vcRSP, vcSNP, vcREQ].foldl (fun z v => tset 0 z v (free v)) [],
             size := [vcRSP, vcSNP, vcREQ].foldl (fun z v => tset 0 z v (free v)) [],
             debited := [vcRSP, vcSNP, vcREQ].foldl (fun z v => tset 0 z v (keep v)) [],
             returned := [], colAvail := (free vcCOL : Int) - keep vcCOL, colRcvd := 0, leakPrev := 0 })

/-- A port leaves CONFIG for ACTIVE. After a retrain it resumes from the partner's NEXT_SEQ; the bypass queue stays as
it is (R246, assumption 26). -/
def State.configDone (s : State) (i : Nat) : State :=
  let s := s.when (i ≥ 64 && !(s.port i).wasRetrain && !(s.port (129 - i)).linkUp) (fun s => s.reinStart)
  let old := s
  let s := s.modPort i (fun p =>
    let rcd := p.cfg
    let p := { p with state := .active, activeAt := s.now, partner := fld rcd 4 2 % 4096 + fld rcd 2 1 % 8 * 4096 }
    if p.wasRetrain then
      let ns := fld rcd 6 2 % 4096
      let p := p.modTx (fun t =>
        { t.passed ((ns + 4095) % 4096) with buf := t.buf.filter (fun e => !later 12 ns e.1), sentCol := [], acked := none })
      let p := { p with outq := p.outq.filter (fun o => match o.2.1 with | some k => !later 12 ns k | none => true) }
      let p := p.credits rcd (fun v => (p.tx.buf.filter (fun e => e.2.1 == v)).length)
      let p := p.modRx (fun x => { x with freed := [], retd := [], crdDue := [], colFramed := 0 })
      let p := { p with wasRetrain := false, stats := tset 0 p.stats 0x68 ((s.now - p.since) / 1260) }
      if p.tx.buf.isEmpty then p.modTx (fun t => { t with replay := none }) else p.replayFromN ns s.now false
    else p.credits rcd (fun _ => 0))
  ((s.keepRates old).noteRein).releaseRsp

/-- Both sides have what R243 asks for. -/
def State.configCheck (s : State) (i : Nat) : State :=
  let p := s.port i
  if p.state == .config && decide (p.cfgCount ≥ 2 ∧ p.cfgSent ≥ 2) then s.configDone i else s

/-- The partner's record is acceptable (R243). -/
def recordOk (i : Nat) (first : Bool) (rcd : Bytes) : Bool :=
  let t := fld rcd 2 1
  fld rcd 0 2 == 1 && (if i ≥ 64 then t == 2 else t == 0 || t == 1) &&
  (!first || (List.range 4).all (fun k => decide (8 ≤ fld rcd (8 + 2 * k) 2 ∧ fld rcd (8 + 2 * k) 2 ≤ 4095)))

/-- A CONFIG record arrives. -/
def State.configIn (s : State) (i : Nat) (rcd : Bytes) : State :=
  let p := s.port i
  if p.state != .config then s
  else if !recordOk i (!p.wasRetrain) rcd then
    let s := s.logRec lgCONFIG_MISMATCH [i, leNat rcd]
    if p.wasRetrain then s.portDown i downRetrain else s.setPort i (p.fresh .down s.now)
  else
    (s.modPort i (fun p =>
      if p.cfg = rcd then { p with cfgCount := p.cfgCount + 1 }
      else { p with cfg := rcd, cfgCount := 1, cfgSent := 0 })).configCheck i

/-- Send a CONFIG record. -/
def State.sendConfig (s : State) (i : Nat) : State :=
  let u := flowUnit 0 0 0#40 (s.ownConfig i) ctlSeed
  (s.modPort i (fun p =>
    { p.modTx (fun t => { t with last := u }) with cfgSent := if p.cfgCount ≥ 2 then p.cfgSent + 1 else 0 })).configCheck i

/-! ### The receiver (R227, R233, R234, R258) -/

/-- Enter NAK state and send `NAK` (e). -/
def Port.enterNak (p : Port) (now : Nat) : Port :=
  (p.modRx (fun x => { x with nak := true, nakAt := now, dup := none })).push (bypassWord 2 p.rx.e)

/-- A CRC failure. -/
def State.crcFail (s : State) (i : Nat) : State :=
  s.modPort i (fun p =>
    let p := p.stat 0x18 1
    if p.rx.nak then p else p.enterNak s.now)

/-- A codeword has been decoded (R245, R253): `some n` with n symbols corrected, `none` uncorrectable. -/
def Port.codeword (p : Port) (c : Option Nat) : Port :=
  match c with
  | none => (p.modRx (fun x => { x with badCw := x.badCw + 1 })).stat 0x30 1
  | some n =>
    let p := p.modRx (fun x => { x with badCw := 0 })
    if n = 0 then p else (p.stat 0x20 1).stat 0x28 n

/-- The codewords that begin within a unit are decoded: eight uncorrectable ones in a row retrain the port (R245). -/
def State.fecCount (s : State) (i : Nat) (cws : List (Option Nat)) : State :=
  cws.foldl (fun s c =>
    let s := s.modPort i (·.codeword c)
    if (s.port i).rx.badCw ≥ 8 then (s.modPort i (·.modRx (fun x => { x with badCw := 0 }))).retrain i false else s) s

/-- A unit overlaps an uncorrectable codeword (R227): the one it begins in, or one that begins within it. -/
def fecFails (r : FecRead) : Bool := r.bad || r.cws.any (·.isNone)

/-- Accept a sequenced unit as e: its packets are parsed and its word is acted on (R233, R258). -/
def State.acceptUnit (s : State) (i : Nat) (u : Bytes) : State :=
  let p := s.port i
  let vc := unitVc u
  match cutStream (decide (i ≥ 64)) vc 4096 (tget [] p.rx.parse vc ++ unitBody u) [] with
  | none => (s.modDie (dieOfPort i) (·.stat 0x58 1)).crcFail i
  | some (ps, left) =>
    let e := p.rx.e
    let s := s.modPort i (fun p =>
      let p := (p.modRx (fun x =>
        { x with e := (e + 1) % 4096, unacked := x.unacked + 1,
                 ackDue := match x.ackDue with | some t => some t | none => some (s.now + lCycles 350),
                 occ := tset 0 x.occ vc (tget 0 x.occ vc + 1), parse := tset [] x.parse vc left })).stat 8 1
      if p.rx.unacked ≥ 32 then
        (p.modRx (fun x => { x with unacked := 0, ackDue := none })).push (bypassWord 1 e)
      else p)
    (ps.foldl (fun s k => s.packetArrive i k) s).bypassIn i true (unitWord u)

/-- A unit headed by `REPLAY_START` (r) (R234). -/
def State.replayUnit (s : State) (i r : Nat) (u : Bytes) : State :=
  if !unitOk u 1 (seqSeed r) then s.crcFail i else
  let e := (s.port i).rx.e
  if r = e then (s.modPort i (·.modRx (fun x => { x with nak := false, dup := none }))).acceptUnit i u
  else if later 12 e r then
    s.modPort i (fun p =>
      ((p.modRx (fun x =>
        { x with nak := false, dup := if (r + 1) % 4096 = e then none else some ((r + 1) % 4096),
                 unacked := 0, ackDue := none })).stat 0x38 1).push (bypassWord 1 ((e + 4095) % 4096)))
  else s.protoError i

/-- A duplicate that a replay brings (R234). -/
def State.dupUnit (s : State) (i d : Nat) (u : Bytes) : State :=
  if !unitOk u 1 (seqSeed d) then s.crcFail i else
  (s.modPort i (fun p =>
    (p.modRx (fun x => { x with dup := if (d + 1) % 4096 = x.e then none else some ((d + 1) % 4096) })).stat 0x38 1)).bypassIn
    i false (unitWord u)

/-- The words of a control unit: its header and those of its body up to the first `NONE` (R228). -/
def controlWords (u : Bytes) : List (BitVec 40) :=
  (unitWord u :: (List.range 8).map (fun j => BitVec.ofNat 40 (fld u (6 + 5 * j) 5))).takeWhile (fun w => wordType w ≠ 0)

/-! ### The rows -/

/-- FLOW_UNIT_TRANSMIT (R228): what a port sends in its slot. -/
def execFlowUnitTransmit (port : Nat) (s : State) : Host.Outcome State Fault Refusal :=
  onUnit (decide (port < 66)) (
    match (s.port port).state with
    | .active => s.transmit port
    | .config => s.sendConfig port
    | .down => s
    | .detect => s
    | .train => s
    | .retrain => s)

/-- SEQUENCED_UNIT_RECEIVE (R227, R233, R234). -/
def execSequencedUnitReceive (port : Nat) (unit : Bytes) (fec : FecRead) (s : State) :
    Host.Outcome State Fault Refusal :=
  onUnit (decide (port < 66)) (
    if (s.port port).state != .active then s else
    let s := s.fecCount port fec.cws
    if (s.port port).state != .active then s
    else if fecFails fec then (if (s.port port).rx.nak then s else s.crcFail port)
    else if wordType (unitWord unit) = 3 then s.replayUnit port (wordContent (unitWord unit) % 4096) unit
    else if (s.port port).rx.nak then s
    else match (s.port port).rx.dup with
      | some d => s.dupUnit port d unit
      | none =>
        if unitOk unit 1 (seqSeed (s.port port).rx.e) && decide (1 ≤ unitVc unit ∧ unitVc unit ≤ 4) then
          s.acceptUnit port unit
        else s.crcFail port)

/-- CONTROL_UNIT_RECEIVE (R227, R228, R234, R243). -/
def execControlUnitReceive (port : Nat) (unit : Bytes) (fec : FecRead) (s : State) :
    Host.Outcome State Fault Refusal :=
  onUnit (decide (port < 66)) (
    match (s.port port).state with
    | .active =>
      let s := s.fecCount port fec.cws
      if (s.port port).state != .active then s
      else if fecFails fec || !unitOk unit 0 ctlSeed then s.crcFail port
      else
        let normal := !(s.port port).rx.nak
        (controlWords unit).foldl (fun s w => s.bypassIn port normal w) s
    | .config =>
      let s := s.modPort port (fun p => fec.cws.foldl (·.codeword ·) p)
      if !fecFails fec && unitOk unit 0 ctlSeed && wordType (unitWord unit) == 0 then
        s.configIn port (slice (unitBody unit) 0 32)
      else if !fecFails fec && unitOk unit 0 ctlSeed && wordType (unitWord unit) == 0xA then s.portDown port downWord
      else s
    | .down => s
    | .detect => s
    | .train => s
    | .retrain => s)

/-- REPLAY_START (R234): a unit whose header word is `REPLAY_START` (r). -/
def execReplayStart (port r : Nat) (unit : Bytes) (fec : FecRead) (s : State) :
    Host.Outcome State Fault Refusal :=
  onUnit (decide (port < 66)) (
    if (s.port port).state != .active then s else
    let s := s.fecCount port fec.cws
    if (s.port port).state != .active then s
    else if fecFails fec || unitWord unit != bypassWord 3 (r % 4096) then s.crcFail port
    else s.replayUnit port (r % 4096) unit)

/-- A bypass word that arrives at a port in ACTIVE. -/
def State.onActive (s : State) (i : Nat) (f : State → State) : State :=
  if (s.port i).state == .active then f s else s

/-- ACK (R233). -/
def execAck (port n : Nat) (s : State) : Host.Outcome State Fault Refusal :=
  onUnit (decide (port < 66)) (s.onActive port (fun s => s.ackWord port (n % 4096)))

/-- NAK (R235). -/
def execNak (port n : Nat) (s : State) : Host.Outcome State Fault Refusal :=
  onUnit (decide (port < 66)) (s.onActive port (fun s => s.nakWord port (n % 4096)))

/-- CRD_INC (R240). -/
def execCrdInc (port n : Nat) (s : State) : Host.Outcome State Fault Refusal :=
  onUnit (decide (port < 66)) (s.onActive port (fun s => s.crdIncWord port n))

/-- CRD_CUM (R239). -/
def execCrdCum (port vc n : Nat) (s : State) : Host.Outcome State Fault Refusal :=
  onUnit (decide (port < 66)) (s.onActive port (fun s => s.crdCumWord port vc n))

/-- CRD_AUDIT (R241). -/
def execCrdAudit (port n : Nat) (s : State) : Host.Outcome State Fault Refusal :=
  onUnit (decide (port < 66)) (s.onActive port (fun s => if (s.port port).rx.nak then s else s.auditWord port n))

/-- SLUICE (R276). -/
def execSluice (port vc : Nat) (stop : Bool) (s : State) : Host.Outcome State Fault Refusal :=
  onUnit (decide (port < 66)) (s.onActive port (fun s => s.sluiceWord port vc stop))

/-- HB (R353, R354): a heartbeat word on a Rein port. -/
def execHb (port n : Nat) (s : State) : Host.Outcome State Fault Refusal :=
  onUnit (decide (port < 66)) (s.onActive port (fun s => if port ≥ 64 then s.beatRein n else s))

/-- DOWN (R248). -/
def execDown (port : Nat) (s : State) : Host.Outcome State Fault Refusal :=
  onUnit (decide (port < 66)) (s.portDown port downWord)

/-- CONFIG (R243, R244): a partner's record. -/
def execConfig (port : Nat) (record : Bytes) (s : State) : Host.Outcome State Fault Refusal :=
  onUnit (decide (port < 66)) (s.configIn port (slice record 0 32))

/-- The ingress of a port's link die takes no more bytes of a class: its REQ ingress buffer or its COL reserve is full,
and what has arrived since then stands in the receive buffers (R273). -/
def State.ingressFull (s : State) (port vc : Nat) : Bool :=
  let d := s.die (dieOfPort port)
  decide (port < 64) && ((vc == vcREQ && decide (d.reqOcc > 0x800000)) || (vc == vcCOL && decide (d.colOcc > 0x1000000)))

/-- CREDIT_RETURN (R238 to R240, R273): the bytes of an accepted unit have left the receive buffer for the
transport. -/
def execCreditReturn (port vc : Nat) (s : State) : Host.Outcome State Fault Refusal :=
  onUnit (decide (port < 66)) (s.modPort port (fun p =>
    if tget 0 p.rx.occ vc = 0 || s.ingressFull port vc then p else
    let p := p.modRx (fun x =>
      { x with occ := tset 0 x.occ vc (tget 0 x.occ vc - 1), freed := tset 0 x.freed vc (tget 0 x.freed vc + 1),
               retd := if vc = vcCOL then x.retd else tset 0 x.retd vc ((tget 0 x.retd vc + 1) % 65536) })
    let n := tget 0 p.rx.freed vc
    if n ≥ (if vc = vcCOL then 32 else 8) then
      (p.modRx (fun x => { x with freed := tset 0 x.freed vc 0, crdDue := tset 0 x.crdDue vc 0 })).push
        (if vc = vcCOL then bypassWord 4 n else bypassWord 5 (vc + 8 * tget 0 p.rx.retd vc))
    else if tget 0 p.rx.crdDue vc = 0 then
      p.modRx (fun x => { x with crdDue := tset 0 x.crdDue vc (s.now + lCycles 350) })
    else p))

/-- ACK_TIMER (R233). -/
def execAckTimer (port : Nat) (s : State) : Host.Outcome State Fault Refusal :=
  onUnit (decide (port < 66)) (s.onActive port (fun s =>
    match (s.port port).rx.ackDue with
    | none => s
    | some t =>
      (s.reach t).modPort port (fun p =>
        (p.modRx (fun x => { x with unacked := 0, ackDue := none })).push (bypassWord 1 ((p.rx.e + 4095) % 4096)))))

/-- NAK_RESEND_TIMER (R234). -/
def execNakResendTimer (port : Nat) (s : State) : Host.Outcome State Fault Refusal :=
  onUnit (decide (port < 66)) (s.onActive port (fun s =>
    if (s.port port).rx.nak then
      let s := s.reach ((s.port port).rx.nakAt + lCycles 350)
      s.modPort port (fun p =>
        (p.modRx (fun x => { x with nakAt := s.now })).push (bypassWord 2 p.rx.e))
    else s))

/-- REPLAY_TIMER (R235): 2,625 L-cycles without progress since the oldest unit was first sent and the
last replay began. -/
def execReplayTimer (port : Nat) (s : State) : Host.Outcome State Fault Refusal :=
  onUnit (decide (port < 66)) (s.onActive port (fun s =>
    match (s.port port).tx.buf with
    | [] => s
    | (r, _, t, _) :: _ =>
      (s.reach (max t ((s.port port).tx.replayAt - 1) + lCycles 2625)).triggerReplay port r false))

/-- CREDIT_REPORT_TIMER (R239, R240): the earliest of the delayed reports and the periodic one. Key 0
of `crdDue` holds the last periodic report. -/
def execCreditReportTimer (port : Nat) (s : State) : Host.Outcome State Fault Refusal :=
  onUnit (decide (port < 66)) (s.onActive port (fun s =>
    let x := (s.port port).rx
    let every := tget 0 x.crdDue 0 + lCycles 1750
    let due := ([1, 2, 3, 4].map (fun v => tget 0 x.crdDue v)).filter (· ≠ 0)
    let s := s.reach (due.foldl min every)
    s.modPort port (fun p =>
      let periodic := decide (every ≤ s.now)
      let p := if periodic then p.modRx (fun x => { x with crdDue := tset 0 x.crdDue 0 s.now }) else p
      [1, 2, 3, 4].foldl (fun p v =>
        let t := tget 0 p.rx.crdDue v
        let late := t ≠ 0 ∧ t ≤ s.now
        let n := tget 0 p.rx.freed v
        let clear (p : Port) : Port := p.modRx (fun x =>
          { x with freed := tset 0 x.freed v 0, crdDue := tset 0 x.crdDue v 0 })
        if v = vcCOL then (if late ∧ n ≠ 0 then (clear p).push (bypassWord 4 n) else p)
        else if late ∨ periodic then (clear p).push (bypassWord 5 (v + 8 * tget 0 p.rx.retd v))
        else p) p)))

/-- AUDIT_TIMER (R241). Key 5 of `crdDue` holds the last audit. -/
def execAuditTimer (port : Nat) (s : State) : Host.Outcome State Fault Refusal :=
  onUnit (decide (port < 66)) (s.onActive port (fun s =>
    let s := s.reach (tget 0 (s.port port).rx.crdDue 5 + lCycles 175000)
    s.modPort port (fun p =>
      (p.modRx (fun x => { x with crdDue := tset 0 x.crdDue 5 s.now })).push (bypassWord 6 0))))

/-- LOSS_OF_SIGNAL (R245). -/
def execLossOfSignal (port : Nat) (s : State) : Host.Outcome State Fault Refusal :=
  onUnit (decide (port < 66)) (s.retrain port false)

/-- TRAIN_ATTEMPT (R242, R424): at once after ENABLE is set, then every 1 s under AUTO_TRAIN; a fabric port
waits for a node ID. -/
def execTrainAttempt (port : Nat) (s : State) : Host.Outcome State Fault Refusal :=
  onUnit (decide (port < 66)) (
    let p := s.port port
    if p.state == .down && p.enable && !(s.die (dieOfPort port)).inReset && (s.aon.nodeValid || decide (port ≥ 64)) &&
        (!p.tried || p.autoTrain) then
      let s := if p.tried then s.reach (p.since + ms 1000) else s
      s.setPort port { p.fresh .detect s.now with tried := true }
    else s)

/-- DETECT_END (R242). -/
def execDetectEnd (port : Nat) (detected : Bool) (s : State) : Host.Outcome State Fault Refusal :=
  onUnit (decide (port < 66)) (
    let p := s.port port
    if p.state == .detect then
      let s := s.reach (p.since + us 10)
      s.setPort port { p with state := if detected then .train else .down, since := s.now }
    else s)

/-- TRAIN_DONE (R242). -/
def execTrainDone (port : Nat) (s : State) : Host.Outcome State Fault Refusal :=
  onUnit (decide (port < 66)) (s.modPort port (fun p =>
    match p.state with
    | .train => { p with state := .config, since := s.now, wasRetrain := false, cfg := [], cfgCount := 0, cfgSent := 0,
                         stats := tset 0 p.stats 0x68 ((s.now - p.since) / 1260) }
    | .retrain => { p with state := .config, cfg := [], cfgCount := 0, cfgSent := 0 }
    | .down => p
    | .detect => p
    | .config => p
    | .active => p))

/-- TRAIN_TIMEOUT (R242): TRAIN after 100 ms, CONFIG after 1 ms. -/
def execTrainTimeout (port : Nat) (s : State) : Host.Outcome State Fault Refusal :=
  onUnit (decide (port < 66)) (
    let p := s.port port
    if p.state == .train then
      let s := s.reach (p.since + ms 100)
      s.setPort port (p.fresh .down s.now)
    else if p.state == .config && !p.wasRetrain then
      let s := s.reach (p.since + ms 1)
      s.setPort port (p.fresh .down s.now)
    else s)

/-- RETRAIN_TIMEOUT (R242, R248). -/
def execRetrainTimeout (port : Nat) (s : State) : Host.Outcome State Fault Refusal :=
  onUnit (decide (port < 66)) (
    let p := s.port port
    if p.state == .retrain || (p.state == .config && p.wasRetrain) then
      (s.reach (p.since + lCycles 35000)).portDown port downRetrain
    else s)

end Sys2Proof.Machine
end

