-- ==== Sys2Proof/Machine/MemCmds.lean ====
section
/-! DEFINITION. The memory commands: channel settings (R337, R338), statistics (R339), the remap table (R331),
scrub passes (R332 to R335) and the digests of a compare pass (R371). -/
namespace Sys2Proof.Machine

open Sys2Proof

/-- Package channels named by a region mask and a channel mask. -/
def maskedChans (regions chans : Nat) : List Nat :=
  (List.range 384).filter (fun n => tbit regions (n / 32) && tbit chans (n % 32))

/-- MEM_SET (R337): a field out of range stays, and the answer is BOUND. -/
def execMemSet (page : Nat) (c : Cmd) (s : State) : Host.Outcome State Fault Refusal :=
  s.command page 0x0701 c (lenIs c 12) [(0, 2, 0xFFF), (2, 2, 0), (8, 4, 0xFF07FFE1)] .pf false (fun s =>
    let v := arg c 8 4
    let eddy := bitf v 31 24
    let lo := bitf v 18 14
    let hi := bitf v 13 9
    let post := bitf v 8 5
    let okE := decide (1 ≤ eddy ∧ eddy ≤ 45)
    let okP := decide (lo ≤ 30 ∧ 1 ≤ hi ∧ lo < hi)
    let okR := decide (post ≤ 8)
    let s := (maskedChans (arg c 0 2) (arg c 4 4)).foldl (fun s n => s.modChan n (fun x =>
      { x with eddyTh := if okE then eddy else x.eddyTh, panicLo := if okP then lo else x.panicLo,
               panicHi := if okP then hi else x.panicHi,
               panicEn := tbit v 0 }.lowerPostpone (if okR then post else x.refPostpone))) s
    (if okE && okP && okR then .ok else .bound 0x48, s))

/-- FORD_SET (R338). -/
def execFordSet (page : Nat) (c : Cmd) (s : State) : Host.Outcome State Fault Refusal :=
  s.command page 0x0702 c (lenIs c 20) [(0, 2, 0xFFF), (2, 1, 3), (3, 1, 0), (16, 4, 0x1FFFF)] .pf false (fun s =>
    let t := (List.range 8).map (fun i => arg c (8 + i) 1)
    let lim := arg c 16 2
    let doT := tbit (arg c 2 1) 0
    let doC := tbit (arg c 2 1) 1
    let ok := decide (200 ≤ lim)
    let s := (maskedChans (arg c 0 2) (arg c 4 4)).foldl (fun s n => s.modChan n (fun x =>
      { x with tickets := if doT then t else x.tickets,
               starveIe := if doC then tbit (arg c 16 4) 16 else x.starveIe,
               starveLimit := if doC && ok then lim else x.starveLimit })) s
    (if doC && !ok then .bound 0x50 else .ok, s))

/-- A counter of four bytes that saturates. -/
def sat32 (n : Nat) : Nat := min n 0xFFFFFFFF

/-- The record of R339. -/
def Chan.record (x : Chan) (now : Nat) : Bytes :=
  let t := x.stats
  let panicNow := if x.panic then (now - x.panicAt) / 1008 else 0
  (List.range 8).flatMap (fun i => toLe 4 (tget 0 t.grants i) ++ toLe 4 (tget 0 t.waits i) ++ toLe 4 (tget 0 t.waitMax i)) ++
  toLe 8 t.lpReads ++ toLe 4 t.lpStarved ++ toLe 4 t.starved ++ toLe 4 t.panicEntries ++
  toLe 4 (sat32 (t.panicCycles + panicNow)) ++ toLe 4 t.refPostponed ++ toLe 4 t.eddyRefreshes ++ toLe 8 t.eccCorrected ++
  toLe 4 t.eccUncorrected ++ toLe 1 (t.starveReq.foldl (fun n i => n ||| 2 ^ i) 0) ++
  toLe 1 (b2n t.starve + 2 * b2n x.panic) ++ toLe 1 (x.remap.filter (·.isSome)).length ++ toLe 1 t.pendingMax ++
  toLe 4 t.remapRefused ++
  (List.range 11).flatMap (fun i => toLe 4 ((lget none x.remap i).getD 0xFFFFFFFF))

/-- Fields that a read of the record clears (RC of R339). -/
def ChanStats.cleared (t : ChanStats) : ChanStats :=
  { t with waitMax := [], starveReq := [], starve := false, pendingMax := 0 }

/-- MEM_STATS (R339). -/
def execMemStats (page : Nat) (c : Cmd) (s : State) : Host.Outcome State Fault Refusal :=
  s.command page 0x0704 c (lenIs c 16) (opRsv 0) .pf false (fun s =>
    s.statsTo page (opArg c 0) ((List.range 384).flatMap (fun n => (s.chan n).record s.now)) (fun s =>
      (List.range 384).foldl (fun s n => s.modChan n (fun x => { x with stats := x.stats.cleared })) s))

/-- MEM_REMAP_LIST (R339). -/
def execMemRemapList (page : Nat) (c : Cmd) (s : State) : Host.Outcome State Fault Refusal :=
  s.command page 0x0705 c (lenIs c 2) [] .pf false (fun s =>
    if arg c 0 2 ≥ 384 then (.bound 0x40, s)
    else (.done stOK noField ((s.chan (arg c 0 2)).remap.flatMap (fun e => toLe 4 (e.getD 0xFFFFFFFF))), s))

/-! ### The remap table (R331) -/

/-- A spare takes a line: each word in its kind, corrected if it is correctable, else as it stands (R331). -/
def State.renewLine (s : State) (line : Nat) : State :=
  [2 * line, 2 * line + 1].foldl (fun s w =>
    if (afind s.dram.check w).isNone then s
    else match s.dram.word w with
      | some x => { s with dram := s.dram.setWord w x.data x.kind }
      | none => s) s

/-- The line is remapped: every access uses the spare of its entry. -/
def State.remapped (s : State) (line : Nat) : Bool :=
  (s.chan (packageChannel (64 * line))).remap.contains (some (chanWord (64 * line)))

/-- A hard fault of DRAM stands under the line: one that no spare covers. It is back when power-on has emptied the table. -/
def State.hardFaultAt (s : State) (line : Nat) : Bool := s.dram.bad.contains line && !s.remapped line

/-- Remap the line of a PA. From then on `Dram.mem` and `Dram.check` hold at its place the 72 bytes of the spare, which is
what every access meets; the DRAM word under it is out of reach until power-on, which leaves no DRAM content (R50,
assumption 217). `none` when the table of the channel is full. -/
def State.remapLine (s : State) (line : Nat) : Option State :=
  let pa := 64 * line
  let n := packageChannel pa
  let x := chanWord pa
  let t := (s.chan n).remap
  if t.contains (some x) then some s
  else match t.findIdx? (·.isNone) with
    | none => none
    | some i =>
      some ((s.renewLine line).modChan n (fun c => { c with remap := lset t i (some x) }))

def State.remapRefused (s : State) (line : Nat) : State :=
  s.chanStat (64 * line) (fun t => { t with remapRefused := t.remapRefused + 1 })

/-- MEM_REMAP (R331). -/
def execMemRemap (page : Nat) (c : Cmd) (s : State) : Host.Outcome State Fault Refusal :=
  s.command page 0x0703 c (lenIs c 8) [] .pf false (fun s =>
    if arg c 0 8 ≥ poolEnd then (.bound 0x40, s)
    else match s.remapLine (arg c 0 8 / 64) with
      | some s => (.ok, s)
      | none => (.bound 0x40, s.remapRefused (arg c 0 8 / 64)))

/-! ### Commit cycle numbers (R372) -/

/-- The word of commit cycle numbers of a granule is read: it is decoded and counts (R328), and one that cannot be read is
logged and rewritten as zero; at a package that tracks, its eight granules become wholly dirty, for which the read waits for
room in the dirty table (R372, R361). -/
def State.fixCycleNo (s : State) (g : Nat) : State :=
  let w := cycleAddr g / 32
  let bad := match s.dram.word w with | some x => x.kind == .poisoned | none => true
  let first := g - g % stackGranules % 8
  if !bad then (if (afind s.dram.check w).isSome then s.countWord none w else s)
  else if s.lacksEntries (span first 8) then s
  else
    let s := s.countWord none w
    let s := { s with dram := s.dram.setWord w (zeros 32) .clean }
    (span first 8).foldl (fun s k => s.dirtyBlocks k (List.range 256)) (s.logRec lgCYCLE_BAD [g])

/-! ### Digests (R371) -/

/-- The digest of this package's copy of a granule, whose words `poison` says cannot all be used. -/
def State.digestOf (s : State) (g : Nat) (poison : Bool) : Digest :=
  ⟨BitVec.ofNat 32 (s.cycleNo g), BitVec.ofNat 16 ((s.stamp g).getD 0),
   BitVec.ofNat 64 (unitCrc 0xFFFFFFFFFFFFFFFF (s.read none (g * granuleBytes) granuleBytes).1.data), poison⟩

/-- A granule, its stamp and its cycle number are read for a digest: every word counts, and an uncorrectable one is
rewritten poisoned (R328, R329, R372). -/
def State.digest (s : State) (g : Nat) : Digest × State :=
  let s := s.fixCycleNo g
  let (r, s) := s.read none (g * granuleBytes) granuleBytes
  let s := (s.readStamp g).2
  (s.digestOf g r.poison, s)

/-- Send a digest of a granule to the partner. -/
def State.sendDigestOf (s : State) (g : Nat) (d : Digest) : State :=
  s.emit ⟨{ Pkt.zero with ptype := 0x26, addr := BitVec.ofNat 64 g, payload := slice (Config.digestBytes d) 0 16 },
    .rein, none, 7, noPort, none, 0⟩

/-- A granule written in a cycle that is not acknowledged is in flight (R371). -/
def State.inFlight (s : State) (g : Nat) : Bool :=
  later 32 (s.cycleNo g) s.cyc.applied.toNat || (afind (s.region (regionOfGranule g)).dirty g).isSome

/-- The active sends the digest of a granule, unless it is in flight. -/
def State.sendDigest (s : State) (g : Nat) : State :=
  let (d, s) := s.digest g
  if s.inFlight g then s else s.sendDigestOf g d

/-! ### Scrub passes -/

/-- Regions that a range covers. -/
def regionsOf (base len : Nat) : List Nat :=
  (List.range 12).filter (fun g => decide (base < (g + 1) * stackBytes ∧ g * stackBytes < base + len))

/-- The part of a pass in region `g`. -/
def Scrub.lo (x : Scrub) (g : Nat) : Nat := max x.base (g * stackBytes)
def Scrub.hi (x : Scrub) (g : Nat) : Nat := min (x.base + x.len) ((g + 1) * stackBytes)

/-- Granules of a range. -/
def granulesIn (lo hi : Nat) : List Nat := span (lo / granuleBytes) ((hi - lo) / granuleBytes)

def Scrub.fails (x : Scrub) (pa : Nat) : Scrub :=
  { x with firstFail := some (match x.firstFail with | some y => min y pa | none => pa) }

/-- Corrected word: rewritten, read again and remapped as the flags say (R333). -/
def State.scrubFix (s : State) (x : Scrub) (w : Nat) (d : Decoded) : Scrub × State :=
  let x := { x with corrected := x.corrected + 1 }
  let s := s.countWord (if x.vi < 1024 then some x.vi else none) w
  let hard := s.hardFaultAt (w / 2)
  let s := if x.correct && !hard then { s with dram := s.dram.setWord w d.data d.kind } else s
  if x.remap && (hard || !x.correct) then
    match s.remapLine (w / 2) with
    | some s => ({ x with remapped := x.remapped + 1 }, s)
    | none => ({ x with refused := x.refused + 1 }, s.remapRefused (w / 2))
  else (x, s)

/-- One listed word of a valid granule. -/
def State.scrubWord (s : State) (x : Scrub) (w : Nat) : Scrub × State :=
  match s.dram.word w with
  | none =>
    ({ x with uncorrected := x.uncorrected + 1 }.fails (32 * w),
     s.noteWord none w)
  | some d =>
    let (x, s) := if d.corrected then s.scrubFix x w d else (x, s)
    if d.kind == .poisoned then ({ x with poisoned := x.poisoned + 1 }.fails (32 * w), s) else (x, s)

/-- Lines of a granule that carry the lost-dirty mark. -/
def State.markedLines (s : State) (g : Nat) : Nat :=
  (((s.dram.listed (g * granuleBytes) granuleBytes).filter (fun w =>
    match s.dram.word w with | some d => d.kind == .marked | none => false)).map (· / 2)).foldl insSet [] |>.length

/-- The flags of the scrub requester when a standby reads a granule for a digest (R371): it runs for no VI's pass. -/
def Scrub.ofDigest : Scrub :=
  { vi := 1024, id := 0, base := 0, len := 0, correct := true, remap := true, compare := true, result := ⟨0, 0, 0⟩, pos := 0,
    abort := false, reset := false, scanned := 0, skipped := 0, corrected := 0, uncorrected := 0, poisoned := 0, marked := 0,
    remapped := 0, refused := 0, divergent := 0, firstFail := none, resume := none }

/-- One granule of a pass (R333). -/
def State.scrubGranule (s : State) (x : Scrub) (g : Nat) : Scrub × State :=
  if !s.isValid g then ({ x with skipped := x.skipped + 1 }, s)
  else
    let x := { x with scanned := x.scanned + granuleBytes, marked := x.marked + s.markedLines g }
    (s.dram.listed (g * granuleBytes) granuleBytes).foldl (fun (a : Scrub × State) w => a.2.scrubWord a.1 w) (x, s)

/-- The record of R335 of a pass whose last part has ended. -/
def Scrub.record (x : Scrub) : Bytes :=
  let st := if x.reset then stRETRY else if x.abort then stCANCELLED else stOK
  toLe 8 x.scanned ++ toLe 4 x.skipped ++ toLe 4 x.corrected ++ toLe 4 x.uncorrected ++ toLe 4 x.poisoned ++
  toLe 4 x.marked ++ toLe 4 x.remapped ++ toLe 4 x.refused ++ toLe 4 x.divergent ++ toLe 2 st ++ zeros 6 ++
  toLe 8 (x.firstFail.getD 0xFFFFFFFFFFFFFFFF) ++ toLe 8 (x.resume.getD (x.base + x.len))

def Scrub.status (x : Scrub) : Nat := if x.reset then stRETRY else if x.abort then stCANCELLED else stOK

def minOpt (a b : Option Nat) : Option Nat :=
  match a, b with
  | some x, some y => some (min x y)
  | some x, none => some x
  | none, y => y

/-- Sum an ended part into another part of the pass. -/
def Scrub.join (x y : Scrub) : Scrub :=
  { x with scanned := x.scanned + y.scanned, skipped := x.skipped + y.skipped, corrected := x.corrected + y.corrected,
           uncorrected := x.uncorrected + y.uncorrected, poisoned := x.poisoned + y.poisoned,
           marked := x.marked + y.marked, remapped := x.remapped + y.remapped, refused := x.refused + y.refused,
           divergent := x.divergent + y.divergent, firstFail := minOpt x.firstFail y.firstFail,
           resume := minOpt x.resume y.resume, abort := x.abort || y.abort, reset := x.reset || y.reset }

/-- A part has ended: it is summed into another running part, or the pass is over: the record is written and
SCRUB_DONE posted (R335). -/
def State.scrubJoin (s : State) (g : Nat) (x : Scrub) : State :=
  let s := s.modRegion g (fun r => { r with scrub := none })
  match s.regions.find? (fun r => match r.2.scrub with | some y => y.id == x.id | none => false) with
  | some r => s.modRegion r.1 (fun q => { q with scrub := q.scrub.map (fun y => y.join x) })
  | none =>
    let (st, s) := s.writeOp (.scrub x.id) x.result x.record
    if isWait st then s.modRegion g (fun r => { r with scrub := some x }) else
    (s.endOp (.scrub x.id)).post x.vi evSCRUB_DONE x.status (toLe 2 x.result.window ++ toLe 6 x.result.off)

/-- A part completes, or ends where an abort or a reset finds it (R332, R335). -/
def State.scrubEnd (s : State) (g : Nat) : State :=
  match (s.region g).scrub with
  | none => s
  | some x =>
    if x.abort || x.reset then
      s.scrubJoin g (if x.pos < x.hi g then { x with resume := minOpt x.resume (some x.pos) } else x)
    else
      let (y, s) := (granulesIn x.pos (x.hi g)).foldl (fun (a : Scrub × State) k => a.2.scrubGranule a.1 k) (x, s)
      (s.count y.vi 0x3278 (y.scanned - x.scanned)).scrubJoin g { y with pos := x.hi g }

/-- The pass that runs in a region goes on by one granule (R333), so that an abort finds it at a 64 KiB boundary inside its
part (R332). The idle step calls it (assumption 218). -/
def State.scrubNext (s : State) (g : Nat) : State :=
  match (s.region g).scrub with
  | none => s
  | some x =>
    if x.abort || x.reset || (s.region g).inReset || decide (x.hi g ≤ x.pos) then s
    else
      let (y, s) := s.scrubGranule x (x.pos / granuleBytes)
      (s.count y.vi 0x3278 (y.scanned - x.scanned)).modRegion g (fun r =>
        { r with scrub := some { y with pos := x.pos + granuleBytes } })

/-- Every running pass goes on by one granule. -/
def State.scrubTick (s : State) : State := (s.regions.map (·.1)).foldl (fun s g => s.scrubNext g) s

/-- SCRUB_PASS_END (R335). -/
def execScrubPassEnd (region : Nat) (s : State) : Host.Outcome State Fault Refusal :=
  onUnit (decide (region < 12)) (s.scrubEnd region)

/-- A reset reaches region `g`: the pass that runs there ends with RETRY_LATER. -/
def State.scrubReset (s : State) (g : Nat) : State :=
  match (s.region g).scrub with
  | none => s
  | some x =>
    ({ s with regions := s.regions.map (fun (r : Nat × Region) =>
        (r.1, { r.2 with scrub := r.2.scrub.map (fun (y : Scrub) => if y.id = x.id then { y with reset := true } else y) })) }).scrubEnd g

/-- Every granule of the range lies in an ACTIVE extent of the VI. -/
def State.ownsRange (s : State) (vi base len : Nat) (mirrored : Bool) : Bool :=
  (granulesIn base (base + len)).all (fun g => match s.extentOf g with
    | some (_, e) => if mirrored then e.mirrored else e.state == .active && e.ownerVi == vi
    | none => false)

/-- SCRUB_START (R332, R371). -/
def execScrubStart (page : Nat) (c : Cmd) (s : State) : Host.Outcome State Fault Refusal :=
  s.command page 0x0706 c (lenIs c 40) ([(16, 1, 7), (17, 7, 0)] ++ opRsv 24) .any (!isPf page) (fun s =>
    let base := arg c 0 8
    let len := arg c 8 8
    let fl := arg c 16 1
    let cmp := tbit fl 2
    let op := opArg c 24
    let rs := regionsOf base len
    if base % granuleBytes ≠ 0 ∨ base ≥ poolEnd then (.bound 0x40, s)
    else if len % granuleBytes ≠ 0 ∨ len = 0 ∨ base + len > poolEnd then (.bound 0x48, s)
    else if !isPf page && !s.ownsRange page base len false then (.bound 0x40, s)
    else if cmp && !(s.pair.state == .active && isPf page && s.isCoord && s.ownsRange page base len true) then (.bound 0x50, s)
    else if s.foreignOp page op then (.bound 0x58, s)
    else if op.len < 64 then (.bound 0x60, s)
    else if rs.any (fun g => (s.region g).scrub.isSome || (s.region g).inReset) then (.fail stRETRY, s)
    else
      let id := (s.regions.filterMap (fun r => r.2.scrub.map (·.id))).foldl max 0 + 1
      let x : Scrub :=
        { vi := page, id := id, base := base, len := len, correct := tbit fl 0, remap := tbit fl 1, compare := cmp,
          result := op, pos := 0, abort := false, reset := false, scanned := 0, skipped := 0, corrected := 0,
          uncorrected := 0, poisoned := 0, marked := 0, remapped := 0, refused := 0, divergent := 0, firstFail := none,
          resume := none }
      let s := rs.foldl (fun s g => s.modRegion g (fun r => { r with scrub := some { x with pos := x.lo g } })) s
      let s := if cmp then ((granulesIn base (base + len)).filter (fun g => s.isValid g)).foldl
          (fun s g => s.sendDigest g) s else s
      (.ok, s))

/-- SCRUB_ABORT (R332): the passes of the issuing VI end. -/
def execScrubAbort (page : Nat) (c : Cmd) (s : State) : Host.Outcome State Fault Refusal :=
  s.command page 0x0707 c (lenIs c 0) [] .any false (fun s =>
    (.ok, { s with regions := s.regions.map (fun (r : Nat × Region) =>
      (r.1, { r.2 with scrub := r.2.scrub.map (fun (y : Scrub) => if y.vi = page then { y with abort := true } else y) })) }))

end Sys2Proof.Machine
end

