-- ==== Sys2Proof/Machine/FabricCmds.lean ====
section
/-! DEFINITION. The commands of links, transport and scheduler (R252, R253, R282, R283, R286, R295 to R297,
R307, R403). -/
namespace Sys2Proof.Machine

open Sys2Proof

/-- LINK_CTL of one port (R252): REPLAY_N 0 is refused; ENABLE 0 takes the port down, ENABLE set from 0 lets
it train at once (R242). -/
def State.linkCtl (s : State) (i v : Nat) : State :=
  let n := bitf v 7 4
  let was := (s.port i).enable
  let s := s.modPort i (fun p =>
    { p with leakRetrain := bitf v 21 12, replayN := if n = 0 then p.replayN else n, autoTrain := tbit v 1,
             enable := tbit v 0, tried := p.tried && (was || !tbit v 0) })
  if tbit v 0 then s else s.portDown i downDisabled

/-- LINK_SET (R252). -/
def execLinkSet (page : Nat) (c : Cmd) (s : State) : Host.Outcome State Fault Refusal :=
  s.command page 0x0801 c (lenIs c 20) [(0, 16, 2 ^ 66 - 1), (16, 4, 0x3FF0F3)] .pf false (fun s =>
    let s := ((List.range 66).filter (fun i => tbit (arg c 0 16) i)).foldl (fun s i => s.linkCtl i (arg c 16 4)) s
    (if bitf (arg c 16 4) 7 4 = 0 then .bound 0x50 else .ok, s))

/-- Codes of R253. -/
def LinkState.code (x : LinkState) : Nat :=
  match x with
  | .down => 0 | .detect => 1 | .train => 2 | .config => 3 | .active => 4 | .retrain => 5

/-- The record of R253. -/
def Port.record (p : Port) : Bytes :=
  let n (o : Nat) : Nat := tget 0 p.stats o
  (List.range 8).flatMap (fun k => toLe 8 (n (8 * k))) ++ (List.range 7).flatMap (fun k => toLe 4 (n (0x40 + 4 * k))) ++
  toLe 2 p.tx.leakEst ++ toLe 2 (n 0x5E) ++ toLe 2 (n 0x60) ++ toLe 1 p.state.code ++
  toLe 1 (p.tx.rcount % 128 + 128 * b2n p.tx.retrained) ++ toLe 2 (p.partner % 2 ^ 15) ++ zeros 2 ++ toLe 4 (n 0x68) ++
  zeros 20

/-- LINK_STATS (R253): LEAK_MAX and REPLAY_OCC_MAX are cleared. -/
def execLinkStats (page : Nat) (c : Cmd) (s : State) : Host.Outcome State Fault Refusal :=
  s.command page 0x0802 c (lenIs c 16) (opRsv 0) .pf false (fun s =>
    s.statsTo page (opArg c 0) ((List.range 66).flatMap (fun i => (s.port i).record)) (fun s =>
      (List.range 66).foldl (fun s i => s.modPort i (fun p =>
        { p with stats := tset 0 (tset 0 p.stats 0x5E 0) 0x60 0 })) s))

/-- XPORT_SET (R282). -/
def execXportSet (page : Nat) (c : Cmd) (s : State) : Host.Outcome State Fault Refusal :=
  s.command page 0x0803 c (lenIs c 4) [(0, 4, 0xFF7F07)] .pf false (fun s =>
    let v := arg c 0 4
    let ai := bitf v 23 16
    let t := bitf v 14 8
    let r := bitf v 2 0
    let okA := decide (1 ≤ ai ∧ ai ≤ 128)
    let okT := decide (1 ≤ t ∧ t ≤ 100)
    let okR := decide (r ≤ 4)
    let s := s.modFabric (fun f =>
      { f with weirAi := if okA then ai else f.weirAi, e2eTimeout := if okT then t else f.e2eTimeout,
               e2eRetry := if okR then r else f.e2eRetry })
    (if okA && okT && okR then .ok else .bound 0x40, s))

/-- The record of R283. -/
def LinkDie.record (d : LinkDie) : Bytes :=
  let n (o : Nat) : Nat := tget 0 d.stats o
  (List.range 3).flatMap (fun k => toLe 8 (n (8 * k))) ++ (List.range 15).flatMap (fun k => toLe 4 (n (0x18 + 4 * k))) ++
  toLe 4 d.ctxs.length ++ toLe 4 (n 0x58) ++ zeros 4

/-- XPORT_STATS (R283): REQ_CTX_MAX is cleared. -/
def execXportStats (page : Nat) (c : Cmd) (s : State) : Host.Outcome State Fault Refusal :=
  s.command page 0x0804 c (lenIs c 16) (opRsv 0) .pf false (fun s =>
    s.statsTo page (opArg c 0) ((List.range 4).flatMap (fun l => (s.die l).record)) (fun s =>
      (List.range 4).foldl (fun s l => s.modDie l (fun d => { d with stats := tset 0 d.stats 0x50 0 })) s))

/-- The class table that SCHED_SET leaves: entries out of range keep their value; the flag says that all were
in range (R295, R296). -/
def classTable (old : List (Nat × Nat)) (b : Bytes) : List (Nat × Nat) × Bool :=
  let l := (List.range 8).map (fun c =>
    let o := old.getD c (1, 1)
    let w := fld b (8 * c) 1
    let q := fld b (8 * c + 2) 2
    let okW := decide (1 ≤ w)
    let okQ := decide (1 ≤ q ∧ q ≤ 4096)
    ((if okW then w else o.1, if okQ then q else o.2), okW && okQ))
  (l.map (·.1), l.all (·.2))

/-- SCHED_SET (R295, R296). -/
def execSchedSet (page : Nat) (c : Cmd) (s : State) : Host.Outcome State Fault Refusal :=
  s.command page 0x0805 c (lenIs c 72) ([(0, 4, 0x100FF), (4, 1, 3), (5, 3, 0)] ++
      (List.range 8).flatMap (fun k => [(9 + 8 * k, 1, 0), (12 + 8 * k, 4, 0)])) .pf false (fun s =>
    let s := if tbit (arg c 4 1) 0 then s.modSched (fun x =>
        { x with adapt := tbit (arg c 0 4) 16, overhead := arg c 0 1 }) else s
    if tbit (arg c 4 1) 1 then
      let (t, ok) := classTable s.sched.classes (slice (cmdBytes c) 8 64)
      if (t.map (·.1)).foldl (· + ·) 0 > 256 then (.bound 0x48, s)
      else (if ok then .ok else .bound 0x48, s.modSched (fun x => { x with classes := t }))
    else (.ok, s))

/-- The scheduler instance is out of reset. -/
def State.instUp (s : State) (i : Nat) : Bool := if i < 4 then !(s.die i).inReset else !(s.hostPort (i - 4)).perst

/-- Put a scheduling entry in force: classes of the VI's windows rise to a raised CLASS_MIN (R286, R297). A shaper goes
on with its old rate and depth until its next refill (R289). -/
def State.putViSched (s : State) (vi : Nat) (e : ViSched) : State :=
  let s := ((List.range 6).filter s.instUp).foldl (fun s i => s.setShaper i vi (s.shaper i vi)) s
  let s := s.modVi vi (fun v => { v with sched := e })
  ((List.range 1024).filter (fun w => (s.win w).ownerVi == vi && decide ((s.win w).cls < e.classMin))).foldl
    (fun s w => s.setWin w { s.win w with cls := e.classMin }) s

/-- VI_SCHED_SET (R297). -/
def execViSchedSet (page : Nat) (c : Cmd) (s : State) : Host.Outcome State Fault Refusal :=
  s.command page 0x0806 c (lenIs c 16)
    [(0, 2, 0x3FF), (2, 6, 0), (8, 2, 0x3FFF), (10, 2, 0x1FFF), (13, 1, 7), (14, 2, 0)] .pf false (fun s =>
    let v := arg c 0 2
    let b := slice (cmdBytes c) 8 8
    if !mayAct page v || !s.viExists v then (.bound 0x40, s)
    else match parseViSched b with
      | none => (.bound 0x48, s)
      | some e => (.mirrored [.viSched v b] [], s.putViSched v e))

/-- The record of R307. -/
def SchedPort.record (x : SchedPort) : Bytes :=
  (List.range 8).flatMap (fun c =>
    toLe 4 (tget 0 x.qmean c) ++ toLe 4 (tget 0 x.qmax c) ++ toLe 4 (tget 0 x.excess c) ++ toLe 1 (lget 0 x.weff c) ++ zeros 3)

/-- What a read of its record leaves of a port: EXCESS is cleared, and QUEUED_MAX starts again at what is queued. -/
def State.schedRead (s : State) (p : Nat) : State :=
  s.setSchedPort p { s.schedPort p with
    excess := [], qmax := (List.range 8).foldl (fun t c => tset 0 t c (s.queuedOf p c)) [] }

/-- SCHED_STATS (R307): QUEUED_MAX and EXCESS are cleared. -/
def execSchedStats (page : Nat) (c : Cmd) (s : State) : Host.Outcome State Fault Refusal :=
  s.command page 0x0807 c (lenIs c 16) (opRsv 0) .pf false (fun s =>
    s.statsTo page (opArg c 0) ((List.range 66).flatMap (fun p => (s.schedPort p).record)) (fun s =>
      (List.range 66).foldl (fun s p => s.schedRead p) s))

end Sys2Proof.Machine
end

