-- ==== Sys2Proof/Machine/Extents.lean ====
section
/-! DEFINITION. Leases and tenants (R53 to R55, R385), extents and their revocation (R51, R52, R56, R57,
R88, R142, R439), windows, table updates and miss replies (R35 to R37, R40, R41, R44, R46, R286), the node
table (R260, R261), caching agents (R64, R83) and `COH_CTL` (R463). -/
namespace Sys2Proof.Machine

open Sys2Proof

/-! ### Revocation (R56)

The sequence stands still while complex 0 is in reset (R430). -/

/-- A tile of a stream has a byte of its state or of a residual slice in the extent (R111, R142). -/
def State.tileUses (s : State) (x : Stream) (t ext : Nat) : Bool :=
  (x.desc.units t).any (fun u => (s.spansOf { u.1 with off := u.1.off + u.2.1, len := u.2.2 }).any (fun y => y.2.2.2 == ext))

/-- The streams whose target or workspace lies in the extent, with the tiles (R142). -/
def State.streamsOn (s : State) (ext : Nat) : List (Nat × List Nat × Bool) :=
  s.streams.filterMap (fun e =>
    let whole := (List.range 12).any (fun g => (e.2.ws g).present && (s.spansOf (e.2.ws g)).any (fun y => y.2.2.2 == ext))
    let hit := e.2.selTiles.filter (fun t => s.tileUses e.2 t ext)
    if e.2.openNow && (whole || !hit.isEmpty) then some (e.1, hit, whole) else none)

/-- An extent leaves ACTIVE: step 1 and step 2. The drain limit is the one of this moment (R463). -/
def State.beginRevoke (s : State) (ext : Nat) (st : ExtState) (status : Nat) : State :=
  let r : Revoke :=
    { status := status, t0 := s.now, drainEnd := s.now + ns 500 + fastEdge s (us s.home.drainUs), step := 2,
      inFlight := [], tiles := [], limit := s.home.drainUs, cycleWait := none, drained := 0, aborted := 0, unanswered := 0, cohWait := 0,
      hits := s.streamsOn ext }
  { s.setExt ext { s.ext ext with state := st } with revokes := tput s.revokes ext r }

def State.modRevoke (s : State) (ext : Nat) (f : Revoke → Revoke) : State :=
  { s with revokes := amod s.revokes ext f }

/-- The request has passed check 6 of R34 on the extent. -/
def Waiting.uses (w : Waiting) (ext : Nat) : Bool :=
  match w.plan with
  | some p => (p.src ++ p.dst).any (fun x => x.ext == ext)
  | none => false

/-- Tiles whose translation an engine holds, as (engine, entry): those that run, and those claimed whose pages are
looked up. A tile that has only gather writes left to send moves no byte of its own any more. -/
def State.heldTiles (s : State) : List (Nat × QEntry) :=
  s.engines.filterMap (fun e =>
    match e.2.tile with
    | some r => if r.sending then none else some (e.1, r.entry)
    | none => (e.2.claim.filter (fun k => !k.looks.isEmpty)).map (fun k => (e.1, k.entry)))

/-- Batches that are accepted and not written yet. -/
def State.batches (s : State) : List Batch := s.regions.flatMap (fun r => r.2.commit)

/-- An accepted batch writes a granule of the extent. -/
def State.batchIn (s : State) (ext : Nat) (b : Batch) : Bool :=
  (b.granule :: b.writes.map (fun w => granuleOf w.1)).any (fun g => ((s.extentOf g).map (·.1)) == some ext)

/-- Tiles in flight that passed check 6 on the extent: an engine runs them, or their batch is not written yet. -/
def State.tilesIn (s : State) (ext : Nat) : List (Nat × Nat) :=
  s.engines.filterMap (fun e => e.2.tile.bind (fun r =>
    if !r.sending && r.exts.contains ext then some (r.entry.stream, r.entry.tile) else none)) ++
  (s.batches.filter (fun b => s.batchIn ext b)).map (fun b => (b.stream, b.tile))

/-- Abort engine tiles whole (R57). -/
def State.abortTiles (s : State) (l : List (Nat × Nat)) (status : Nat) : State :=
  (s.heldTiles.filter (fun h => l.contains (h.2.stream, h.2.tile))).foldl (fun s h => s.abortTile h.1 status false) s

/-- Batches of tiles that have been accepted complete their writes (R57, R154). -/
def State.flushTiles (s : State) (l : List (Nat × Nat)) : State :=
  (s.batches.filter (fun b => l.contains (b.stream, b.tile))).foldl (fun s b => s.flushBatch b) s

/-- Step 3: the requests in flight are counted. -/
def State.revokeStart (s : State) (ext : Nat) : State :=
  match afind s.revokes ext with
  | some r =>
    if r.step ≠ 2 then s
    else
      (s.reach (r.t0 + ns 500)).modRevoke ext (fun r =>
        { r with step := 4, inFlight := (s.waiting.filter (fun w => w.uses ext)).map (·.id), tiles := s.tilesIn ext })
  | none => s

/-- A pair cycle has been acknowledged, or the pair waits for none any more. -/
def State.cycleDone (s : State) (n : Word32) : Bool :=
  s.pair.state != .active ||
  !(s.cyc.cycle == n || s.cyc.closedWait == some n || s.cyc.shipping == some n ||
    (match s.cyc.committed with | some c => c.1 == n | none => false))

/-- What of a revocation's requests and tiles is still in flight. -/
def State.stillOpen (s : State) (reqs : List Nat) (tiles : List (Nat × Nat)) : List Nat × List (Nat × Nat) :=
  (reqs.filter (fun i => (s.waitOf i).isSome),
   tiles.filter (fun t => s.heldTiles.any (fun h => h.2.stream == t.1 && h.2.tile == t.2) ||
     s.batches.any (fun b => b.stream == t.1 && b.tile == t.2)))

/-- A tile can no longer be stopped: it is accepted, its writes are on their way, or it has its outcome. -/
def Stream.past (x : Stream) (t : Nat) : Bool :=
  x.accepted.contains t || x.unanswered.any (fun u => u.1 == t) || (afind x.outcomes t).isSome

/-- Tiles of a stream end with a status before acceptance, wherever they are (R142, R169). -/
def State.stopTiles (s : State) (n : Nat) (hit : List Nat) (st : Nat) : State :=
  let s := (s.enginesOf n).foldl (fun s e => if hit.contains e.2.entry.tile then s.abortTile e.1 st false else s) s
  let s := s.dropTiles n (fun t => hit.contains t)
  let s := s.modStream n (fun x => { x with completed := hit.foldl insSet x.completed })
  (hit.foldl (fun s t => s.failTile n t st) s).freeHolds

/-- A stream whose target or workspace lies in the extent (R142, R166). -/
def State.revokeStream (s : State) (n : Nat) (x : Stream) (hits : List (Nat × List Nat × Bool)) (status : Nat) : State :=
  let mine := hits.filter (fun h => h.1 == n)
  let whole := mine.any (fun h => h.2.2)
  let hit := x.selTiles.filter (fun t => !x.past t && (whole || mine.any (fun h => h.2.1.contains t)))
  if !x.openNow || (hit.isEmpty && !whole) then s
  else (s.modStream n (fun x => { x with revoked := x.revoked || whole })).stopTiles n hit (if whole then stREVOKED else status)

def State.revokeStreams (s : State) (ext : Nat) (r : Revoke) : State :=
  let hits := r.hits ++ s.streamsOn ext
  s.streams.foldl (fun s e => s.revokeStream e.1 e.2 hits r.status) s

/-- Blocks of the extent that no closed cycle has taken are dropped (R439). -/
def State.dropDirty (s : State) (ext : Nat) : State :=
  let e := s.ext ext
  { s with regions := s.regions.map (fun (q : Nat × Region) =>
    (q.1, { q.2 with dirty := q.2.dirty.filter (fun d => !decide (e.first ≤ d.1 ∧ d.1 < e.first + e.count)) })) }

/-- Step 5: what is still in flight is aborted with S; blocks still dirty in an open cycle are dropped
(R439). -/
def State.abortExt (s : State) (ext : Nat) (r : Revoke) : State :=
  -- accepted batches of the extent complete their writes (R57)
  let s := (s.batches.filter (fun b => s.batchIn ext b)).foldl (fun s b => s.flushBatch b) s
  let (reqs, tiles) := s.stillOpen r.inFlight r.tiles
  let s := s.abortTiles tiles r.status
  let s := reqs.foldl (fun s i => s.failReq i r.status) s
  let s := (s.revokeStreams ext r).drainMeshes
  let s := s.dropDirty ext
  let n := reqs.length + tiles.length
  s.modRevoke ext (fun r => { r with step := 6, aborted := r.aborted + n,
                                     drained := r.drained + (r.inFlight.length + r.tiles.length - n) })

/-- The drain ends (R56, R439): at the limit, or earlier when nothing counted is left. For a mirrored extent
in ACTIVE step 5 waits for the limit and for the cycle that was open when the drain ended. -/
def State.revokeDrainEnd (s : State) (ext : Nat) : State :=
  match afind s.revokes ext with
  | none => s
  | some r =>
    if r.step = 4 then
      let (reqs, tiles) := s.stillOpen r.inFlight r.tiles
      let s := if reqs.isEmpty && tiles.isEmpty then s else s.reach r.drainEnd
      if (s.ext ext).mirrored && s.pair.state == .active then
        s.modRevoke ext (fun r => { r with step := 5, cycleWait := some s.cyc.cycle })
      else s.abortExt ext r
    else if r.step = 5 then
      if (match r.cycleWait with | some n => s.cycleDone n | none => true) then (s.reach r.drainEnd).abortExt ext r else s
    else s

/-- The request waits at the home for a line. -/
def Why.line? (y : Why) : Option Nat :=
  match y with
  | .txn l => some l
  | .parked l => some l
  | .miss _ _ _ => none
  | .fill _ => none
  | .fillRoom _ => none
  | .mesh _ => none
  | .stamp _ => none
  | .retryMiss => none
  | .cycle => none
  | .role => none

/-- Items 1 and 2 of R88: open transactions end and their requesters are answered, then every entry is invalidated. -/
def State.backInvalidate (s : State) (ext status : Nat) : State :=
  let ids := s.waitersFor (fun y => match y.line? with
    | some l => ((s.extentOf (granuleOf (64 * l))).map (·.1)) == some ext
    | none => false)
  let s := ids.foldl (fun s i => s.failReq i status) s
  let s := (s.extTxns ext).foldl (fun s t => s.cutTxn t.1) s
  (s.revokeSnoops ext).drainMeshes

/-- A page that has been looked up lies in the extent: its outcome is the status of the revocation (check 6). -/
def PageLook.revoked (p : PageLook) (ext status : Nat) : PageLook :=
  match p.res with
  | .ok x => if x.ext = ext then { p with res := .fail 6 status } else p
  | .wait _ _ => p
  | .fail _ _ => p

/-- Lookups that found a page of the extent, and whose access still waits for another page, do not outlive it. -/
def State.revokeLooks (s : State) (ext status : Nat) : State :=
  let cut (l : List PageLook) : List PageLook := l.map (fun p => p.revoked ext status)
  { s with
    waiting := s.waiting.map (fun q => { q with looks := cut q.looks }),
    opLooks := s.opLooks.map (fun q => { q with looks := cut q.looks }),
    engines := s.engines.map (fun (e : Nat × Engine) =>
      (e.1, { e.2 with claim := e.2.claim.map (fun k => { k with looks := cut k.looks }) })),
    streams := s.streams.map (fun (x : Nat × Stream) =>
      (x.1, { x.2 with relLooks := x.2.relLooks.map (fun r => (r.1, cut r.2)) })) }

/-- Step 6 after the back-invalidation, on this package's own copy (R56, R379): metadata, mirror and cache
entries and raw windows go. -/
def State.clearExtent (s : State) (ext : Nat) : State :=
  let e := s.ext ext
  let lines := (s.extLines ext).map (·.1)
  let s := (s.extTxns ext).foldl (fun s t => s.cutTxn t.1) (s.revokeLooks ext (s.revokeStatus ext))
  let s := s.modHome (fun h => { h with dir := h.dir.filter (fun d => !lines.contains d.1) })
  let s := (s.home.marking.filter (fun m => m.2.1 == ext)).foldl (fun s m => s.markOver m.1 ext) s
  let s := s.clearGranules e.first e.count
  let keep (r : Run) : Bool := r.extent != ext
  let s := s.filterMirrors keep
  { s with
    regions := s.regions.map (fun (q : Nat × Region) => (q.1, { q.2 with tcache := q.2.tcache.filter keep }))
    wins := s.wins.map (fun (w : Nat × Win) => (w.1, if w.2.kind = 1 ∧ w.2.extentId = ext then { w.2 with kind := 0 } else w.2))
    vis := s.vis.map (fun (v : Nat × Vi) => (v.1, if v.2.pageExt = ext then { v.2 with pageExt := 0 } else v.2)) }

/-- Agents that have not answered for a line of the extent: those whose snoops are open, and those of entries for which
no transaction could be opened (R65, R88). -/
def State.unanswered (s : State) (ext : Nat) : List Nat :=
  ((s.extTxns ext).flatMap (fun t => t.2.snoops.map (·.agent)) ++
   (s.extLines ext).flatMap (fun e => if (s.txn e.1).isSome then [] else s.liveAgents e.2)).foldl insSet []

/-- Step 7: the extent is FREE. The standby takes the revocation once every earlier cycle is acknowledged, and `EXT_REVOKE`
is answered after it (R344, R439). -/
def State.freeExtent (s : State) (ext : Nat) : State :=
  match afind s.revokes ext with
  | none => s
  | some r =>
    let left := s.unanswered ext
    let n := r.unanswered + left.length
    let s := if left.isEmpty then s else s.logRec lgREVOKE_UNANSWERED [ext, left.length]
    let s := (s.dropDirty ext).clearExtent ext
    let s := State.removeSteps { s.setExt ext { s.ext ext with state := .free } with revokes := tdel s.revokes ext }
    match s.waitsFor 0x0211 ext with
    | some v => (s.sendAfter v (.revoke ext)).finishMirrored v [] (toLe 4 r.drained ++ toLe 4 r.aborted ++ toLe 4 n)
    | none => s.sendAfter 1024 (.revoke ext)

/-- REVOKE_CLEAR: step 5 is done in every region. -/
def State.revokeClear (s : State) (ext : Nat) : State :=
  match afind s.revokes ext with
  | none => s
  | some r =>
    if r.step ≠ 6 then s
    else if !(s.ext ext).coherent then s.freeExtent ext
    else
      let s := s.backInvalidate ext r.status
      s.modRevoke ext (fun r => { r with step := 7, cohWait := s.now + fastEdge s (ns 1500) })

/-- REVOKE_SNOOP_WAIT_END: every answer has come, or 1.5 µs have passed (R88). -/
def State.snoopWaitEnd (s : State) (ext : Nat) : State :=
  match afind s.revokes ext with
  | none => s
  | some r =>
    if r.step ≠ 7 then s
    else ((if (s.extTxns ext).isEmpty then s else s.reach r.cohWait)).freeExtent ext

def execRevokeDrainStart (extent : Nat) (s : State) : Host.Outcome State Fault Refusal :=
  onUnit (decide (extent < 65536)) (if s.complexUp 0 then s.revokeStart extent else s)

def execRevokeDrainEnd (extent : Nat) (s : State) : Host.Outcome State Fault Refusal :=
  onUnit (decide (extent < 65536)) (if s.complexUp 0 then s.revokeDrainEnd extent else s)

def execRevokeClear (extent : Nat) (s : State) : Host.Outcome State Fault Refusal :=
  onUnit (decide (extent < 65536)) (if s.complexUp 0 then s.revokeClear extent else s)

def execRevokeSnoopWaitEnd (extent : Nat) (s : State) : Host.Outcome State Fault Refusal :=
  onUnit (decide (extent < 65536)) (if s.complexUp 0 then s.snoopWaitEnd extent else s)

/-! ### Leases (R53 to R55) -/

/-- Open miss entries of a window close. -/
def State.closeMisses (s : State) (w : Nat) (status : Option Nat) (hit : Miss → Bool) : State :=
  (s.regions.flatMap (fun r => (r.2.miss.filter (fun m => m.window == w && hit m)).map (fun m => (r.1, m.chunk)))).foldl
    (fun s m => s.missClosed m.1 w m.2 status) s

/-- Mirror and cache entries of a window go (R37). -/
def State.dropRuns (s : State) (w : Nat) : State :=
  let s := s.filterMirrors (fun r => r.window != w)
  { s with regions := s.regions.map (fun (q : Nat × Region) =>
    (q.1, { q.2 with tcache := q.2.tcache.filter (fun r => r.window != w) })) }

/-- Start a lease, or renew it. -/
def State.startLease (s : State) (vi n : Nat) : State :=
  s.modVi vi (fun v =>
    { v with lease := ⟨true, n, s.now + slowEdge s (ms n / 2), s.now + fastEdge s (ms n), false, false⟩ })

/-- Program slots of a VI whose lease has ended: each is freed once no open stream names it (R215). -/
def State.orphanProgs (s : State) (vi : Nat) : State :=
  let l := s.progs.map (fun p => (p.1, if p.2.owner = vi then { p.2 with orphan := true } else p.2))
  ({ s with progs := l } : State).freeOrphans

/-- The end of a lease (R55, R83, R215, R375): the number of extents reclaimed. -/
def State.endLease (s : State) (vi status : Nat) : Nat × State :=
  let s := s.modVi vi (fun v =>
    { v with lease := { v.lease with running := false, closed := status == stREVOKED, due := false },
             enabled := v.enabled && !isTenant vi })
  let mine := (s.exts.filter (fun e => e.2.ownerVi == vi && e.2.state == .active)).map (·.1)
  let s := mine.foldl (fun s e => s.beginRevoke e .reclaiming status) s
  let wins := (s.wins.filter (fun w => w.2.kind != 0 && w.2.ownerVi == vi)).map (·.1)
  let s := wins.foldl (fun s w => (s.setWin w { s.win w with kind := 0 }).dropRuns w) s
  let s := wins.foldl (fun s w => s.closeMisses w (some status) (fun _ => true)) s
  let ags := (s.home.agents.filter (fun a => a.2.vi == vi)).map (·.1)
  let s := ags.foldl (fun s a => s.endAgent a) s
  let s := s.orphanProgs vi
  let s := (s.logRec lgLEASE_EXPIRED [vi, mine.length]).post (pfOf (complexOf vi)) evEXT_RECLAIMED 0
    (toLe 2 vi ++ toLe 4 mine.length)
  (mine.length, s)

/-- A lease timer ends (R53, R55). While complex 0 is in reset the rest of R55 waits (R428). -/
def State.leaseExpire (s : State) (vi : Nat) : State :=
  if !(s.vi vi).lease.running then s
  else
    let s := s.reach (s.vi vi).lease.endAt
    if s.complexUp 0 then ((s.endLease vi stLEASE_EXPIRED).2).sendMirror 1024 (.lease vi false 0)
    else s.modVi vi (fun v => { v with lease := { v.lease with running := false, due := true } })

/-- Expiries that fell due while complex 0 was in reset (R428). -/
def State.dueLeases (s : State) : State :=
  ((s.vis.filter (fun v => v.2.lease.due)).map (·.1)).foldl (fun s v =>
    ((s.endLease v stLEASE_EXPIRED).2).sendMirror 1024 (.lease v false 0)) s

def execLeaseExpire (vi : Nat) (s : State) : Host.Outcome State Fault Refusal :=
  onUnit (decide (vi < 1024)) (s.leaseExpire vi)

/-- The length of a lease in ms is in range. -/
def leaseMs (n : Nat) : Bool := decide (100 ≤ n ∧ n ≤ 60000)

/-- LEASE_OPEN (R53, R401). -/
def execLeaseOpen (page : Nat) (c : Cmd) (s : State) : Host.Outcome State Fault Refusal :=
  s.command page 0x0201 c (lenIs c 4) [] .any false (fun s =>
    if !leaseMs (arg c 0 4) then (.bound 0x40, s)
    else if (s.vi page).lease.running then (.fail stDUP, s)
    else if (s.vi page).lease.due then (.fail stRETRY, s)
    else (.mirrored [.lease page true (arg c 0 4)] [], s.startLease page (arg c 0 4)))

/-- LEASE_RENEW (R54). -/
def execLeaseRenew (page : Nat) (c : Cmd) (s : State) : Host.Outcome State Fault Refusal :=
  s.command page 0x0202 c (lenIs c 0) [] .any true (fun s =>
    if s.now < (s.vi page).lease.renewAt then (.fail stDUP, s.count page 0x3138 1)
    else (.mirrored [.lease page true (s.vi page).lease.ms] [], s.startLease page (s.vi page).lease.ms))

/-- LEASE_CLOSE (R55, R401). -/
def execLeaseClose (page : Nat) (c : Cmd) (s : State) : Host.Outcome State Fault Refusal :=
  s.command page 0x0203 c (lenIs c 0) [] .any true (fun s =>
    let (n, s) := s.endLease page stREVOKED
    (.mirrored [.lease page false 0] (toLe 4 n), s))

/-! ### Extents (R51, R52) -/

/-- An extent that is not FREE shares a granule with the run. -/
def State.overlaps (s : State) (first count : Nat) : Bool :=
  s.exts.any (fun e => e.2.state != .free && decide (e.2.first < first + count ∧ first < e.2.first + e.2.count))

/-- The field of a grant that R51 or R52 refuses with BOUND: 0 the ID, 1 the first granule, 2 the count. -/
def State.grantFault (s : State) (ext first count : Nat) : Option Nat :=
  if ext = 0 ∨ (s.ext ext).state ≠ .free then some 0
  else if outOfPool (first * granuleBytes) granuleBytes || s.overlaps first 1 then some 1
  else if count = 0 || outOfPool (first * granuleBytes) (count * granuleBytes) || s.overlaps first count then some 2
  else none

/-- Grant an extent: ACTIVE, every valid bit 0 (R52). -/
def State.grant (s : State) (ext first count holder : Nat) (coherent mirrored : Bool) : State :=
  (s.clearGranules first count).setExt ext
    ⟨first, count, holder, .active, coherent, mirrored, (s.ext ext).generation + 1⟩

/-- EXT_GRANT (R52). -/
def execExtGrant (page : Nat) (c : Cmd) (s : State) : Host.Outcome State Fault Refusal :=
  s.command page 0x0210 c (lenIs c 16) [(2, 2, 3), (12, 2, 0x3FF), (14, 2, 0)] .pf false (fun s =>
    let ext := arg c 0 2
    let holder := arg c 12 2
    if !mayAct page holder || !s.viExists holder then (.bound 0x4C, s)
    else match s.grantFault ext (arg c 4 4) (arg c 8 4) with
      | some 0 => (.bound 0x40, s)
      | some 1 => (.bound 0x44, s)
      | some _ => (.bound 0x48, s)
      | none =>
        if !s.leaseRuns holder then (.fail stLEASE_EXPIRED, s)
        else
          let s := s.grant ext (arg c 4 4) (arg c 8 4) holder (tbit (arg c 2 2) 0) (tbit (arg c 2 2) 1)
          (.mirrored [.ext ext (encodeExt (s.ext ext))] [], s))

/-- The extent that a command names is one that its issuer may act on; one that is FREE has no owner (R52, R400). -/
def State.ownExt (s : State) (page ext : Nat) : From :=
  .own ((s.ext ext).state == .free || mayAct page (s.ext ext).ownerVi) 0x40

/-- EXT_REVOKE (R52, R56). -/
def execExtRevoke (page : Nat) (c : Cmd) (s : State) : Host.Outcome State Fault Refusal :=
  s.command page 0x0211 c (lenIs c 2) [] (s.ownExt page (arg c 0 2)) false (fun s =>
    let ext := arg c 0 2
    match (s.ext ext).state with
    | .free => (.fail stNOT_MAPPED, s)
    | st =>
      if st ≠ .active then (.fail stDUP, s)
      else (.wait ext, s.beginRevoke ext .revoking stREVOKED))

/-- EXT_QUERY (R401): the entry; one that is FREE has no owner. -/
def execExtQuery (page : Nat) (c : Cmd) (s : State) : Host.Outcome State Fault Refusal :=
  s.command page 0x0212 c (lenIs c 2) [] (s.ownExt page (arg c 0 2)) false (fun s =>
    (.done stOK noField (encodeExt (s.ext (arg c 0 2))), s))

/-! ### Tenants (R375, R379, R385, R401) -/

/-- VI_ENABLE (R401): the lease is opened and the page granule granted. -/
def execViEnable (page : Nat) (c : Cmd) (s : State) : Host.Outcome State Fault Refusal :=
  s.command page 0x0102 c (lenIs c 16) [(0, 2, 0x3FF), (2, 2, 0x8FFF), (6, 2, 0)] .pf false (fun s =>
    let v := arg c 0 2
    let ext := arg c 4 2
    if !isTenant v || !mayAct page v || (s.vi v).enabled then (.bound 0x40, s)
    else if !leaseMs (arg c 12 4) then (.bound 0x4C, s)
    else match s.grantFault ext (arg c 8 4) 1 with
      | some 0 => (.bound 0x44, s)
      | some _ => (.bound 0x48, s)
      | none =>
        let s := if (s.vi v).lease.running then s else s.startLease v (arg c 12 4)
        let s := s.modVi v (fun x =>
          { x with enabled := true, pageNode := arg c 2 2 % 4096, resetRight := tbit (arg c 2 2) 15, pageExt := ext })
        let s := s.grant ext (arg c 8 4) 1 v false false
        (.mirrored [.lease v true (arg c 12 4), .ext ext (encodeExt (s.ext ext))] [], s))

/-- VI_DISABLE (R385). -/
def execViDisable (page : Nat) (c : Cmd) (s : State) : Host.Outcome State Fault Refusal :=
  s.command page 0x0103 c (lenIs c 2) [(0, 2, 0x3FF)] .pf false (fun s =>
    let v := arg c 0 2
    if !isTenant v || !mayAct page v || !(s.vi v).enabled then (.bound 0x40, s)
    else (.ok, (s.resetVi v).modVi v (fun x => { x with enabled := false })))

/-! ### Windows (R35 to R37, R286) -/

/-- Requests that passed check 2 on a window and have not completed. -/
def State.reqsOn (s : State) (w : Nat) : List Nat :=
  (s.waiting.filter (fun q => match q.origin with
    | .cxl _ _ => false
    | _ => addrWindow q.pkt.addr == w || q.looks.any (fun p => p.window == w) ||
      (q.pkt.ptype == 4 && addrWindow (BitVec.ofNat 64 (fld q.pkt.payload 0 8)) == w))).map (·.id)

/-- The ranges of the pool that a tile addresses (R465). -/
def State.entryRanges (s : State) (x : Stream) (e : Nat) (q : QEntry) : List TileRange :=
  tileRanges x (e / 8) q ++ s.holdRange x q

/-- Tiles under a window's translation: those that engines hold with a range that `hit` names, and those whose accepted
batch is not written yet. -/
def State.tilesOn (s : State) (w : Nat) (hit : Nat → Nat → Bool) : List (Nat × Nat) :=
  (s.heldTiles.filter (fun h => match s.stream h.2.stream with
    | some x => (s.entryRanges x h.1 h.2).any (fun r => r.op.window == w && hit (r.op.off + r.off) r.len)
    | none => false)).map (fun h => (h.2.stream, h.2.tile)) ++
  (s.batches.filter (fun b => match s.stream b.stream with
    | some x => (x.desc.units b.tile).any (fun u => u.1.window == w && hit (u.1.off + u.2.1) u.2.2)
    | none => false)).map (fun b => (b.stream, b.tile))

/-- Put a window descriptor in force (R35, R37, R286): a window that leaves translation, or changes its page size, loses
its mirror and cache entries, and in the first case its open misses close. -/
def State.putWin (s : State) (w : Nat) (d : Win) : State :=
  let old := s.win w
  let s := s.setWin w { d with cls := max old.cls (s.vi d.ownerVi).sched.classMin }
  let s := s.when (old.kind == 2 && (d.kind != 2 || d.pageSize != old.pageSize)) (fun s => s.dropRuns w)
  s.when (old.kind == 2 && d.kind != 2) (fun s => s.closeMisses w (some stNOT_MAPPED) (fun _ => true))

/-- The pages of a window that operands of the part's own have found, while they wait for others, are looked up again
when the table or the descriptor has changed (assumption 170). -/
def State.relookOps (s : State) (w : Nat) (hit : Nat → Nat → Bool) : State :=
  s.opLooks.foldl (fun s x =>
    let stale (p : PageLook) : Bool := p.window == w && !p.waits && hit p.off p.len
    if x.looks.any stale then
      let (l, s) := x.looks.foldl (fun (a : List PageLook × State) p =>
        if stale p then (let (y, s) := a.2.relook p; (a.1 ++ y, s)) else (a.1 ++ [p], a.2)) ([], s)
      { s with opLooks := s.opLooks.map (fun y => if y == x then { y with looks := l } else y) }
    else s) s

/-- What a drain ends with (R35, R41, R44): the new TBL_SEQ, and after it the repeated lookups of the waiters of the
misses that the update answers. -/
def State.drainOver (s : State) (w : Nat) (seq : Option Word32) (wake : List (Nat × Nat)) : State :=
  let s := match seq with
    | some n => s.setWin w { s.win w with tblSeq := n }
    | none => s
  wake.foldl (fun s m => s.missClosed m.1 w m.2 none) s

/-- Wait for requests and tiles under an old state, or answer at once (R35, R41). -/
def State.drainFor (s : State) (vi w : Nat) (reqs : List Nat) (tiles : List (Nat × Nat)) (seq : Option Word32)
    (wake : List (Nat × Nat)) (m : CtlMirror) : CmdRes × State :=
  let (reqs, tiles) := s.stillOpen reqs tiles
  if reqs.isEmpty && tiles.isEmpty then (.mirrored [m] [], s.drainOver w seq wake)
  else (.wait w, { s with drains := s.drains ++ [⟨w, vi, s.now + fastEdge s (us s.home.drainUs), reqs, tiles, seq, wake, [m]⟩] })

/-- The drain of a command has ended: what still runs is ended as by a revocation (R35, R41, R57). -/
def State.drainDone (s : State) (w : Nat) (table : Bool) : State :=
  match s.drains.find? (fun d => d.window == w && d.seq.isSome == table) with
  | none => s
  | some d =>
    let s := State.when s (s.stillOpen d.reqs d.tiles != ([], [])) (fun s => s.reach d.limitAt)
    let s := s.flushTiles (s.stillOpen d.reqs d.tiles).2
    let (reqs, tiles) := s.stillOpen d.reqs d.tiles
    let s := s.abortTiles tiles stREVOKED
    let s := (reqs.foldl (fun s i => s.failReq i stREVOKED) s).drainMeshes
    (State.drainOver { s with drains := s.drains.erase d } w d.seq d.wake).finishMirrored d.vi d.mirror []

def execWinSetDrained (window : Nat) (s : State) : Host.Outcome State Fault Refusal :=
  onUnit (decide (window < 1024)) (s.drainDone window false)

def execTblUpdateDrained (window : Nat) (s : State) : Host.Outcome State Fault Refusal :=
  onUnit (decide (window < 1024)) (s.drainDone window true)

/-- The window that a command names is one that its issuer may act on (R400). -/
def State.ownWin (s : State) (page w : Nat) : From := .own (decide (w ≥ 1024) || mayAct page (s.win w).ownerVi) 0x40

/-- A PF may write a window that is disabled, or whose owner its complex serves; another VI its own (R377). -/
def State.mayWriteWin (s : State) (page w : Nat) : From :=
  .own (decide (w ≥ 1024) ||
    (if isPf page then (s.win w).kind == 0 || complexOf (s.win w).ownerVi == complexOf page else (s.win w).ownerVi == page)) 0x40

/-- The first fault of a descriptor (R35 to R37, R375, R377): status and field. A raw range outside its extent is answered
`BOUND` though the extent is REVOKING or RECLAIMING: the order of the two is a DESIGN CHOICE (assumption 200). -/
def State.winFault (s : State) (page w : Nat) (b : Bytes) : Option (Nat × Nat) :=
  let d := (parseWin b).getD Win.reset
  let owner := fld b 2 2
  if w ≥ 1024 then some (stBOUND, 0x40)
  else if !mayAct page owner || !s.viExists owner then some (stBOUND, 0x4A)
  else if fld b 0 1 % 4 = 3 then some (stBOUND, 0x48)
  else if fld b 0 1 % 4 = 2 ∧ fld b 1 1 ≥ 3 then some (stBOUND, 0x49)
  else if fld b 0 1 % 4 = 2 ∧ isTenant owner then some (stBOUND, 0x4A)
  else if fld b 8 8 > 0x40000000000 ∨ fld b 8 8 % granuleBytes ≠ 0 then some (stBOUND, 0x50)
  else if fld b 0 1 % 4 = 2 ∧ fld b 0x1C 2 > 10000 then some (stBOUND, 0x64)
  else if (parseWin b).isNone then some (stBOUND, 0x58)
  else if d.kind = 1 then
    let e := s.ext d.extentId
    if d.extentId = 0 ∨ e.state = .free ∨ e.ownerVi ≠ owner then some (stBOUND, 0x4C)
    else if d.basePa < e.first * granuleBytes ∨ d.basePa ≥ (e.first + e.count) * granuleBytes then
      some (stBOUND, 0x58)
    else if d.basePa + d.limit > (e.first + e.count) * granuleBytes then some (stBOUND, 0x50)
    else if e.state ≠ .active then some (stREVOKED, noField)
    else none
  else none

/-- WIN_SET (R35). -/
def execWinSet (page : Nat) (c : Cmd) (s : State) : Host.Outcome State Fault Refusal :=
  s.command page 0x0301 c (lenIs c 40)
    [(2, 6, 0), (8, 1, 0x1F), (9, 1, 3), (10, 2, 0x3FF), (14, 2, 0), (16, 8, 2 ^ 43 - 1), (24, 8, 2 ^ 40 - 1),
     (38, 2, 0)] (s.mayWriteWin page (arg c 0 2)) true (fun s =>
    let w := arg c 0 2
    let b := slice (cmdBytes c) 8 32
    match s.winFault page w b, parseWin b with
    | some (st, det), _ => (.done st det [], s)
    | none, none => (.bound 0x48, s)
    | none, some d =>
      let reqs := s.reqsOn w
      let tiles := s.tilesOn w (fun _ _ => true)
      ((s.putWin w d).relookOps w (fun _ _ => true)).drainFor page w reqs tiles none [] (.win w b))

/-- WIN_CLASS_SET (R286): from the owner, for whom a PF of its complex may act (R400, R402, assumption 201). -/
def execWinClassSet (page : Nat) (c : Cmd) (s : State) : Host.Outcome State Fault Refusal :=
  s.command page 0x0302 c (lenIs c 3) [(2, 1, 7)] (s.ownWin page (arg c 0 2)) true (fun s =>
    let w := arg c 0 2
    let k := arg c 2 1
    if w ≥ 1024 then (.bound 0x40, s)
    else if k < (s.vi (s.win w).ownerVi).sched.classMin then (.bound 0x42, s)
    else (.mirrored [.winClass w k] [], s.setWin w { s.win w with cls := k }))

/-! ### Table updates (R40, R41, R44, R46) -/

/-- Regions whose segment holds a run: those to which one of its chunks hashes (R39). -/
def Run.regions (r : Run) : List Nat :=
  let sh := pageShift r.size
  let lo := (r.group * 64 + r.start) * 2 ^ sh
  let n := r.len * 2 ^ sh
  let ch := span (lo / 2 ^ 21) ((lo + n - 1) / 2 ^ 21 + 1 - lo / 2 ^ 21)
  (List.range 12).filter (fun g => ch.any (fun k => transHash r.window (k * 2 ^ 21) == g))

def Run.overlaps (r x : Run) : Bool :=
  r.window == x.window && r.group == x.group && decide (r.start < x.start + x.len ∧ x.start < r.start + r.len)

def State.removeRun (s : State) (r : Run) : State := s.filterMirrors (· != r)

def State.insertRun (s : State) (r : Run) : State :=
  r.regions.foldl (fun s g => s.setMirror g (mirrorRun (s.region g).mirror r)) s

/-- Cache entries that touch a changed run are invalidated whole (R41). -/
def State.dropCached (s : State) (r : Run) : State :=
  { s with regions := s.regions.map (fun (q : Nat × Region) => (q.1, { q.2 with tcache := q.2.tcache.filter (fun x => !x.overlaps r) })) }

/-- 64 KiB steps of a run's pages. -/
def Run.step (r : Run) : Nat := 2 ^ (pageShift r.size - 16)

/-- `a` is followed by `b` in page index and PA, within one extent. -/
def Run.before (a b : Run) : Bool :=
  a.window == b.window && a.group == b.group && a.extent == b.extent && a.start + a.len == b.start &&
  a.paPage + a.len * a.step == b.paPage

/-- Unmap the pages of a run: what is left of the runs it touches stays mapped. -/
def State.unmapRun (s : State) (r : Run) : State :=
  let hit := (s.runsOf r.window).filter (fun a => a.overlaps r)
  let s := hit.foldl (fun s a =>
    let s := s.removeRun a
    let s := if a.start < r.start then s.insertRun { a with len := r.start - a.start } else s
    let cut := r.start + r.len
    if cut < a.start + a.len then
      s.insertRun { a with start := cut, len := a.start + a.len - cut, paPage := a.paPage + (cut - a.start) * a.step }
    else s) s
  s.dropCached r

/-- Insert a run, merged with the runs it continues (R40). What segments that have lost its pages elsewhere still hold of
them goes first (assumption 168). -/
def State.mapRun (s : State) (r : Run) : State :=
  let s := s.unmapRun r
  let rs := s.runsOf r.window
  let lo := rs.find? (fun a => a.before r)
  let hi := rs.find? (fun b => r.before b)
  let m1 := match lo with | some a => { r with start := a.start, len := a.len + r.len, paPage := a.paPage } | none => r
  let m2 := match hi with | some b => { m1 with len := m1.len + b.len } | none => m1
  let s := match lo with | some a => s.removeRun a | none => s
  let s := match hi with | some b => s.removeRun b | none => s
  (s.insertRun m2).dropCached m2

/-- Apply one entry of an update. -/
def State.applyEntry (s : State) (e : Bool × Run) : State := if e.1 then s.mapRun e.2 else s.unmapRun e.2

/-- Cut a run out of what is mapped. -/
def cutMapped (m : Mapped) (r : Run) : Mapped :=
  m.flatMap (fun x =>
    if x.1 ≠ r.group ∨ x.2.1 ≥ r.start + r.len ∨ r.start ≥ x.2.1 + x.2.2 then [x]
    else (if x.2.1 < r.start then [(x.1, x.2.1, r.start - x.2.1)] else []) ++
      (if r.start + r.len < x.2.1 + x.2.2 then [(x.1, r.start + r.len, x.2.1 + x.2.2 - (r.start + r.len))] else []))

/-- Check the entries of an update in order (R40): the status of the first that fails. Two points are DESIGN CHOICE: an
insert into an extent that is REVOKING or RECLAIMING is answered `REVOKED` though it is misaligned, outside or overlapping
too (assumption 200); and an unmap entry takes its pages by its own SIZE, whatever the window's (assumption 202). -/
def State.checkEntries (s : State) (w : Nat) (win : Win) : List (Option (Bool × Run)) → Mapped → Option Nat
  | [], _ => none
  | none :: _, _ => some stBOUND
  | some (valid, r) :: l, m =>
    if r.window ≠ w then some stBOUND
    else if !valid then s.checkEntries w win l (cutMapped m r)
    else
      let e := s.ext r.extent
      let lo := r.paPage * granuleBytes
      let hi := lo + r.len * 2 ^ pageShift win.pageSize
      if r.size ≠ win.pageSize then some stBOUND
      else if r.extent = 0 ∨ e.state = .free ∨ e.ownerVi ≠ win.ownerVi then some stBOUND
      else if e.state ≠ .active then some stREVOKED
      else if lo % 2 ^ pageShift win.pageSize ≠ 0 ∨ lo < e.first * granuleBytes ∨
          hi > (e.first + e.count) * granuleBytes then some stBOUND
      else if m.any (fun x => x.1 == r.group && decide (x.2.1 < r.start + r.len ∧ r.start < x.2.1 + x.2.2)) then some stBOUND
      else s.checkEntries w win l (m ++ [(r.group, r.start, r.len)])

/-- The chunk of the open miss entry that a reference names in a window. -/
def State.missOf (s : State) (w ref : Nat) : Option (Nat × Nat) :=
  let g := ref / 256 % 16
  ((s.region g).miss.find? (fun m => decide (g < 12) && m.window == w && m.tag == ref % 256)).map (fun m => (g, m.chunk))

/-- The run maps a page of a chunk or of a range of offsets. -/
def Run.touches (r : Run) (lo n : Nat) : Bool :=
  let sh := pageShift r.size
  let a := (r.group * 64 + r.start) * 2 ^ sh
  decide (a < lo + n ∧ lo < a + r.len * 2 ^ sh)

/-- The entries of an update are applied (R41). -/
def State.applyEntries (s : State) (es : List (Bool × Run)) : State := es.foldl (fun s e => s.applyEntry e) s

/-- Requests that have a page translated under a changed page of a window. -/
def State.reqsUnder (s : State) (w : Nat) (hit : Nat → Nat → Bool) : List Nat :=
  (s.waiting.filter (fun q => q.looks.any (fun p => p.window == w && hit p.off p.len &&
    (match p.res with | .ok _ => true | .wait _ _ => false | .fail _ _ => false)))).map (·.id)

def insPair (l : List (Nat × Nat)) (m : Nat × Nat) : List (Nat × Nat) := if l.contains m then l else l ++ [m]

/-- TBL_UPDATE (R40, R41, R44, R46). The sequence number is tested before the entries (assumption 178). The waiters of
the misses it answers look again once TBL_SEQ is set. -/
def execTblUpdate (page : Nat) (c : Cmd) (s : State) : Host.Outcome State Fault Refusal :=
  s.command page 0x0303 c (lenIs c (16 + 16 * arg c 2 1)) [(3, 1, 0), (8, 2, 0x8FFF), (10, 6, 0)] (s.ownWin page (arg c 0 2)) true (fun s =>
    let w := arg c 0 2
    let win := s.win w
    let n := arg c 2 1
    let seq : Word32 := BitVec.ofNat 32 (arg c 4 4)
    let raw := (List.range n).map (fun i => slice (cmdBytes c) (16 + 16 * i) 16)
    let es := raw.map parseRun
    let named := if tbit (arg c 8 2) 15 then (s.missOf w (arg c 8 2)).toList else []
    if w ≥ 1024 ∨ win.kind ≠ 2 then (.bound 0x40, s)
    else if n = 0 ∨ n > 64 then (.bound 0x42, s)
    else if !later 32 seq.toNat win.tblSeq.toNat then (.fail stDUP, named.foldl (fun s m => s.missClosed m.1 w m.2 none) s)
    else if seq ≠ win.tblSeq + 1 then (.fail stRETRY, s)
    else match s.checkEntries w win es (s.mappedPages w) with
      | some st => (if st = stBOUND then .bound 0x50 else .fail st, s)
      | none =>
        let es := es.filterMap id
        let hit (lo m : Nat) : Bool := es.any (fun e => e.2.touches lo m)
        let reqs := s.reqsUnder w hit
        let tiles := s.tilesOn w hit
        let mapped := s.regions.flatMap (fun r => (r.2.miss.filter (fun m => m.window == w &&
          es.any (fun e => e.1 && e.2.touches (m.chunk * 2 ^ 21) (2 ^ 21)))).map (fun m => (r.1, m.chunk)))
        ((s.applyEntries es).relookOps w hit).drainFor page w reqs tiles (some seq) (mapped.foldl insPair named) (.table w seq raw))

/-- TBL_MISS_REPLY (R44, R46). -/
def execTblMissReply (page : Nat) (c : Cmd) (s : State) : Host.Outcome State Fault Refusal :=
  s.command page 0x0304 c (lenIs c 4) [(2, 2, 0x0FFF)] (s.ownWin page (arg c 0 2)) true (fun s =>
    let w := arg c 0 2
    if w ≥ 1024 ∨ (s.win w).kind ≠ 2 then (.bound 0x40, s)
    else match s.missOf w (arg c 2 2) with
      | some (g, k) => (.ok, s.missClosed g w k (some stNOT_MAPPED))
      | none => (.fail stDUP, s))

/-! ### Nodes, agents, control -/

/-- Nodes that may send COL packets. -/
def colSources (t : Tbl NodeEnt) : Nat := (t.filter (fun e => e.2.colSrc)).length

/-- The grant in force, in bytes (R261): at most 1 MiB; 0 while no node is a source. -/
def colGrant (n : Nat) : Nat := if n = 0 then 0 else min 0x100000 (0x1000000 / n / 4096 * 4096)

/-- NODE_SET (R260, R261). Messages in flight toward a node that no ACTIVE port reaches any more are abandoned, answers
held toward one that can be reached again are sent (R281). -/
def execNodeSet (page : Nat) (c : Cmd) (s : State) : Host.Outcome State Fault Refusal :=
  s.command page 0x0305 c (lenIs c (8 + 16 * arg c 2 2)) [(4, 4, 0)] .pf false (fun s =>
    let first := arg c 0 2
    let n := arg c 2 2
    if n = 0 ∨ n > 64 then (.bound 0x42, s)
    else if first + n > 4096 then (.bound 0x40, s)
    else
      let raw := (List.range n).map (fun i => (first + i, slice (cmdBytes c) (8 + 16 * i) 16))
      let raw := raw.filter (fun e => e.1 != s.aon.nodeId)
      match allSome (raw.map (fun e => (parseNode e.2).map (fun x => (e.1, x)))) with
      | none => (.bound 0x48, s)
      | some es =>
        let t := es.foldl (fun t e => tset NodeEnt.reset t e.1 e.2) s.fabric.nodes
        if colSources t > 512 then (.bound 0x48, s)
        else (.mirrored (raw.map (fun e => .node e.1 e.2)) (toLe 4 (colGrant (colSources t))),
              ((s.modFabric (fun f => { f with nodes := t })).abandonLost).releaseRsp))

/-- COH_AGENT_ADD (R64). -/
def execCohAgentAdd (page : Nat) (c : Cmd) (s : State) : Host.Outcome State Fault Refusal :=
  s.command page 0x0401 c (lenIs c 2) [] .any true (fun s =>
    let n := arg c 0 2
    if n ≥ 4096 then (.bound 0x40, s)
    else match s.agentOfNode n with
      | some x =>
        if mayAct page ((s.agent x).map (·.vi) |>.getD 0) then (.done stDUP noField (toLe 1 x), s) else (.bound 0x40, s)
      | none =>
        match (span 2 254).find? (fun x => (s.agent x).isNone) with
        | none => (.fail stRETRY, s)
        | some x =>
          (.mirrored [.agent x n page true] (toLe 1 x),
           s.newAgent x ⟨n, page, false⟩))

/-- COH_AGENT_REMOVE (R83). -/
def execCohAgentRemove (page : Nat) (c : Cmd) (s : State) : Host.Outcome State Fault Refusal :=
  let may := match s.agent (arg c 0 1) with | some a => mayAct page a.vi | none => true
  s.command page 0x0402 c (lenIs c 1) [] (.own may 0x40) true (fun s =>
    let x := arg c 0 1
    match s.agent x with
    | none => (.bound 0x40, s)
    | some a =>
      if (s.linesOf x).isEmpty && !s.snooped x then (.mirrored [.agent x a.node a.vi false] [], s.retireAgent x)
      else (.wait x, s.evictAgent x))

/-- COH_SET (R463). -/
def execCohSet (page : Nat) (c : Cmd) (s : State) : Host.Outcome State Fault Refusal :=
  s.command page 0x0403 c (lenIs c 4) [(0, 4, 0x3FFF03FF)] .pf false (fun s =>
    let v := arg c 0 4
    let d := bitf v 29 16
    let t := bitf v 9 0
    let okD := decide (1 ≤ d ∧ d ≤ 10000)
    let okT := decide (5 ≤ t ∧ t ≤ 1000)
    let s := s.modHome (fun h => { h with drainUs := if okD then d else h.drainUs,
                                          snpTimeoutUs := if okT then t else h.snpTimeoutUs })
    (if okD && okT then .ok else .bound 0x40, s))

end Sys2Proof.Machine
end

