-- ==== Sys2Proof/Machine/Interrupt.lean ====
section
/-! DEFINITION. The end of an open stream by a reset of the complex that serves it (R171). -/
namespace Sys2Proof.Machine

open Sys2Proof

/-- The payload of STEP_INTERRUPTED (R171, R398). Where no anchor was fixed the flag is 0 and the anchor byte is open
(assumption 176). -/
def Stream.interrupted (n : Nat) (x : Stream) : Bytes :=
  toLe 2 n ++ toLe 1 (match x.anchor with | some a => wrapInt 8 a | none => (Config.noAnchor n).toNat) ++ toLe 1 (b2n x.anchor.isSome + 2 * b2n x.desc.prePass) ++
  toLe 4 x.desc.step.toNat ++ toLe 4 x.outcomes.length

/-- An open stream ends without a completion record: open tiles are lost, tiles not accepted fail, accepted
batches are still written (R171). -/
def State.interruptStream (s : State) (n : Nat) (x : Stream) : State :=
  let hit := x.selTiles.filter (fun t => !x.past t)
  let s := s.stopTiles n hit stRETRY
  (s.modStream n (fun x => { x with openNow := false })).freeOrphans

/-- Every open stream that `f` selects by its owner is interrupted: the events owed, as (owner, payload). -/
def State.interruptAll (s : State) (f : Nat → Bool) : List (Nat × Bytes) × State :=
  (s.streams.filter (fun e => e.2.openNow && f e.2.owner)).foldl
    (fun (a : List (Nat × Bytes) × State) e =>
      (a.1 ++ [(e.2.owner, e.2.interrupted e.1)], a.2.interruptStream e.1 e.2)) ([], s)

/-- Post the STEP_INTERRUPTED events that are owed (R171). -/
def State.postInterrupted (s : State) (l : List (Nat × Bytes)) : State :=
  l.foldl (fun s e => s.post e.1 evSTEP_INTERRUPTED 0 e.2) s

end Sys2Proof.Machine
end

