-- ==== Sys2Proof/Machine/PairCycle.lean ====
section
/-! DEFINITION. Pair cycles and granule records (R360 to R365, R434 to R436), resynchronisation (R366 to R369),
the compare pass between the two packages (R371, R372), and the pair states that these lead to (R343, R359). -/
namespace Sys2Proof.Machine

open Sys2Proof

/-! ### Cinch lines (R346) -/

def State.lineHigh (s : State) (i : Nat) : Bool := lget true s.pair.lines i

/-- The partner's ACT or REQ line reads low. -/
def State.partnerAct (s : State) : Bool := !s.lineHigh (1 - s.pair.index)
def State.partnerReq (s : State) : Bool := !s.lineHigh (3 - s.pair.index)

def State.driveAct (s : State) (b : Bool) : State :=
  s.modPair (fun p => { p with act := b, actAt := s.now, lines := lset p.lines p.index (!b) })

def State.driveReq (s : State) (b : Bool) : State :=
  s.modPair (fun p => { p with req := b, lines := lset p.lines (2 + p.index) (!b) })

/-- A Rein port is ACTIVE. -/
def State.reinUp (s : State) : Bool := (s.port 64).state == .active || (s.port 65).state == .active

/-! ### Frames and leases (R350, R353) -/

/-- The levels read on CINCH[3:0]. -/
def State.cinchSeen (s : State) : Nat :=
  (List.range 4).foldl (fun a i => a + 2 ^ i * b2n (s.lineHigh i)) 0

/-- The 96-bit frame (R353), most significant byte first; `flags` are bits [47:43]. -/
def hbFrame (state seen count flags seq : Nat) : Bytes :=
  let b := [0xD5#8] ++ toBe 1 (state % 16 * 16 + seen % 16) ++ toBe 4 count ++ toBe 2 (flags % 32 * 2 ^ 11) ++ toBe 2 seq
  b ++ toBe 2 (crcOf 3 b)

/-- Send a frame on PAIR_HB_TX; the demand for STALE is in every frame while it stands (R363). -/
def State.sendFrame (s : State) (flags seq : Nat) : State :=
  s.modPair (fun p => { p with
    hbTx := hbFrame p.state.code s.cinchSeen p.hbCount.toNat (if p.demand then flags ||| 1 else flags) seq })

/-- Renewals, grants and demands go out on both paths (R350, R363). -/
def State.sendGirth (s : State) (flags : Nat) (seq : Word16) : State :=
  (s.emitRein 0x25 (toLe 2 seq.toNat ++ toLe 1 flags)).sendFrame flags seq.toNat

/-- T_g (R350). -/
def State.girthLen (s : State) : Nat := ms (10 * s.cyc.girth)

/-! ### Acknowledged cycles (R362, R436, R439) -/

/-- Release what waited for the cycles that `f` selects: completions, tiles, PAIR_SYNC and PAIR_MEND. -/
def State.releaseCycles (s : State) (f : Word32 → Bool) : State :=
  let held := s.cyc.heldAns.filter (fun h => f h.cycle)
  let syncs := s.cyc.syncs.filter (fun x => f x.2)
  let isDone (c : Option Word32) : Bool := match c with | some n => f n | none => false
  let mends := s.cyc.mends.filter (fun x => isDone x.2.2)
  let s := s.modCyc (fun c => { c with heldAns := c.heldAns.filter (fun h => !f h.cycle),
                                       syncs := c.syncs.filter (fun x => !f x.2),
                                       mends := c.mends.filter (fun x => !isDone x.2.2) })
  let s := held.foldl (fun s h => s.releaseHeld h) s
  let s := s.streams.foldl (fun (s : State) (e : Nat × Stream) =>
    (e.2.waitCycle.filter (fun w => f w.2)).foldl (fun s w =>
      (s.modStream e.1 (fun x => { x with waitCycle := x.waitCycle.erase w })).endTile e.1 w.1 (e.2.goodEnd w.1)) s) s
  let s := syncs.foldl (fun s x => s.finishCmd x.1 stOK (toLe 4 x.2.toNat)) s
  mends.foldl (fun s x => if x.1 < 1024 then s.finishMirrored x.1 [] [] else s) s

/-- What waited for a dirty-table entry goes on: requests, messages of agents and STEP_STAMP_SET (R361). -/
def State.resumeCycle (s : State) : State :=
  ((List.range 12).foldl (fun s g => s.releaseWb g) (s.resumeAll (fun y => y == .cycle))).retryStampSets

/-- The VIs of changes without an answer. -/
def Cycles.mirrorVis (c : Cycles) : List Nat := (c.mirrorSent.map (·.2.1) ++ c.late.map (·.1)).foldl insSet []

/-- The partner has entered `STALE`, or needs no changes any more: the commands that made them are answered (R344). The
start of a PAIR_FORM keeps its own wait. -/
def State.dropMirrors (s : State) : State :=
  let s := s.modCyc (fun c => { c with mirrorSent := c.mirrorSent.filter (fun m => s.pair.formTag == some m.1), late := [] })
  (s.cyc.mirrorVis).foldl (fun s v => s.mirrorsOver v) s

/-- No answer will come for the changes: the commands that made them end with a status (assumption 221). -/
def State.failMirrors (s : State) (status : Nat) : State :=
  (s.cyc.mirrorVis).foldl (fun s v => s.failMirror v status) (s.modPair (fun p => { p with formTag := none }))

/-- A demand for `STALE` on both paths; it stands in every frame until the partner reports `STALE` (R363). -/
def State.demandStale (s : State) : State := (s.modPair (fun p => { p with demand := true })).sendGirth 1 0

/-! ### The end of replication and the pair states (R343, R348, R351, R363) -/

/-- PAIR_ROLE ends without the exchange, at the package that asked for it. -/
def State.failRole (s : State) : State := (s.waitersOn 0x0903 0).foldl (fun s v => s.failMirror v stRETRY) s

/-- An exchange of roles that cannot go on: held requests proceed, PAIR_ROLE is answered RETRY_LATER. -/
def State.dropRole (s : State) : State :=
  ((s.modCyc (fun c => { c with roleStep := 0 })).resumeAll (fun y => y == .role)).failRole

/-- Step 6 of R359, or the end of an exchange that the partner never completed: the requests held since step 1 are
answered, and PAIR_ROLE is. -/
def State.endRole (s : State) (held status : Nat) : State :=
  let v := s.cyc.roleVi
  let asked := s.cyc.roleStep != 0 && decide (v < 1024)
  let s := s.modCyc (fun c => { c with roleStep := 0 })
  let s := (s.waitersFor (fun y => y == .role)).foldl (fun s i => s.failReq i held) s
  let s := if asked && status = stOK then s.answerMirrored v stOK [] else s
  if status = stOK then s else s.failRole

/-- No cycle ships any more, and no sweep runs. Dirty blocks stay known by their granules' cycle numbers. -/
def State.stopShipping (s : State) : State :=
  let s := s.modCyc (fun c =>
    { c with shipping := none, unread := [], closedWait := none, closedDirty := [], committed := none,
             resync := false, lastCycle := none })
  { s with regions := s.regions.map (fun (r : Nat × Region) => (r.1, { r.2 with cursor := none })) }

/-- The package enters SOLO from ACTIVE (R351, R363): after a lapse it keeps holding completions and keeps the changes
that its partner has not taken, else it releases both. -/
def State.enterSolo (s : State) (lapse : Bool) : State :=
  let s := (s.pairState .solo).stopShipping
  let s := (if lapse then s else s.dropMirrors).dropRole
  let s := s.modPair (fun p =>
    { p with demand := false, holding := lapse, lapseReq := false, holdUntil := s.now + fastEdge s (ms 25) })
  (if lapse then s else s.releaseCycles (fun _ => true)).resumeCycle

/-- A SOLO package stops holding (R351). -/
def State.stopHolding (s : State) : State :=
  ((s.modPair (fun p => { p with holding := false })).releaseCycles (fun _ => true)).dropMirrors

/-- The package stops serving: its ACT line is released, its leases are gone, and what it holds is never
answered (R348, R351). -/
def State.stopServing (s : State) (p : PairState) : State :=
  let waits := (s.cyc.syncs.map (·.1)) ++ (s.cyc.mends.map (·.1))
  let s := ((s.pairState p).stopShipping.failMirrors stRETRY).failRole
  let s := s.modCyc (fun c => { c with heldAns := [], syncs := [], mends := [], roleStep := 0 })
  let s := waits.foldl (fun s v => if v < 1024 then s.finishCmd v stRETRY [] else s) s
  let s := (s.driveAct false).driveReq false
  let s := s.modPair (fun q => { q with la := { q.la with hold := false, lapsed := true }, holding := false, demand := false,
                                        claimAt := none, claimDue := false })
  (s.waitersFor (fun y => y == .role || y == .cycle)).foldl (fun s i => s.failReq i stBOUND) s

/-- STANDBY or SYNCING becomes STALE (R363). An exchange of roles under way ends with it. -/
def State.enterStale (s : State) : State :=
  if s.pair.state == .standby || s.pair.state == .syncing then
    ((s.pairState .stale).modPair (fun p => { p with claimDue := false })).endRole stBOUND stRETRY
  else s

/-! ### Records (R361, R364, R365) -/

/-- A package of a pair whose cycles ship. -/
def State.ships (s : State) : Bool := s.pair.state == .active || (s.pair.state == .solo && s.cyc.resync)

/-- The poisoned and marked 64-byte words among blocks of a granule (R364), numbered as R331 does. -/
def State.marksOf (s : State) (g : Nat) (bl : List Nat) : ReplMarks :=
  let pa (w : Nat) : Nat := 32 * w
  let kindOf (w : Nat) : Option WordKind := match s.dram.word w with | some x => some x.kind | none => some .poisoned
  let hit := (s.dram.listed (g * granuleBytes) granuleBytes).filter (fun w =>
    bl.contains (pa w % granuleBytes / 256) && (kindOf w == some .poisoned || kindOf w == some .marked))
  (hit.map (fun w => (chanWord (pa w), packageChannel (pa w), kindOf w == some .poisoned))).foldl
    (fun l m => if l.contains m then l else l ++ [m]) []

/-- Send the record of a granule, and the marks of its blocks. -/
def State.sendRecord (s : State) (typ : Nat) (r : GranuleRec) : State :=
  let p := recordPkt typ r
  let marks := if r.valid then s.marksOf r.granule (if r.whole then List.range 256 else r.mask) else []
  let s := s.modCyc (fun c => { c with bytes := c.bytes + p.payload.length })
  let s := s.emit ⟨p, .rein, none, 7, noPort, none, 0⟩
  (List.range (cdiv marks.length 512)).foldl (fun s i =>
    s.emitRein 0x21 (markBytes ((marks.drop (512 * i)).take 512))) s

/-- The whole record of a granule, read as any data is (R328, R329, R361). -/
def State.wholeRecord (s : State) (g : Nat) : GranuleRec × State :=
  let v := s.dram.valid.contains g
  let s := s.fixCycleNo g
  let (st, s) := s.readStamp g
  let (r, s) := if v then s.read none (g * granuleBytes) granuleBytes else (⟨[], false, false⟩, s)
  (⟨g, BitVec.ofNat 32 (s.cycleNo g), BitVec.ofNat 16 (st.getD 0), v, true, [], r.data⟩, s)

/-- Read blocks of a granule, in ascending order (R328, R329). -/
def State.readBlocks (s : State) (g : Nat) (bl : List Nat) : Bytes × State :=
  bl.foldl (fun a b =>
    let (r, s) := a.2.read none (g * granuleBytes + 256 * b) 256
    (a.1 ++ r.data, s)) ([], s)

/-- The record of a granule's dirty blocks in cycle `n`. -/
def State.cycleRecord (s : State) (n : Word32) (g : Nat) (bl : List Nat) : GranuleRec × State :=
  let v := s.dram.valid.contains g
  if v && bl.length == 256 then
    let (r, s) := s.wholeRecord g
    ({ r with cycle := n }, s)
  else
    let m := if v then bl else []
    let (st, s) := s.readStamp g
    let (b, s) := s.readBlocks g m
    (⟨g, n, BitVec.ofNat 16 (st.getD 0), v, false, m, b⟩, s)

/-- Read what can be read of the shipping cycle: a reserved granule waits for its stamp (R361). -/
def State.readRecords (s : State) : State :=
  match s.cyc.shipping with
  | none => s
  | some n =>
    let ready (e : Nat × List Nat) : Bool :=
      (s.reservation e.1).isNone && !(s.region (regionOfGranule e.1)).inReset
    let l := s.cyc.unread.filter ready
    let s := s.modCyc (fun c => { c with unread := c.unread.filter (fun e => !ready e) })
    l.foldl (fun s e =>
      let (r, s) := s.cycleRecord n e.1 e.2
      s.sendRecord 0x20 r) s

/-- A closed cycle begins to ship. -/
def State.startShip (s : State) (n : Word32) (d : List (Nat × List Nat)) : State :=
  (s.modCyc (fun c => { c with shipping := some n, unread := d, committed := none })).readRecords

/-- Lines of caching agents that an exchange of roles still has to take back (R440). -/
def State.agentLines (s : State) : Bool := s.home.agents.any (fun a => !(s.linesOf a.1).isEmpty)

/-- Close the current cycle: its granules take its number, and it ships, or waits for the one that ships
(R360, R361). An exchange of roles waits for this cycle's acknowledgement (R359, R440). -/
def State.closeCycle (s : State) : State :=
  let n := s.cyc.cycle
  let d := s.regions.flatMap (fun r => r.2.dirty)
  let s := { s with regions := s.regions.map (fun (r : Nat × Region) => (r.1, { r.2 with dirty := [] })) }
  let s := d.foldl (fun s e => (s.fixCycleNo e.1).setCycleNo e.1 n.toNat) s
  let role := s.cyc.roleStep
  let goes := role == 1 || (role == 3 && !s.agentLines)
  let s := s.modCyc (fun c =>
    { c with cycle := n + 1, openedAt := s.now, usNow := c.cycleUs, capNow := c.cycleCap, closeNow := false,
             roleStep := if goes then role + 1 else role, roleCycle := if goes then n else c.roleCycle })
  if !s.ships then s
  else if s.cyc.shipping.isNone then s.startShip n d
  else s.modCyc (fun c => { c with closedWait := some n, closedDirty := d })

/-- Bytes of dirty blocks. -/
def State.dirtyBytes (s : State) : Nat :=
  s.regions.foldl (fun a r => r.2.dirty.foldl (fun a e => a + 256 * e.2.length) a) 0

/-- A batch that writes a mirrored granule is accepted and its stamp is not written (R436). -/
def State.batchOpen (s : State) : Bool :=
  s.regions.any (fun r => r.2.commit.any (fun b => (rangeGranules b.ranges).any (fun g => s.mirroredAt g)))

/-- A cycle may close: the one before the last has been acknowledged, and no batch of its is between acceptance and
stamp (R436, R446). -/
def State.mayClose (s : State) : Bool := s.tracks && s.cyc.closedWait.isNone && !s.batchOpen

/-- Close the cycle now if it may close, else as soon as it may. -/
def State.closeEarly (s : State) : State :=
  if s.mayClose then s.closeCycle else s.modCyc (fun c => { c with closeNow := true })

/-- PAIR_CYCLE_CLOSE (R360, R436). -/
def execPairCycleClose (s : State) : Host.Outcome State Fault Refusal :=
  onUnit true (
    if !s.mayClose then s else
    let early := s.regions.any (fun r => decide (r.2.dirty.length ≥ 4096)) || decide (s.dirtyBytes ≥ s.cyc.capNow * 1048576)
    let s := if s.cyc.closeNow then s
             else if early then s.modCyc (fun c => { c with early := c.early + 1 })
             else s.reach (s.cyc.openedAt + us s.cyc.usNow)
    s.closeCycle.resumeCycle)

/-- REPL_COMMIT_SEND (R361). -/
def execReplCommitSend (s : State) : Host.Outcome State Fault Refusal :=
  onUnit true (
    match s.cyc.shipping, s.cyc.committed with
    | some n, none =>
      let s := s.readRecords
      if s.cyc.unread.isEmpty then
        (s.modCyc (fun c => { c with committed := some (n, s.now) })).emitRein 0x22 (toLe 4 n.toNat)
      else s
    | _, _ => s)

/-! ### The standby's side (R364, R365, R372) -/

/-- The package takes records: it does not serve the pool (R434). -/
def State.takesRecords (s : State) : Bool :=
  !(s.pair.state == .unpaired || s.pair.state == .active || s.pair.state == .solo)

/-- Write a record: the data blocks, then the valid bit, the stamp and the cycle number. -/
def State.putRecord (s : State) (r : GranuleRec) : State :=
  let g := r.granule
  let a := g * granuleBytes
  let s := s.fixCycleNo g
  let s := if r.valid && !s.dram.valid.contains g then
      { s with dram := { s.dram with mem := memClear s.dram.mem a granuleBytes,
                                     check := s.dram.check.filter (fun e => decide (e.1 < a / 32 ∨ (a + granuleBytes) / 32 ≤ e.1)) } }
    else s
  let blocks : List (Nat × Bytes) := if r.whole then [(0, slice r.data 0 (if r.valid then granuleBytes else 0))]
    else ((List.range r.mask.length).zip r.mask).map (fun e => (e.2, slice r.data (256 * e.1) 256))
  let s := blocks.foldl (fun s b => { s with dram := (s.dram.write (a + 256 * b.1) b.2).2 }) s
  let s := ((s.setValid g r.valid).setStamp g r.stamp.toNat).setCycleNo g r.cycle.toNat
  s.modCyc (fun c => { c with records := c.records + 1 })

/-- A granule that a compare pass asked for has come: it counts as repaired where the copy was poisoned, else as refreshed
(R371). -/
def State.settle (s : State) (g : Nat) : State :=
  match s.cyc.asked.find? (fun a => a.1 == g) with
  | some a => s.modCyc (fun c => { c with
      asked := c.asked.erase a, repaired := c.repaired + b2n a.2, refreshed := c.refreshed + b2n (!a.2) })
  | none => s

/-- Write a record that has been received whole, unless the granule's number is later (R365). -/
def State.applyRecord (s : State) (r : GranuleRec) : State :=
  let s := s.fixCycleNo r.granule
  if later 32 (s.cycleNo r.granule) r.cycle.toNat then s else (s.putRecord r).settle r.granule

/-- The record of a region in the buffers of its die that waits for one of the region's own. -/
def recordFor (g : Nat) (p : Pkt) : Bool :=
  (p.ptype == 0x20 || p.ptype == 0x27) && regionOfGranule (recordOf p).granule == g

/-- A record leaves its buffer, and the next one of the region takes it (R365). -/
def State.takeRecord (s : State) (typ : Nat) (r : GranuleRec) : State :=
  let g := regionOfGranule r.granule
  if (s.region g).recBuf.contains (r, typ) then
    let s := s.modRegion g (fun q => { q with recBuf := q.recBuf.erase (r, typ) })
    match (s.die 0).inbox.find? (fun p => recordFor g p) with
    | some p => (s.modDie 0 (fun d => { d with inbox := d.inbox.erase p })).modRegion g (fun q =>
        { q with recBuf := q.recBuf ++ [(recordOf p, p.ptype)] })
    | none => s
  else s.modDie 0 (fun d => match d.inbox.find? (fun p => recordFor g p && p.ptype == typ && recordOf p == r) with
    | some p => { d with inbox := d.inbox.erase p }
    | none => d)

/-- Records of a region that have been received whole. -/
def State.heldRecords (s : State) (g : Nat) : List GranuleRec :=
  ((s.region g).recBuf).map (·.1) ++ ((s.die 0).inbox.filter (fun p => recordFor g p)).map recordOf

/-- They are written, oldest first (R356, R365). -/
def State.writeRecords (s : State) (g : Nat) : State :=
  let l := s.heldRecords g
  let s := (s.modRegion g (fun q => { q with recBuf := [] })).modDie 0 (fun d =>
    { d with inbox := d.inbox.filter (fun p => !recordFor g p) })
  l.foldl (fun s r => s.applyRecord r) s

/-- The write of a record waits: for a zero-fill or for room in the fill table (R49), and at a package that tracks for a
dirty-table entry (R361). -/
def State.recordHeld (s : State) (r : GranuleRec) : Bool :=
  s.fillHolds [(r.granule * granuleBytes, if r.whole then granuleBytes else 256)] r.valid || s.tableFull r.granule

/-- REPL_REC (R365). -/
def execReplRec (r : GranuleRec) (s : State) : Host.Outcome State Fault Refusal :=
  onUnit (decide (r.granule < 12 * stackGranules)) (
    if (s.region (regionOfGranule r.granule)).inReset || s.recordHeld r then s
    else
      let s := s.takeRecord 0x20 r
      if s.takesRecords then s.applyRecord r else s)

/-- A word takes a replicated pattern over the data it holds. A lost-dirty mark leaves a poisoned word as it is
(R84, R329). -/
def Dram.putKind (d : Dram) (poison : Bool) (w : Nat) : Dram :=
  let bad := match d.word w with | some x => x.kind == .poisoned | none => true
  if bad && !poison then d else d.setWord w (memBytes d.mem (32 * w) 32) (if poison then .poisoned else .marked)

/-- One entry of a REPL_MARK: both words of the 64 bytes take the pattern (assumption 94). -/
def State.putMark (s : State) (e : Nat × Nat × Bool) : State :=
  let pa := chanWordPa (e.2.1 / 32) (e.2.1 % 32) e.1
  if pa ≥ poolEnd then s else { s with dram := [pa / 32, pa / 32 + 1].foldl (Dram.putKind · e.2.2 ·) s.dram }

/-- REPL_MARK (R364). -/
def execReplMark (entries : ReplMarks) (s : State) : Host.Outcome State Fault Refusal :=
  onUnit true (
    let s := s.takeRein 0x21 (markBytes entries)
    if s.takesRecords then entries.foldl (fun s e => s.putMark e) s else s)

/-- What of cycle `n` has arrived and is not written yet. -/
def State.recordsPending (s : State) (n : Word32) : Bool :=
  s.regions.any (fun r => r.2.recBuf.any (fun b => b.2 == 0x20 && b.1.cycle == n)) ||
  (s.die 0).inbox.any (fun p => p.ptype == 0x21 || p.ptype == 0x20) ||
  (s.die 0).asms.any (fun a => a.node == 4096 && a.pkts.any (fun p => p.ptype == 0x20))

/-- REPL_COMMIT (R361, R362, R364): once every record of the cycle is written, it is applied and acknowledged. -/
def execReplCommit (cycle : Word32) (s : State) : Host.Outcome State Fault Refusal :=
  onUnit true (
    if !(s.pair.state == .standby || s.pair.state == .syncing) then s.takeRein 0x22 (toLe 4 cycle.toNat)
    else if s.recordsPending cycle then s
    else
      ((s.takeRein 0x22 (toLe 4 cycle.toNat)).modCyc (fun c => { c with applied := cycle })).emitRein 0x23 (toLe 4 cycle.toNat))

/-! ### The acknowledgement (R362, R359, R369, R440) -/

/-- Every VI of the package: those that differ from their reset values and the physical functions. -/
def State.allVis (s : State) : List Nat := (List.range 1024).filter (fun v => s.viExists v)

/-- Steps 3 and 4 of R359 at the old active: leases and role go to the partner. The requests that the exchange holds are
answered once the partner has claimed ACT (`State.endRole`). -/
def State.handOver (s : State) : State :=
  let v := s.cyc.roleVi
  let s := if v < 1024 then s.sendMirror v (.key v (s.vi v).key (s.vi v).counter) else s
  let (ev, s) := s.interruptAll (fun _ => true)
  let s := s.postInterrupted ev
  let s := s.sendCtl v .role
  let s := (s.driveAct false).pairState .standby
  let s := s.modPair (fun p => { p with la := { p.la with hold := false, viewEnd := s.now + fastEdge s s.girthLen },
                                        co := { p.co with hold := false, viewEnd := s.now + fastEdge s s.girthLen } })
  s.modCyc (fun c => { c with roleStep := 5 })

/-- Blocks that no cycle has taken yet. -/
def State.anyDirty (s : State) : Bool := s.regions.any (fun r => !r.2.dirty.isEmpty)

/-- Go on with an exchange of roles after an acknowledgement (R359, R440): lines of agents are taken back first, and what
became dirty while the cycle shipped goes in another cycle. -/
def State.roleAcked (s : State) (n : Word32) : State :=
  let k := s.cyc.roleStep
  if s.cyc.roleCycle ≠ n || !(k == 2 || k == 4) then s
  else if s.agentLines then
    (s.home.agents.map (·.1)).foldl (fun s x => s.evictAgent x) (s.modCyc (fun c => { c with roleStep := 3 }))
  else if s.anyDirty then (s.modCyc (fun c => { c with roleStep := k - 1 })).closeEarly
  else s.handOver

/-- Cycle `n` is acknowledged. -/
def State.ackCycle (s : State) (n : Word32) : State :=
  let s := s.modCyc (fun c => { c with applied := n, shipping := none, unread := [], committed := none })
  let s := s.releaseCycles (fun c => !later 32 c.toNat n.toNat)
  let due := s.cyc.late.filter (fun x => !later 32 x.2.2.toNat n.toNat)
  let s := due.foldl (fun s x => s.sendCtl x.1 x.2.1)
    (s.modCyc (fun c => { c with late := c.late.filter (fun x => later 32 x.2.2.toNat n.toNat) }))
  let s := match s.cyc.closedWait with
    | some m =>
      let d := s.cyc.closedDirty
      (s.modCyc (fun c => { c with closedWait := none, closedDirty := [] })).startShip m d
    | none => s
  let s := s.resumeCycle
  let s := if s.pair.state == .solo && s.cyc.resync && s.cyc.lastCycle == some n then
      let s := s.pairState .active
      let s := s.modCyc (fun c => { c with resync := false, lastCycle := none })
      { s with regions := s.regions.map (fun (r : Nat × Region) => (r.1, { r.2 with cursor := none, savedCursor := 0 })) }
    else s
  let s := s.roleAcked n
  if s.cyc.closeNow && s.mayClose then s.closeCycle else s

/-- REPL_ACK (R362). -/
def execReplAck (cycle : Word32) (s : State) : Host.Outcome State Fault Refusal :=
  onUnit true (
    let s := s.takeRein 0x23 (toLe 4 cycle.toNat)
    match s.cyc.committed with
    | some (n, _) => if n = cycle then s.ackCycle n else s
    | none => s)

/-- REPL_ACK_TIMEOUT (R344, R345, R363): 1 ms has passed since REPL_COMMIT or a CTL_MIRROR without its answer. An
active demands STALE; a PAIR_FORM whose partner stays silent is refused; a package that holds completions after a lapse
keeps waiting; a package in SOLO is done with the change, and at another the command ends RETRY_LATER
(assumption 221). -/
def execReplAckTimeout (s : State) : Host.Outcome State Fault Refusal :=
  onUnit true (
    let since := (match s.cyc.committed with | some c => [c.2] | none => []) ++ s.cyc.mirrorSent.map (·.2.2)
    match since with
    | [] => s
    | t :: r =>
      let s := s.reach (r.foldl min t + ms 1)
      match s.pair.formTag with
      | some tag =>
        let vi := ((s.cyc.mirrorSent.find? (fun m => m.1 == tag)).map (·.2.1)).getD 1024
        let s := s.modCyc (fun c => { c with mirrorSent := c.mirrorSent.filter (fun m => m.1 != tag) })
        (s.modPair (fun p => { p with formTag := none })).finishCmd vi stBOUND []
      | none =>
        if s.mirrors then s.demandStale
        else if s.pair.holding then s
        else if s.pair.state == .solo then s.dropMirrors
        else s.failMirrors stRETRY)

/-! ### Resynchronisation (R366 to R369) -/

/-- The sweep sends the granule (R366). -/
def State.inSweep (s : State) (g : Nat) : Bool :=
  s.mirroredAt g && (s.cyc.fullCopy || later 32 (s.cycleNo g) s.cyc.deltaFrom.toNat)

/-- Send the whole record of a granule outside a cycle (R367, R371). -/
def State.sendWhole (s : State) (g : Nat) : State :=
  let (r, s) := s.wholeRecord g
  s.sendRecord 0x27 r

/-- A granule of the sweep is sent where the copy asks for it. -/
def State.sweepOne (s : State) (g : Nat) : State := if s.inSweep g then s.sendWhole g else s

/-- Sweep a region up to granule `hi`; each cycle number is read first (R372). -/
def State.sweepTo (s : State) (r hi : Nat) : State :=
  match (s.region r).cursor with
  | none => s
  | some c =>
    let l := s.dram.valid.filter (fun g => decide (c ≤ g ∧ g < hi))
    (l.foldl (fun s g => (s.fixCycleNo g).sweepOne g) s).modRegion r (fun q => { q with cursor := some (max c hi) })

/-- The first granule after a region's last one. -/
def sweepEnd (r : Nat) : Nat := (r + 1) * stackGranules

/-- Start every region's sweep at its first granule. -/
def State.startSweep (s : State) (full : Bool) (from_ : Word32) : State :=
  let s := s.modCyc (fun c => { c with resync := true, fullCopy := full, deltaFrom := from_, lastCycle := none })
  (List.range 12).foldl (fun s r => s.modRegion r (fun q =>
    { q with cursor := some (r * stackGranules), savedCursor := r * stackGranules })) s

/-- Granules of a region whose records have not left the part: the cursor that is saved does not pass them, so that a reset
that loses them sends them again (R368). -/
def State.unsentRecords (s : State) (r : Nat) : List Nat :=
  let l := s.outbox.map (·.pkt) ++ [64, 65].flatMap (fun i => ((s.port i).outq).map (·.2.2.pkt))
  (l.filter (fun p => p.ptype == 0x27 && recordFor r p)).map (fun p => (recordOf p).granule)

/-- RESYNC_CURSOR_SAVE (R367, R368): the sweep of the next 16,384 granules, while the Rein link is up; then the
cursor is written to the firmware's area. -/
def execResyncCursorSave (region : Nat) (s : State) : Host.Outcome State Fault Refusal :=
  onUnit (decide (region < 12)) (
    if !s.cyc.resync then s else
    match (s.region region).cursor with
    | none => s
    | some c =>
      let rel := c - region * stackGranules
      let hi := min (sweepEnd region) (region * stackGranules + (rel / 16384 + 1) * 16384)
      let s := if s.reinUp && !(s.region region).inReset then s.sweepTo region hi else s
      let low := (s.unsentRecords region).foldl min (((s.region region).cursor).getD (s.region region).savedCursor)
      s.modRegion region (fun q => { q with savedCursor := low }))

/-- RESYNC_SWEEP_DONE (R369): what is left of every region's sweep, then the cycle that ends the
resynchronisation. -/
def execResyncSweepDone (s : State) : Host.Outcome State Fault Refusal :=
  onUnit true (
    if !(s.pair.state == .solo && s.cyc.resync && s.reinUp && s.cyc.lastCycle.isNone && s.mayClose) ||
        (List.range 12).any (fun r => (s.region r).inReset) then s
    else
      let s := (List.range 12).foldl (fun s r => s.sweepTo r (sweepEnd r)) s
      (s.modCyc (fun c => { c with lastCycle := some c.cycle })).closeCycle.resumeCycle)

/-- A mended granule's other copy has come to the active (R371): it is written, and ships in the next cycle. -/
def State.mendIn (s : State) (r : GranuleRec) : State :=
  let g := r.granule
  let s := s.putRecord { r with cycle := BitVec.ofNat 32 (s.cycleNo g) }
  let s := s.dirtyBlocks g (List.range 256)
  (s.modCyc (fun c => { c with mends := c.mends.map (fun m =>
    if m.2.1 = g ∧ m.2.2.isNone then (m.1, m.2.1, some c.cycle) else m) })).closeEarly

/-- RESYNC_REC (R365, R367, R371): a partner takes it as any record; at the active it is a mended granule, or a
copy with a later number. -/
def execResyncRec (r : GranuleRec) (s : State) : Host.Outcome State Fault Refusal :=
  onUnit (decide (r.granule < 12 * stackGranules)) (
    if (s.region (regionOfGranule r.granule)).inReset || s.recordHeld r then s
    else
      let s := s.takeRecord 0x27 r
      if s.takesRecords then s.applyRecord r
      else if s.pair.state == .active && s.cyc.mends.any (fun m => m.2.1 == r.granule && m.2.2.isNone) then s.mendIn r
      else if s.pair.state == .active && later 32 r.cycle.toNat (s.cycleNo r.granule) then
        (s.putRecord r).modCyc (fun c => { c with refreshed := c.refreshed + 1 })
      else s)

/-! ### The compare pass (R371) -/

/-- A digest reaches the standby, which reads its copy with `CORRECT` and `REMAP`. What it asks the active for counts once
the record is written (`State.settle`). -/
def State.digestAtStandby (s : State) (g : Nat) (d : Digest) : State :=
  let s := (s.scrubGranule Scrub.ofDigest g).2
  let (mine, s) := s.digest g
  let ask (s : State) : State :=
    (s.modCyc (fun c => { c with asked := c.asked.filter (fun a => a.1 != g) ++ [(g, mine.poison)] })).sendDigestOf g mine
  if d.poison then s
  else if mine.poison then ask s
  else if mine = d then s
  else if mine.cycle = d.cycle then (s.logRec lgDIVERGENT [g]).sendDigestOf g mine
  else if later 32 mine.cycle.toNat d.cycle.toNat then s.sendWhole g
  else ask s

/-- The standby's digest comes back to the active: a poisoned copy and one with an earlier number are rewritten by a whole
record; two intact copies with equal numbers and different data are both kept (R4, R371). -/
def State.digestAtActive (s : State) (g : Nat) (d : Digest) : State :=
  let (mine, s) := s.digest g
  if s.inFlight g || mine.poison || mine = d then s
  else if d.poison || later 32 mine.cycle.toNat d.cycle.toNat then s.sendWhole g
  else if mine.cycle = d.cycle then
    (s.logRec lgDIVERGENT [g]).modRegion (regionOfGranule g) (fun q => { q with scrub := q.scrub.map (fun (x : Scrub) =>
      if x.compare then { x with divergent := x.divergent + 1 }.fails (g * granuleBytes) else x) })
  else s

/-- CMP_DIGEST (R371). -/
def execCmpDigest (granule : Nat) (digest : Digest) (s : State) : Host.Outcome State Fault Refusal :=
  onUnit (decide (granule < 12 * stackGranules)) (
    let s := s.takeRein 0x26 (slice (Config.digestBytes digest) 0 16)
    if (s.region (regionOfGranule granule)).inReset then s
    else if s.pair.state == .standby then s.digestAtStandby granule digest
    else if s.pair.state == .active then s.digestAtActive granule digest
    else s)

end Sys2Proof.Machine
end

