-- ==== Sys2Proof/Machine/Programs.lean ====
section
/-! DEFINITION. Loading tack programs: the reserved encodings of instruction words and images (R202 to
R206, R210 to R212), the checks of R213, signatures and policy (R214), and program slots (R215). -/
namespace Sys2Proof.Machine

open Sys2Proof

/-! ### Reserved encodings of an instruction word -/

/-- A vector source: V0 to V31 or I0 to I7 (R203). -/
def srcOk (n : Nat) : Bool := decide (n < 0x28)
/-- A vector destination: V0 to V31 or O0 to O3. -/
def dstOk (n : Nat) : Bool := decide (n < 0x20) || decide (0x28 ≤ n ∧ n < 0x2C)

/-- Bits of `XF` that an operation uses (R204). -/
def xfMask (cls op : Nat) : Nat :=
  match cls, op with
  | 1, _ => 3
  | 2, 8 => 0x1F
  | 2, 9 => 0x1F
  | 3, 0 => 7
  | 3, 4 => 1
  | 4, _ => 0x1FFFFE
  | 5, 2 => 1
  | 5, 3 => 1
  | _, _ => 0

/-- `FMT` is an arithmetic format, where the word has the field; class 0x5 and `VCVT` require 0. -/
def fmtOk (cls op fmt : Nat) : Bool :=
  if cls = 7 ∨ (cls = 6 ∧ op = 0xE) then true
  else if cls = 5 ∨ cls = 4 then fmt == 0
  else if cls = 1 ∧ (op = 5 ∨ op = 6) then decide (fmt < 3)
  else decide (fmt < 6)

/-- The predicate and scalar rules of R206. -/
def predOk (cls op pred : Nat) : Bool :=
  if cls = 6 then pred == 0
  else if cls = 5 then pred == 0 || op == 0 || op == 3
  else if cls = 7 then pred == 0 || op == 1
  else true

/-- Groups of 32 elements in a register of a format. -/
def groupsOf (fmt : Nat) : Nat := lanesOf fmt / 32

/-- `VCVT` names formats, a rounding mode and groups that exist; the site of a tenant is 4 or above. -/
def vcvtOk (tenant : Bool) (f : TackFields) : Bool :=
  let x := f.xf.toNat
  let src := bitf x 20 18
  let dst := bitf x 17 15
  decide (src < 6 ∧ dst < 6 ∧ bitf x 14 13 < 2 ∧ bitf x 4 3 < groupsOf src ∧ bitf x 2 1 < groupsOf dst) &&
  (!tenant || decide (4 ≤ bitf x 12 5)) && f.ssel == 0

/-- Operations whose destination field names an accumulator, and those whose source does. -/
def accOk (cls op : Nat) (f : TackFields) : Bool :=
  if cls = 5 then
    if op = 0 ∨ op = 3 then decide (f.dst.toNat < 4) else decide (f.src1.toNat < 4)
  else true

/-- The word is a listed encoding whose fields obey R202 to R206. -/
def tackWordOk (tenant : Bool) (w : Word64) : Bool :=
  let f := tackFields w
  let cls := wClass w
  let op := wOp w
  (decodeTack 0 w).isSome && fmtOk cls op f.fmt.toNat && predOk cls op f.pred.toNat && accOk cls op f &&
  (sourceFields w).all srcOk && (match destField w with | some d => dstOk d | none => true) &&
  (if cls = 7 then w.toNat % 128 == 0
   else cls == 6 && op == 0xE || f.xf.toNat &&& xfMask cls op == f.xf.toNat) &&
  (if cls = 4 then vcvtOk tenant f else true) &&
  (if cls = 2 ∧ op = 1 then !f.pz else true) &&
  (if cls = 2 ∧ op = 2 then f.ssel == 1 else true) &&
  (if cls = 2 ∧ (op = 8 ∨ op = 9) then decide (f.xf.toNat < laneBits f.fmt.toNat) else true) &&
  (if cls = 3 then 1 ≤ f.dst.toNat % 8 && f.dst.toNat % 8 ≤ 5 else true) &&
  (if cls = 7 ∧ op = 0 then decide (0x20 ≤ f.src1.toNat ∧ f.src1.toNat < 0x28) else true) &&
  (if cls = 7 ∧ op = 1 then decide (0x28 ≤ f.dst.toNat) else true)

/-! ### The image (R210 to R212) -/

/-- The length that a header announces. -/
def imageLen (h : Bytes) : Nat := 0x100 + 8 * fld h 4 2 + (if fld h 7 1 = 1 then 96 else 0)

/-- A binding without reserved bits and codes (R91, R106, R211), which an unbound one has none of either
(assumption 75); one that is bound names a place. -/
def bindOk (inlet : Bool) (b : Bytes) (o : Nat) : Bool :=
  let x := parseBind b o
  decide (x.area < 4 ∧ x.afmt < 3 ∧ x.rfmt < 6 ∧ x.len < 1024 ∧ x.rnd < 2) && (inlet || x.area != 1) &&
  (x.area == 0 || (decide (1 ≤ x.len ∧ x.len ≤ 512) && x.off % 128 == 0))

/-- A phase entry without reserved values. -/
def phaseOk (n : Nat) (b : Bytes) (o : Nat) : Bool :=
  let f := fld b (o + 4) 1
  let st := fld b o 2
  let ln := fld b (o + 2) 2
  decide (st < 2048 ∧ 1 ≤ ln ∧ ln ≤ 2048 ∧ st + ln ≤ n ∧ bitf f 2 1 ≠ 3 ∧ bitf f 5 4 ≠ 3) &&
  (!tbit f 3 || bitf f 2 1 == 0)

/-- The reserved bits of a phase entry, of one that N_PHASE leaves out too (R212, R213). -/
def phaseRsv (b : Bytes) (o : Nat) : Bool := decide (fld b (o + 4) 1 < 64) && fld b (o + 5) 3 == 0

/-- Check 2 of R213. -/
def imageForm (tenant : Bool) (b : Bytes) : Bool :=
  let n := fld b 4 2
  let ph := fld b 6 1
  let g := fld b 0xC 2
  let seg := fld b 0xE 2
  fld b 0 4 == 0x544B5031 && decide (1 ≤ n ∧ n ≤ 2048 ∧ 1 ≤ ph ∧ ph ≤ 4 ∧ fld b 7 1 < 2) &&
  (g == 0xFFFF || (g % 128 == 0 && decide (g + 0x4000 ≤ 0x10000))) &&
  (List.range 4).all (fun k => let s := bitf seg (4 * k + 3) (4 * k); s == 0 || decide (5 ≤ s ∧ s ≤ 12)) &&
  (fld b 7 1 == 1 || fld b 0x10 8 == 0) && fld b 0x18 8 == 0 && isZero (slice b 0xA0 96) &&
  (List.range 8).all (fun k => bindOk true b (0x20 + 8 * k)) &&
  (List.range 4).all (fun k => bindOk false b (0x60 + 8 * k)) &&
  (List.range 4).all (fun k => phaseRsv b (0x80 + 8 * k)) &&
  (List.range (min 4 ph)).all (fun k => phaseOk n b (0x80 + 8 * k)) &&
  (parseProg b).code.all (tackWordOk tenant)

/-- A binding that a phase uses: bound, as many lanes as the phase is wide, and the whole tile in a STRIP
phase (check 3). -/
def useOk (ph : Phase) (x : Bind) : Bool :=
  x.area != 0 && lanesOf x.rfmt == ph.width && (ph.once || x.whole)

/-- Check 3 of R213 for a phase. -/
def phaseUses (p : TackProg) (ph : Phase) : Bool :=
  let code := (p.code.drop ph.start).take ph.len
  (code.flatMap sourceFields).all (fun x => decide (x < 0x20) || useOk ph (lget Bind.none p.ins (x - 0x20))) &&
  (code.filterMap destField).all (fun x => decide (x < 0x28) || useOk ph (lget Bind.none p.outs (x - 0x28)))

/-- A list of (start, length) without overlap. -/
def disjoint (l : List (Nat × Nat)) : Bool :=
  match l with
  | [] => true
  | x :: r => r.all (fun y => decide (x.1 + x.2 ≤ y.1 ∨ y.1 + y.2 ≤ x.1)) && disjoint r

/-- Check 4 of R213. -/
def bindsInside (p : TackProg) : Bool :=
  let outs := (p.outs.filter (fun b => b.area == 2)).map (fun b => (b.off, 128 * b.len))
  (p.ins ++ p.outs).all (fun b => b.area == 0 || decide (b.off + 128 * b.len ≤ areaSize b.area)) &&
  disjoint outs && p.commit == (outs.map (·.2)).foldl (· + ·) 0 && decide (p.commit ≤ 65536)

/-- Check 5 of R213; a binding that rounds to nearest and whose `SITE` is 0 uses no site (assumption 157). -/
def tenantOnly (p : TackProg) : Bool :=
  (p.ins ++ p.outs).all (fun b => b.area == 0 || (b.area != 3 && decide (4 ≤ b.site ∨ b.rnd = 0 ∧ b.site = 0)))

/-- Check 6 of R213. -/
def runsWithin (p : TackProg) (limit : Nat) : Bool :=
  [true, false].all (fun one => p.phases.any (fun ph => ph.runs one) && decide (p.cycles one ≤ limit))

/-- Signature and policy (R214): the image loads under the key and the policy of a complex. -/
def signedOk (x : Complex) (b : Bytes) : Bool :=
  let n := 0x100 + 8 * fld b 4 2
  if fld b 7 1 = 1 then
    match x.signKey with
    | some (id, key) => fld b 0x10 8 == id.toNat && ecdsaVerify key (hash384 (b.take n)) (slice b n 96)
    | none => false
  else x.policy == 1

/-- Checks 2 to 7 of R213: the status of the first that fails. -/
def imageFault (x : Complex) (b : Bytes) : Option Nat :=
  let p := parseProg b
  if !imageForm true b then some stBOUND
  else if !(p.phases.all (phaseUses p)) then some stBOUND
  else if !bindsInside p then some stBOUND
  else if !tenantOnly p then some stBOUND
  else if !runsWithin p (2 ^ 24) then some stBOUND
  else if !signedOk x b then some stAUTH_FAIL
  else none

/-- Read the image that an operand holds: header, then the length it announces. -/
def State.readImage (s : State) (vi : Nat) (op : Operand) : Nat × Bytes × State :=
  if op.len < 0x100 then (stBOUND, [], s)
  else match s.readOp (.cmd vi) vi { op with len := 0x100 } with
    | (0, h, s) =>
      if fld h 4 2 > 2048 ∨ imageLen h > op.len then (stBOUND, [], s) else s.readOp (.cmd vi) vi { op with len := imageLen h }
    | r => r

/-- Write an image into the program area of every region and the slot (R47, R213). -/
def State.putProg (s : State) (n owner : Nat) (b : Bytes) : State :=
  let s := (List.range 12).foldl (fun s g => { s with dram := (s.dram.write (progAddr g n) b).2 }) s
  { s with progs := tput s.progs n ⟨b, owner, false⟩ }

/-- The slot holds a program, or the `PROG_LOAD` of another VI that waits for its image is loading it (R213). -/
def State.slotTaken (s : State) (vi n : Nat) : Bool :=
  (afind s.progs n).isSome || s.vis.any (fun v => v.1 != vi && (match v.2.cmd with
    | some b => b.opcode == 0x0505 && arg b.cmd 0 2 == n
    | none => false))

/-- An open stream names the program. -/
def State.progBusy (s : State) (n : Nat) : Bool :=
  s.streams.any (fun e => e.2.openNow && e.2.desc.recipe == 6 && e.2.desc.progId == n)

/-- PROG_LOAD (R213). -/
def execProgLoad (page : Nat) (c : Cmd) (s : State) : Host.Outcome State Fault Refusal :=
  s.command page 0x0505 c (lenIs c 24) ((2, 6, 0) :: opRsv 8) .any true (fun s =>
    let n := arg c 0 2
    if n > 255 || s.slotTaken page n then (.bound 0x40, s)
    else if s.foreignOp page (opArg c 8) then (.bound 0x48, s)
    else match s.readImage page (opArg c 8) with
      | (0, b, s) =>
        match imageFault (s.complex (complexOf page)) b with
        | some st => (if st = stBOUND then .bound 0x48 else .fail st, s)
        | none =>
          let p := parseProg b
          (.mirrored [.prog n page b] (toLe 4 (p.cycles true) ++ toLe 4 (p.cycles false)), s.putProg n page b)
      | (st, _, s) => (if st = stBOUND then .bound 0x48 else .fail st, s))

/-- PROG_UNLOAD (R215). -/
def execProgUnload (page : Nat) (c : Cmd) (s : State) : Host.Outcome State Fault Refusal :=
  let may := match afind s.progs (arg c 0 2) with | some p => mayAct page p.owner | none => true
  s.command page 0x0506 c (lenIs c 2) [] (.own may 0x40) true (fun s =>
    let n := arg c 0 2
    match afind s.progs n with
    | none => (.bound 0x40, s)
    | some _ =>
      if s.progBusy n then (.fail stRETRY, s)
      else (.mirrored [.progFree n] [], { s with progs := tdel s.progs n }))

end Sys2Proof.Machine
end

