-- ==== Sys2Proof/Machine/Pair.lean ====
section
/-! DEFINITION. The pair (R341 to R359, R373, R374, R441): its commands, the changes that a CTL_MIRROR brings, the
answers of the partner, heartbeats, girth leases, cinch lines and takeover. -/
namespace Sys2Proof.Machine

open Sys2Proof

/-! ### The state that the standby keeps (R344) -/

/-- Everything pair-scoped, as the changes that bring it to an empty partner (R344, R345, R394, R441). -/
def State.bulk (s : State) : List CtlMirror :=
  (s.exts.filter (fun e => e.2.state != .free)).map (fun e => .ext e.1 (encodeExt e.2)) ++
  s.vis.flatMap (fun v =>
    [.key v.1 v.2.key v.2.counter, .viSched v.1 (encodeViSched v.2.sched)] ++
    (if v.2.lease.running then [.lease v.1 true v.2.lease.ms] else []) ++
    [.eq v.1 v.2.page.eqBase (BitVec.ofNat 64 v.2.page.eqCtl)]) ++
  s.wins.flatMap (fun w =>
    [.win w.1 (encodeWin w.2), .winClass w.1 w.2.cls] ++
    (if w.2.kind = 2 then [.table w.1 w.2.tblSeq ((s.runsOf w.1).map encodeRun)] else [])) ++
  (s.home.agents.filter (fun a => !a.2.host)).map (fun a => .agent a.1 a.2.node a.2.vi true) ++
  s.progs.map (fun p => .prog p.1 p.2.owner p.2.image) ++
  s.fabric.nodes.map (fun n => .node n.1 (encodeNode n.2)) ++
  [.keep (s.dram.valid.filter (fun g => s.mirroredAt g))]

/-- The package drops its own extents, windows and leases, and what else the bulk replaces, its EQ registers among it
(R345, R441). -/
def State.dropOwn (s : State) : State :=
  let (ev, s) := s.interruptAll (fun _ => true)
  let s := s.postInterrupted ev
  let s := (s.waiting.map (·.id)).foldl (fun s i => s.failReq i stBOUND) s
  let waits := (s.revokes.filterMap (fun r => s.waitsFor 0x0211 r.1)) ++ s.drains.map (·.vi)
  let s := waits.foldl (fun s v => s.finishCmd v stRETRY []) s
  let s := { s with exts := [], wins := [], revokes := [], drains := [], progs := [],
                    regions := s.regions.map (fun (r : Nat × Region) =>
                      (r.1, { r.2 with tcache := [], miss := [], dirty := [] })),
                    vis := s.vis.map (fun (v : Nat × Vi) =>
                      (v.1, { v.2 with
                        lease := { v.2.lease with running := false, due := false }, pageExt := 0,
                        page := { v.2.page with eqBase := 0, eqSize := 0, doneIe := false, eqIe := false, eqEn := false } })) }
  let s := s.filterMirrors (fun _ => false)
  let s := s.modHome (fun h => { h with agents := h.agents.filter (fun a => a.2.host), dir := [], txns := [], heldWb := [] })
  let s := s.modFabric (fun f => { f with nodes := [] })
  s.modCyc (fun c => { c with heldAns := [] })

/-- PAIR_CTL (R373). -/
def Cycles.ctl (c : Cycles) : Nat :=
  c.girth * 2 ^ 24 + c.cycleCap * 2 ^ 18 + c.cycleUs * 2 ^ 8 + 4 * b2n c.soloEn + 2 * b2n c.takeoverEn

/-- Put the fields of a PAIR_CTL value in force; a field out of range stays. The flag says that none was. -/
def State.putPairCtl (s : State) (v : Nat) : Bool × State :=
  let g := bitf v 31 24
  let cap := bitf v 23 18
  let u := bitf v 15 8
  let okG := decide (5 ≤ g ∧ g ≤ 200)
  let okC := decide (1 ≤ cap ∧ cap ≤ 32)
  let okU := decide (5 ≤ u ∧ u ≤ 200)
  (okG && okC && okU, s.modCyc (fun c =>
    { c with girth := if okG then g else c.girth, cycleCap := if okC then cap else c.cycleCap,
             cycleUs := if okU then u else c.cycleUs, soloEn := tbit v 2, takeoverEn := tbit v 1 }))

/-- A lease that this package takes now. -/
def Girth.take (g : Girth) (t len : Nat) : Girth :=
  { g with hold := true, endAt := t, answered := true, lapsed := false, len := len }

/-- Both girth leases are this package's, from now on (R345, R350, R359). -/
def State.takeLeases (s : State) : State :=
  let t := s.now + slowEdge s s.girthLen
  s.modPair (fun p => { p with la := p.la.take t s.girthLen, co := p.co.take t s.girthLen, keepAlive := s.now })

/-- The part has read the partner's ACT line high for 16 RC cycles and asserts its own (R347). -/
def State.claimAct (s : State) : State :=
  let s := s.reach (s.now + rcCycles 16)
  (s.driveAct true).modPair (fun p => { p with claimDue := false, keepAlive := s.now })

/-- Firmware asks for ACT: it is asserted now where the partner's line reads high, else once it does (R347). -/
def State.wantAct (s : State) : State :=
  if s.pair.act then s
  else if s.partnerAct then s.modPair (fun p => { p with claimDue := true })
  else s.claimAct

/-- The partner holds them, as far as this package can tell. -/
def State.giveLeases (s : State) : State :=
  let t := s.now + fastEdge s s.girthLen
  s.modPair (fun p => { p with la := { p.la with hold := false, viewEnd := t }, co := { p.co with hold := false, viewEnd := t } })

/-- Every host lease restarts with its full length (step 4 of R356). -/
def State.restartLeases (s : State) : State :=
  { s with vis := s.vis.map (fun (v : Nat × Vi) => (v.1, if v.2.lease.running then
      { v.2 with lease := { v.2.lease with renewAt := s.now + slowEdge s (ms v.2.lease.ms / 2),
                                           endAt := s.now + fastEdge s (ms v.2.lease.ms) } } else v.2)) }

/-- The event queues restart at the new active (R441), and PAIR_TAKEOVER is posted to every VI (R356, R359). -/
def State.postTakeover (s : State) (planned : Bool) : State :=
  let s := { s with vis := s.vis.map (fun (v : Nat × Vi) =>
    (v.1, if v.2.page.eqEn then { v.2 with page := { v.2.page with tail := 0, head := 0 } } else v.2)) }
  s.allVis.foldl (fun s v => s.post v evPAIR_TAKEOVER 0 (toLe 4 s.cyc.applied.toNat ++ toLe 1 (b2n planned))) s

/-- Start an exchange of roles at the active (R359) for a VI (1024: the partner asked). -/
def State.startRole (s : State) (vi : Nat) : State :=
  (s.modCyc (fun c => { c with roleStep := 1, roleVi := vi })).closeEarly

/-- The partner of step 5 of R359 has claimed ACT and is the active; a PAIR_ROLE given here is answered. -/
def State.enterRole (s : State) : State :=
  let s := s.pairState .active
  let s := s.modCyc (fun c => { c with cycle := c.applied + 1, openedAt := s.now, usNow := c.cycleUs, capNow := c.cycleCap })
  ((s.restartLeases).postTakeover true).finishWaiters 0x0903 0

/-- Steps 3 to 5 of R359 at the partner: it takes both girth leases and claims ACT under R347, which the old active may
still be releasing. -/
def State.takeRole (s : State) : State :=
  let s := s.takeLeases.wantAct
  if s.pair.act then s.enterRole else s

/-- PAIR_MEND at the active (R371): copy the active's granule over the other, or ask for the other's copy. -/
def State.startMend (s : State) (vi g : Nat) (toActive : Bool) : State :=
  if toActive then
    (s.modCyc (fun c => { c with mends := c.mends ++ [(vi, g, none)] })).sendCtl vi (.mend g true)
  else
    ((s.dirtyBlocks g (List.range 256)).modCyc (fun c => { c with mends := c.mends ++ [(vi, g, some c.cycle)] })).closeEarly

/-- The start of PAIR_FORM reaches a package that has accepted it (R343, R345): its status, its APPLIED_CYCLE and
whether a delta copy is enough (R366). -/
def State.formed (s : State) (a : Nat) : Nat × Nat × State :=
  if s.pair.accepted ≠ some a ∨ !(s.pair.state == .unpaired || s.pair.state == .stale || s.pair.state == .fenced) then
    (stBOUND, 0, s)
  else
    let delta := s.pair.state == .stale && s.pair.partner == a
    let s := (s.dropOwn.pairState .syncing).giveLeases
    let s := s.modPair (fun p => { p with accepted := none, partner := a, index := b2n (decide (a < s.aon.nodeId)), demand := false })
    (stOK, s.cyc.applied.toNat + 2 ^ 32 * b2n delta, s)

/-- Apply one pair-scoped change to this package's copy. -/
def State.applyScoped (s : State) (m : CtlMirror) : State :=
  match m with
  | .ext id e => s.setExt id (parseExt e)
  | .revoke id => (s.clearExtent id).setExt id { s.ext id with state := .free }
  | .win id b => match parseWin b with | some d => s.putWin id d | none => s
  | .winClass id k => s.setWin id { s.win id with cls := k }
  | .table w q es =>
    let s := s.applyEntries (es.filterMap parseRun)
    s.setWin w { s.win w with tblSeq := q }
  | .lease v true n => s.startLease v n
  | .lease v false _ =>
    let s := s.modVi v (fun x => { x with lease := { x.lease with running := false } })
    let l := (s.wins.filter (fun w => w.2.ownerVi == v)).map (·.1)
    let s := l.foldl (fun s w => (s.setWin w { s.win w with kind := 0 }).dropRuns w) s
    (s.modHome (fun h => { h with agents := h.agents.filter (fun a => a.2.vi != v) })).orphanProgs v
  | .agent i n v true => s.newAgent i ⟨n, v, false⟩
  | .agent i _ _ false => s.retireAgent i
  | .prog n o b => s.putProg n o b
  | .progFree n => { s with progs := tdel s.progs n }
  | .viSched v b => match parseViSched b with | some e => s.putViSched v e | none => s
  | .node n b => match parseNode b with | some e => s.setNode n e | none => s
  | .key v k c => s.modVi v (fun x => { x with key := k, counter := c })
  | .eq v b c => s.modVi v (fun x => { x with page := { x.page with
      eqBase := b, eqSize := bitf c.toNat 19 16, doneIe := tbit c.toNat 2, eqIe := tbit c.toNat 1, eqEn := tbit c.toNat 0 } })
  | .keep l => (s.dram.valid.filter (fun g => !l.contains g)).foldl (fun s g => s.setValid g false) s
  | .pairCtl v => (s.putPairCtl v.toNat).2
  | .form _ => s
  | .role => s
  | .coordMove => s
  | .mend _ _ => s

/-- What a CTL_MIRROR does: the status and INFO of its CMP. -/
def State.applyMirror (s : State) (m : CtlMirror) : Nat × Nat × State :=
  if s.pair.state == .unpaired && (match m with | .form _ => false | _ => true) then (stBOUND, 0, s) else
  match m with
  | .form a => s.formed a
  | .pairCtl v => (stOK, 0, (s.putPairCtl v.toNat).2)
  | .coordMove => (stOK, 0, s.modPair (fun p =>
      { p with co := p.co.take (s.now + slowEdge s s.girthLen) s.girthLen }))
  | .role =>
    if s.pair.state == .standby then (stOK, 0, s.takeRole)
    else if s.pair.state == .active && s.cyc.roleStep == 0 then (stOK, 0, s.startRole 1024)
    else (stBOUND, 0, s)
  | .mend g t =>
    if s.pair.state == .active then (stOK, 0, s.startMend 1024 g t)
    else if s.pair.state == .standby && t then (stOK, 0, s.sendWhole g)
    else (stBOUND, 0, s)
  | m => if s.takesRecords then (stOK, 0, s.applyScoped m) else (stBOUND, 0, s)

/-- The change dirties a granule for which the dirty table has no room yet: its packet waits (R361). -/
def State.mirrorWaits (s : State) (m : CtlMirror) : Bool :=
  match m with
  | .mend g false => s.pair.state == .active && s.tableFull g
  | _ => false

/-- CTL_MIRROR (R255, R344, R364): applied and answered CMP with the packet's SEQ and TAG. -/
def execCtlMirror (m : CtlMirror) (s : State) : Host.Outcome State Fault Refusal :=
  onUnit true (
    if s.mirrorWaits m then s else
    let b := Config.mirrorPayload m
    let q := ((s.die 0).inbox.find? (fun p => p.ptype == 0x24 && p.payload == b)).getD Pkt.zero
    let s := s.takeRein 0x24 b
    let (st, info, s) := s.applyMirror m
    s.emit ⟨{ Pkt.zero with ptype := 0x0A, seq := q.seq, tag := q.tag, status := st, subop := 4, info := BitVec.ofNat 64 info }, .rein,
      none, 7, noPort, none, 0⟩)

/-! ### Answers (R257, R264, R269) -/

/-- The partner has answered the start of PAIR_FORM (R345): forming begins, or the command is refused. A delta copy
needs a pair that this package has not left: in UNPAIRED nothing is tracked, so every extent is copied (R366, R434). -/
def State.formAnswered (s : State) (vi status info : Nat) : State :=
  let s := s.modPair (fun p => { p with formTag := none })
  let a := match (s.vi vi).cmd with | some b => b.object | none => 0
  if status ≠ stOK then s.finishCmd vi stBOUND []
  else
    let full := !tbit info 32 || s.pair.state == .unpaired
    let i := b2n (decide (a < s.aon.nodeId))
    let s := s.modPair (fun p =>
      { p with partner := a, index := i, demand := false, holding := false,
               lines := if p.act then lset (lset p.lines p.index true) i false else p.lines })
    let s := s.takeLeases.wantAct
    let s := (s.pairState .solo).startSweep full (BitVec.ofNat 32 info)
    let s := s.modCyc (fun c => { c with openedAt := s.now, usNow := c.cycleUs, capNow := c.cycleCap })
    (s.bulk.foldl (fun s m => s.sendCtl vi m) s).answerMirrored vi stOK []

/-- The status that a write's answer stands for: DUP_IGNORED is completion (R269). -/
def writeStatus (st : Nat) : Nat := if st = stDUP then stOK else st

/-- The first answer of a send context closes it; one for no context is
dropped. A CMP of the Rein link, which the arrival marked with the node number 4096, answers a CTL_MIRROR. -/
def State.answerIn (s : State) (p : Pkt) : State :=
  let s := s.takeIn p
  if p.srcNode = 4096 then
    if s.pair.formTag = some p.tag.toNat then
      match s.cyc.mirrorSent.find? (fun m => m.1 == p.tag.toNat) with
      | some m => (s.modCyc (fun c => { c with mirrorSent := c.mirrorSent.erase m })).formAnswered m.2.1 p.status p.info.toNat
      | none => s
    else
      let t := p.tag.toNat
      (s.mirrorDone t p.status).when (p.status ≠ stOK && s.mirrors && s.cyc.mirrorSent.any (fun m => m.1 == t))
        (fun s => s.demandStale)
  else match s.sendOf p with
    | none => s
    | some q =>
      if q.msg.ptype = 5 then
        if p.subop = 5 then s.fabricSnoop p 0 (rspData p)
        else if p.subop = 6 then s.fabricSnoop p 1 (rspData p)
        else if p.subop = 7 then s.fabricSnoop p 2 (if p.info.getLsbD 0 then some [] else none)
        else s.closeSend p.dpg q.tag
      else
        let s := s.closeSend p.dpg q.tag
        match q.ref with
        | some (n, t, d) => s.gatherAnswered n t d (writeStatus p.status)
        | none => s

/-- ANSWER (R165, R257, R265, R269). -/
def execAnswer (p : Pkt) (s : State) : Host.Outcome State Fault Refusal := onUnit true (s.answerIn p)

/-! ### Commands (R345, R350, R359, R366, R371, R373, R374) -/

/-- The partner takes part in the pair. -/
def State.linked (s : State) : Bool :=
  s.pair.state == .active || s.pair.state == .standby || s.pair.state == .syncing || (s.pair.state == .solo && s.cyc.resync)

/-- PAIR_FORM (R345). -/
def execPairForm (page : Nat) (c : Cmd) (s : State) : Host.Outcome State Fault Refusal :=
  s.command page 0x0901 c (lenIs c 2) [(0, 2, 0xFFF)] .pf false (fun s =>
    let a := arg c 0 2
    let busy : Bool := match s.pair.partnerState with | some .active => true | some .solo => true | _ => false
    if !(s.pair.state == .unpaired || s.pair.state == .solo) ∨ a = s.aon.nodeId ∨ !s.reinUp ∨ s.pair.fault ∨ busy ∨
       s.pair.formTag.isSome then (.bound 0x40, s)
    else
      let s := s.sendCtl page (.form s.aon.nodeId)
      (.wait a, s.modPair (fun p => { p with formTag := (s.cyc.mirrorSent.getLast?).map (·.1) })))

/-- PAIR_ACCEPT (R345). -/
def execPairAccept (page : Nat) (c : Cmd) (s : State) : Host.Outcome State Fault Refusal :=
  s.command page 0x0902 c (lenIs c 2) [(0, 2, 0xFFF)] .pf false (fun s =>
    let a := arg c 0 2
    if !(s.pair.state == .unpaired || s.pair.state == .stale || s.pair.state == .fenced) ∨ a = s.aon.nodeId then (.bound 0x40, s)
    else (.ok, s.modPair (fun p => { p with accepted := some a })))

/-- PAIR_ROLE (R359), at the active or at a standby that is the coordinator, which asks the active: it is answered once the
roles are exchanged. -/
def execPairRole (page : Nat) (c : Cmd) (s : State) : Host.Outcome State Fault Refusal :=
  s.command page 0x0903 c (lenIs c 0) [] .co false (fun s =>
    if s.pair.state == .active then
      if s.cyc.roleStep ≠ 0 then (.fail stRETRY, s) else (.wait 0, s.startRole page)
    else if s.pair.state == .standby then
      if s.cyc.roleStep ≠ 0 || s.pair.claimDue || (s.waitersOn 0x0903 0).any (· != page) then (.fail stRETRY, s)
      else (.wait 0, s.sendCtl page .role)
    else (.bound noField, s))

/-- PAIR_RESYNC (R345, R366): the sweep starts anew toward a partner in SYNCING. -/
def execPairResync (page : Nat) (c : Cmd) (s : State) : Host.Outcome State Fault Refusal :=
  s.command page 0x0904 c (lenIs c 0) [] .co false (fun s =>
    if s.pair.state == .solo ∧ s.pair.partnerState = some .syncing then (.ok, s.startSweep s.cyc.fullCopy s.cyc.deltaFrom)
    else (.bound noField, s))

/-- PAIR_MEND (R371). -/
def execPairMend (page : Nat) (c : Cmd) (s : State) : Host.Outcome State Fault Refusal :=
  s.command page 0x0905 c (lenIs c 5) [] .co false (fun s =>
    let g := arg c 0 4
    if g ≥ 12 * stackGranules ∨ !s.mirroredAt g then (.bound 0x40, s)
    else if arg c 4 1 > 1 then (.bound 0x44, s)
    else if s.pair.state == .active then
      if arg c 4 1 == 0 && s.tableFull g then (.fail parkWait, s)
      else (.wait g, s.startMend page g (arg c 4 1 == 1))
    else if s.pair.state == .standby then (.mirrored [] [], s.sendCtl page (.mend g (arg c 4 1 == 1)))
    else (.bound noField, s))

/-- PAIR_SET (R373): the change is applied to both packages, in every state of the pair (a coordinator is never
UNPAIRED). -/
def execPairSet (page : Nat) (c : Cmd) (s : State) : Host.Outcome State Fault Refusal :=
  s.command page 0x0906 c (lenIs c 4) [(0, 4, 0xFFFCFF06)] .co false (fun s =>
    let (good, s) := s.putPairCtl (arg c 0 4)
    let m : CtlMirror := .pairCtl (BitVec.ofNat 32 s.cyc.ctl)
    if good then (.mirrored [] [], s.sendCtl page m) else (.bound 0x40, s.sendCtl 1024 m))

/-- PAIR_DISSOLVE (R343): this package is UNPAIRED. The indices of its lines and CINCH_FAULT with its counts stay as they
are (R349, assumption 219). -/
def State.dissolve (s : State) : State :=
  let form : List Nat := match s.pair.formTag with
    | some t => (s.cyc.mirrorSent.filter (fun m => m.1 == t)).map (·.2.1)
    | none => []
  let s := form.foldl (fun s v => s.failMirror v stBOUND) (s.modPair (fun p => { p with formTag := none }))
  let s := s.dropRole.dropMirrors.stopShipping
  let s := (s.driveAct false).driveReq false
  let s := if s.pair.state == .unpaired then s else s.pairState .unpaired
  let s := s.modPair (fun p =>
    { p with partner := 0, accepted := none, la := Girth.reset, co := Girth.reset, claimAt := none,
             claimDue := false, demand := false, holding := false, lapseReq := false })
  let s := s.modCyc (fun c => { c with asked := [] })
  (s.releaseCycles (fun _ => true)).resumeCycle

def execPairDissolve (page : Nat) (c : Cmd) (s : State) : Host.Outcome State Fault Refusal :=
  s.command page 0x0907 c (lenIs c 0) [] .pf false (fun s => (.ok, s.dissolve))

/-- PAIR_COORD_MOVE (R350). -/
def execPairCoordMove (page : Nat) (c : Cmd) (s : State) : Host.Outcome State Fault Refusal :=
  s.command page 0x0908 c (lenIs c 0) [] .co false (fun s =>
    if s.linked then
      (.mirrored [] [], (s.sendCtl page .coordMove).modPair (fun p =>
        { p with co := { p.co with hold := false, viewEnd := s.now + fastEdge s s.girthLen } }))
    else (.bound noField, s))

/-- PAIR_SYNC (R362): in ACTIVE the current cycle closes and the command waits for it; else nothing is held. -/
def execPairSync (page : Nat) (c : Cmd) (s : State) : Host.Outcome State Fault Refusal :=
  s.command page 0x0909 c (lenIs c 0) [] .any false (fun s =>
    if s.pair.state == .active then
      (.wait 0, (s.modCyc (fun k => { k with syncs := k.syncs ++ [(page, k.cycle)] })).closeEarly)
    else (.done stOK noField (toLe 4 s.cyc.applied.toNat), s))

/-- The record of R374. -/
def State.pairRecord (s : State) : Bytes :=
  let p := s.pair
  let y := s.cyc
  let cur := (s.regions.filterMap (fun r => r.2.cursor)).foldl (fun m g => min m g) 0xFFFFFFFF
  toLe 1 p.state.code ++
  toLe 1 (p.index % 2 + 2 * b2n s.isCoord + 4 * b2n (p.rein.degraded || p.sb.degraded) + 8 * b2n p.fault + 16 * b2n y.resync) ++
  toLe 2 (p.partner % 4096) ++ toLe 4 y.cycle.toNat ++ toLe 4 y.applied.toNat ++ toLe 4 y.early ++ toLe 8 y.bytes ++
  toLe 8 y.records ++ toLe 4 p.rein.total ++ toLe 4 p.sb.total ++ toLe 4 y.renewals ++ toLe 4 y.abandoned ++
  toLe 4 y.refreshed ++ toLe 4 y.repaired ++ toLe 4 cur ++ toLe 4 0

/-- PAIR_STATS (R374). -/
def execPairStats (page : Nat) (c : Cmd) (s : State) : Host.Outcome State Fault Refusal :=
  s.command page 0x090A c (lenIs c 0) [] .any false (fun s => (.done stOK noField s.pairRecord, s))

/-! ### Girth leases (R350, R351) -/

/-- A renewal of the partner's: this package's view of the lease starts again. -/
def Girth.renewed (g : Girth) (t : Nat) : Girth := { g with viewEnd := t }

/-- A grant of `seq`: the first one restarts the holder's timer from the moment `seq` was sent, with the length of that
renewal (R350, R373). -/
def Girth.granted (g : Girth) (s : State) (seq : Word16) : Girth :=
  if g.hold && !g.answered && g.seq == seq then
    { g with endAt := g.sentAt + slowEdge s g.len, answered := true, lapsed := false }
  else g

/-- Renewals, grants and a demand of the partner, from either path (R350, R363). -/
def State.girthIn (s : State) (flags : Nat) (seq : Word16) : State :=
  if s.pair.state == .unpaired then s else
  let view := s.now + fastEdge s s.girthLen
  let renewLa := tbit flags 4 && !s.pair.la.hold
  let renewCo := tbit flags 3 && !s.pair.co.hold
  let la := if tbit flags 2 then s.pair.la.granted s seq else s.pair.la
  let co := if tbit flags 1 then s.pair.co.granted s seq else s.pair.co
  let n := b2n (la.answered && !s.pair.la.answered) + b2n (co.answered && !s.pair.co.answered)
  let s := s.modPair (fun p => { p with la := if renewLa then la.renewed view else la,
                                        co := if renewCo then co.renewed view else co })
  let s := s.modCyc (fun c => { c with renewals := c.renewals + n })
  let back := 4 * b2n renewLa + 2 * b2n renewCo
  let s := if back = 0 then s else s.sendGirth back seq
  if tbit flags 0 then s.enterStale else s

/-- GIRTH (R350, R364). -/
def execGirth (seq : Word16) (flags : Byte) (s : State) : Host.Outcome State Fault Refusal :=
  onUnit true (
    let s := s.takeRein 0x25 (toLe 2 seq.toNat ++ [flags])
    if s.complexUp 0 then s.girthIn flags.toNat seq else s)

/-- GIRTH_RENEW_SEND (R350): every 0.4 T_g at the slow edge, with the next sequence number. -/
def execGirthRenewSend (coord : Bool) (s : State) : Host.Outcome State Fault Refusal :=
  onUnit true (
    let g := if coord then s.pair.co else s.pair.la
    if !g.hold || !s.complexUp 0 then s else
    let s := s.reach (g.sentAt + slowEdge s (s.girthLen * 2 / 5))
    let g := { g with seq := g.seq + 1, sentAt := s.now, answered := false, len := s.girthLen }
    (s.modPair (fun p => if coord then { p with co := g } else { p with la := g })).sendGirth (if coord then 8 else 16) g.seq)

/-- GIRTH_LAPSE (R351, R343). While the partner's REQ is asserted an active keeps its state. -/
def execGirthLapse (coord : Bool) (s : State) : Host.Outcome State Fault Refusal :=
  onUnit true (
    let g := if coord then s.pair.co else s.pair.la
    if !g.hold then s else
    let s := s.reach g.endAt
    let g := { g with hold := false, lapsed := true }
    if coord then s.modPair (fun p => { p with co := g })
    else
      let s := s.modPair (fun p => { p with la := g })
      if s.boot.por || !(s.pair.state == .active || s.pair.state == .solo) then s
      else if !s.cyc.soloEn then s.stopServing .fenced
      else if s.pair.state == .active && !s.partnerReq then s.enterSolo true
      else s)

/-- SOLO_HOLD_END (R351): 25 ms after the lapse the partner's REQ has always read high. -/
def execSoloHoldEnd (s : State) : Host.Outcome State Fault Refusal :=
  onUnit true (
    if s.pair.state == .solo && s.pair.holding && !s.pair.lapseReq && !s.partnerReq then (s.reach s.pair.holdUntil).stopHolding
    else s)

/-! ### Heartbeats (R349, R353 to R355) -/

/-- HEARTBEAT_SEND (R353, R431): firmware of complex 0 sends it. -/
def execHeartbeatSend (s : State) : Host.Outcome State Fault Refusal :=
  onUnit true (
    if !s.complexUp 0 then s else
    let s := s.reach (s.pair.hbAt + slowEdge s (ms 1))
    let s := s.modPair (fun p => { p with hbCount := p.hbCount + 1, hbAt := s.now })
    let n := s.pair.hbCount.toNat
    let s := [64, 65].foldl (fun s i => s.modPort i (fun q =>
      if q.state == .active then q.push (bypassWord 9 n) else q)) s
    s.sendFrame 0 0)

/-- The partner's report of the lines this package drives (R349). -/
def State.cinchReport (s : State) (seen : Nat) : State :=
  let i := s.pair.index
  let agree := tbit seen i == !s.pair.act && tbit seen (2 + i) == !s.pair.req
  let s := s.modPair (fun p => if agree then { p with agree := p.agree + 1, disagree := 0 }
                               else { p with agree := 0, disagree := p.disagree + 1 })
  if !s.pair.fault && decide (s.pair.disagree ≥ 3) then
    ((s.modPair (fun p => { p with fault := true })).logRec lgCINCH_FAULT [seen]).postPfs evPAIR_DEGRADED 0 [2#8]
  else if s.pair.fault && decide (s.pair.agree ≥ 8) then s.modPair (fun p => { p with fault := false })
  else s

/-- The partner's state as its frame reports it (R343, R363, R368, R369). -/
def State.partnerIs (s : State) (x : PairState) : State :=
  let s := s.modPair (fun p => { p with partnerState := some x })
  match s.pair.state, x with
  | .active, .stale => s.enterSolo false
  | .solo, .stale =>
    if s.cyc.resync then
      (((s.modPair (fun p => { p with demand := false })).stopShipping).releaseCycles (fun _ => true)).dropMirrors.resumeCycle
    else s
  | .solo, .unpaired =>
    if s.cyc.resync then s.startSweep true 0 else s
  | .syncing, .active => s.pairState .standby
  | .syncing, .unpaired => s.pairState .stale
  | .standby, .active => if s.cyc.roleStep = 5 then s.endRole stRETRY stOK else s
  | .standby, .standby => s
  | .standby, _ => s.failRole
  | _, _ => s

/-- A frame with a good SYNC and CRC (R353). -/
def frameOk (f : Bytes) : Bool :=
  f.length == 12 && f.head? == some 0xD5#8 && toBe 2 (crcOf 3 (f.take 10)) == f.drop 10

/-- PAIR_HB_FRAME (R349, R350, R353 to R355). -/
def execPairHbFrame (frame : Bytes) (s : State) : Host.Outcome State Fault Refusal :=
  onUnit true (
    if !frameOk frame then s else
    let b (i n : Nat) : Nat := leNat (slice frame i n).reverse
    let s := s.beatSb (b 2 4)
    let s := s.cinchReport (b 1 1 % 16)
    let s := if b 1 1 / 16 < 8 then s.partnerIs (PairState.ofCode (b 1 1 / 16)) else s
    if s.complexUp 0 then s.girthIn (b 6 2 / 2 ^ 11) (BitVec.ofNat 16 (b 8 2)) else s)

/-- A miss on a path (R354). -/
def HbPath.miss (p : HbPath) (now : Nat) : HbPath :=
  { p with at_ := now, misses := p.misses + 1, valid := 0, total := p.total + 1 }

/-- Both paths have been silent for eight misses. -/
def Pair.silent (p : Pair) : Bool := decide (p.rein.misses ≥ 8 ∧ p.sb.misses ≥ 8)

/-- HEARTBEAT_MISS (R354, R355, R368): eight in a row on one path while the other delivers raise the alarm; a
package in SYNCING that has lost its active on both paths, past its lease, becomes STALE. -/
def execHeartbeatMiss (rein : Bool) (s : State) : Host.Outcome State Fault Refusal :=
  onUnit true (
    let p := if rein then s.pair.rein else s.pair.sb
    let s := s.reach (p.at_ + fastEdge s (us 1250))
    let p := p.miss s.now
    let other := if rein then s.pair.sb else s.pair.rein
    let alarm := decide (p.misses ≥ 8) && !p.degraded && other.misses == 0
    let p := if alarm then { p with degraded := true } else p
    let s := s.modPair (fun q => if rein then { q with rein := p } else { q with sb := p })
    let s := if alarm then (s.logRec lgDEGRADED [b2n (!rein)]).postPfs evPAIR_DEGRADED 0 [BitVec.ofNat 8 (b2n (!rein))] else s
    if s.pair.state == .syncing && s.pair.silent && decide (s.pair.la.viewEnd ≤ s.now) then s.pairState .stale else s)

/-! ### Takeover (R356, R357) -/

/-- TAKEOVER_START (R356). -/
def execTakeoverStart (s : State) : Host.Outcome State Fault Refusal :=
  onUnit true (
    if s.complexUp 0 && s.pair.state == .standby && s.cyc.takeoverEn && !s.pair.fault && s.pair.silent then
      let s := ((s.reach s.pair.la.viewEnd).pairState .takeover).driveReq true
      let s := s.modPair (fun p => { p with reqAt := s.now, claimAt := none, claimDue := false })
      s.endRole stRETRY stRETRY
    else s)

/-- Step 5 of R356: every caching agent of the pair ends without marks, those of the host ports among them
(assumption 220). -/
def State.dropAgents (s : State) : State :=
  let ports := (s.home.agents.filter (fun a => a.2.host)).map (·.1)
  let s := ports.foldl (fun s d => s.setHostPort d { s.hostPort d with hdmDb := false }) s
  s.modHome (fun h => { h with agents := [], dir := [], txns := [], heldWb := [], inbox := [] })

/-- Steps 1 to 7 of R356; both girth leases are then this package's (R350). -/
def State.takeOver (s : State) : State :=
  let s := s.modDie 0 (fun d => { d with asms := d.asms.filter (fun a =>
    !(a.node == 4096 && a.pkts.any (fun p => p.ptype == 0x20 || p.ptype == 0x27))) })
  let s := (List.range 12).foldl (fun s g => s.writeRecords g) s
  let s := s.modCyc (fun c => { c with cycle := c.applied + 65536, openedAt := s.now, usNow := c.cycleUs, capNow := c.cycleCap,
                                       asked := [] })
  let s := ((s.exts.filter (fun e => e.2.state == .active && !e.2.mirrored)).map (·.1)).foldl
    (fun s e => s.beginRevoke e .revoking stREVOKED) s
  let s := s.restartLeases.dropAgents.takeLeases
  let s := ((s.driveReq false).modPair (fun p => { p with claimAt := none })).pairState .solo
  s.postTakeover false

/-- CINCH_CLAIM (R347, R348, R356): in TAKEOVER, with the partner's ACT read high for 16 RC cycles, the own ACT is asserted;
once a further 16 RC cycles have passed in which the line was not lost, the claim has succeeded and the takeover is carried
out by the same row (assumption 101). It also asserts the ACT of a package that forms a pair or takes the role of the
active, where the partner's line was low when firmware asked. -/
def execCinchClaim (s : State) : Host.Outcome State Fault Refusal :=
  onUnit true (
    if !s.complexUp 0 then s
    else if s.pair.state == .takeover then
      match s.pair.claimAt with
      | some t => (s.reach (t + rcCycles 16)).takeOver
      | none =>
        if s.partnerAct then s
        else
          let s := s.claimAct
          s.modPair (fun p => { p with claimAt := some s.now })
    else if s.pair.claimDue && !s.partnerAct then
      let s := s.claimAct
      if s.pair.state == .standby then s.enterRole else s
    else s)

/-- REQ_WAIT_EXPIRE (R357). -/
def execReqWaitExpire (s : State) : Host.Outcome State Fault Refusal :=
  onUnit true (
    if s.complexUp 0 && s.pair.state == .takeover && s.partnerAct && s.pair.claimAt.isNone then
      let s := ((s.reach (s.pair.reqAt + slowEdge s (ms 20))).driveReq false).pairState .stale
      s.modCyc (fun c => { c with abandoned := c.abandoned + 1 })
    else s)

/-- The own ACT line has been released, or a claim has failed (R348). -/
def State.lostAct (s : State) : State :=
  if s.boot.por then s.driveAct false
  else if s.pair.state == .takeover then s.stopServing .stale
  else if s.pair.state == .active || s.pair.state == .solo then s.stopServing .fenced
  else s.driveAct false

/-- CINCH_LINE_CHANGE (R347, R348, R351): a level on a line. The own lines stay low while driven. At the old active of an
exchange of roles the partner's ACT ends the exchange (R359). -/
def execCinchLineChange (line : Nat) (high : Bool) (s : State) : Host.Outcome State Fault Refusal :=
  onUnit (decide (line < 4)) (
    let i := s.pair.index
    let s := s.modPair (fun p => { p with lines := lset p.lines line high })
    if s.pair.state == .unpaired then s
    else if line = i then (if high && s.pair.act then s.lostAct else s)
    else if line = 1 - i then
      if !high && s.pair.act && i == 1 && decide (s.now ≤ s.pair.actAt + rcCycles 16) then s.lostAct
      else if !high && s.pair.state == .standby && s.cyc.roleStep == 5 then s.endRole stRETRY stOK
      else s
    else if line = 2 + i then s
    else if !high then (if s.pair.holding then s.modPair (fun p => { p with lapseReq := true }) else s)
    else if s.pair.state == .solo && s.pair.holding && s.pair.lapseReq then s.stopHolding
    else if s.pair.state == .active && s.pair.la.lapsed then s.enterSolo false
    else s)

/-- KEEPALIVE_WRITE (R347). -/
def execKeepaliveWrite (s : State) : Host.Outcome State Fault Refusal :=
  onUnit true (
    if s.complexUp 0 && (s.pair.state == .active || s.pair.state == .solo) then
      let s := s.reach (s.pair.keepAlive + ms 1)
      s.modPair (fun p => { p with keepAlive := s.now })
    else s)

/-- ACT_RELEASE_TIMEOUT (R347, R348): no lease-authority lease runs here, and 10 ms have passed without a keep-alive,
which the always-on block counts on RC. -/
def execActReleaseTimeout (s : State) : Host.Outcome State Fault Refusal :=
  onUnit true (
    if s.pair.act && (s.pair.la.lapsed || !s.pair.la.hold) then
      (s.reach (max (if s.pair.la.lapsed then s.pair.la.endAt else 0) (s.pair.keepAlive + ms 10 * 19 / 20))).lostAct
    else s)

/-- REIN_DOWN_STALE (R343, R363): the Rein link has been down for 1 ms in which PAIR_HB delivered. -/
def execReinDownStale (s : State) : Host.Outcome State Fault Refusal :=
  onUnit true (
    match s.fabric.reinDownAt with
    | some since => if s.pair.state == .standby && decide (since ≤ s.pair.sb.lastOk) then (s.reach (since + ms 1)).enterStale else s
    | none => s)

end Sys2Proof.Machine
end

