-- ==== Sys2Proof/Machine/Reset.lean ====
section
/-! DEFINITION. How resets begin and what they clear (R13 to R19, R26, R89, R154, R171, R251, R294, R336, R385,
R425 to R430), the end of a region reset, the firmware image (R413, R414, R416), the node ID (R421, R423), and
the commands that ask for resets (R404). -/
namespace Sys2Proof.Machine

open Sys2Proof

/-! ### Regions (R17, R89, R336, R365) -/

/-- The region of a contribution's tile, as far as its pages are known. -/
def Waiting.contrRegion (w : Waiting) : Nat := (((lookSegs w.looks 0).head?).map (fun x => stackOf x.pa)).getD 0

/-- End a request or contribution with a status, wherever it waits. -/
def State.endWait (s : State) (id status : Nat) : State :=
  match s.waitOf id with
  | some w => if w.pkt.ptype = 8 then s.answerContr id w.contrRegion status else s.failReq id status
  | none => s

/-- End every request that `f` names. -/
def State.endWaits (s : State) (f : Waiting → Bool) (status : Nat) : State :=
  ((s.waiting.filter f).map (·.id)).foldl (fun s i => s.endWait i status) s

/-- The request is outstanding in region `g`. -/
def Waiting.inRegion (w : Waiting) (g : Nat) : Bool :=
  (match w.plan with
   | some p => (p.src ++ p.dst).any (fun x => stackOf x.pa == g)
   | none => false) ||
  (match w.why with
   | .miss r _ _ => r == g
   | .fill x => regionOfGranule x == g
   | .fillRoom r => r == g
   | .txn l => homeOf l == g
   | .parked l => homeOf l == g
   | .mesh r => r == g
   | .stamp x => regionOfGranule x == g
   | .retryMiss => false
   | .cycle => false
   | .role => false)

/-- What a transaction still serves once its region has been reset: snoops stay outstanding with no requester. -/
def TxnFor.afterReset (f : TxnFor) : TxnFor :=
  match f with
  | .request _ => .orphan
  | .engine _ => .orphan
  | .evict => .evict
  | .remove a => .remove a
  | .revoke e => .revoke e
  | .orphan => .orphan

/-- A channel at a region reset (R336): queued writes are issued and the queues are empty then, the Eddy table is cleared
with half threshold for one window, the LFSR is seeded again; refreshes go on. -/
def Chan.regionReset (c : Chan) (n now : Nat) : Chan :=
  let c := c.sumParked now
  let writes := (c.lp ++ c.fifos.flatMap (·.2) ++ c.held ++ c.parked).filter (·.r.write)
  let c := writes.foldl (fun c e => c.issue e now) { c with lp := [], fifos := [], held := [], parked := [], active := [] }
  { c with
    eddy := [],
    halfLeft := (Chan.reset n).halfLeft, lfsr := (Chan.reset n).lfsr }.level now

/-- A region reset begins: accepted batches and whole records are written, everything else outstanding ends
RETRY_LATER, the clusters are reset and the scrub pass ends. -/
def State.regionReset (s : State) (g : Nat) : State :=
  if (s.region g).inReset then s
  else
    let s := s.flushCommits g
    let s := s.writeRecords g
    let s := (s.modRegion g (fun r => { r with inReset := true })).keepMsgs g
    let s := (s.region g).miss.foldl (fun s m => s.missClosed g m.window m.chunk (some stRETRY)) s
    let s := s.endWaits (fun w => w.inRegion g) stRETRY
    let s := s.modHome (fun h => { h with txns := h.txns.map (fun (t : Nat × Txn) =>
      if homeOf t.1 = g then (t.1, { t.2 with forWhat := t.2.forWhat.afterReset }) else t) })
    let cs := span (8 * g) 8
    let s := cs.foldl (fun s c => (s.waitersOn 0x0B01 c).foldl (fun s v => s.undoCmd v) s) s
    let s := cs.foldl (fun s c => s.clusterReset c) s
    let s := s.scrubReset g
    let s := (span (32 * g) 32).foldl (fun s n => s.modChan n (fun c => c.regionReset n s.now)) s
    s.modRegion g (fun r => { r with tcache := [], miss := [], fills := [] })

/-- Bytes of the valid-bitmap backing of a region. -/
def backingBytes : Nat := stackGranules / 8

/-- The SRAM bitmap is read from its backing (R50). A word that is uncorrectable, or poisoned by an earlier read, counts as
all valid and is rewritten so (R330). -/
def State.reloadValid (s : State) (g : Nat) : State :=
  let lo := metaBase g
  let words := (s.dram.check.map (·.1)).filter (fun w => decide (lo / 32 ≤ w ∧ w < (lo + backingBytes) / 32))
  let bad := words.filter (fun w => !s.dram.readable w)
  let s := words.foldl (fun s w => s.countWord none w) s
  let s := bad.foldl (fun s w =>
    { s with dram := s.dram.setWord w (List.replicate 32 0xFF#8) .clean }.logRec lgBACKING_BAD [32 * w]) s
  let mem := (words.filter (fun w => !bad.contains w)).foldl (fun m w =>
    match s.dram.word w with | some d => memWrite m (32 * w) d.data | none => m) s.dram.mem
  let bits := (mem.filter (fun c => decide (lo ≤ c.1 ∧ c.1 < lo + backingBytes))).flatMap (fun (c : Host.Cell) =>
    (List.range 8).filterMap (fun i =>
      if tbit c.2.toNat i then some (g * stackGranules + 8 * (c.1 - lo) + i) else none))
  { s with dram := { s.dram with
      valid := s.dram.valid.filter (fun x => decide (x < g * stackGranules)) ++ bits ++
               s.dram.valid.filter (fun x => decide (x ≥ (g + 1) * stackGranules)) } }

/-- Workspace tiles of a region whose IN_PROGRESS flag is set are discarded (R140). -/
def State.discardTorn (s : State) (g : Nat) : State :=
  s.streams.foldl (fun s e =>
    (e.2.wsUsed.filter (fun w => w.1 == g)).foldl (fun s w =>
      match s.wsSlot e.2 g w.2.1 with
      | none => s
      | some (a, b) =>
        let (t, s) := s.loadSpill e.2.owner a b
        if t.inProgress then (s.freeSlotOf e.1 g w.2.1).tileLost e.1 w.2.2 else s) s) s

/-- A region leaves reset (R50, R89, R140, R189, R368): its commands are answered. -/
def State.regionEnd (s : State) (g : Nat) : State :=
  if !(s.region g).inReset then s
  else
    let s := (s.reloadValid g).modRegion g (fun r =>
      { r with inReset := false, cursor := r.cursor.map (fun _ => r.savedCursor) })
    let s := (s.drainInbox g).discardTorn g
    let s := (span (8 * g) 8).foldl (fun s c => s.clusterResetEnd c) s
    s.finishWaiters 0x0B02 g

/-! ### Complexes and host ports (R171, R385, R426) -/

/-- Causes that hold a control complex in reset. -/
abbrev byPackage : Nat := 0
abbrev byPerst : Nat := 1
abbrev byWatchdog : Nat := 2

/-- The programming of the flash by an FW_UPDATE that `f` names stops where it is: the flash holds a partial image, of which
as much is written as a free value says (R430). -/
def State.cutFlash (s : State) (f : Nat → Bool) : State :=
  match s.boot.fwBusy with
  | none => s
  | some (vi, img) =>
    if !f vi then s
    else
      let (v, s) := s.fresh
      let n := v.toNat % img.length
      s.modBoot (fun b => { b with fwBusy := none, flash := patch b.flash 0 (img.take n) })

/-- A reset of complex `d` begins: its open streams are interrupted, its SPDM session and check-value units are
gone; what its journal and the security block keep stays. -/
def State.complexDown (s : State) (d cause : Nat) : State :=
  let (owed, s) := (s.cutFlash (fun v => complexOf v == d)).interruptAll (fun v => complexOf v == d)
  -- complex 0 sends the heartbeat frames of PAIR_HB_TX (R431)
  let s := s.when (d == 0) (fun s => s.modPair (fun p => { p with hbTx := [] }))
  s.modComplex d (fun x =>
    { x with held := insSet x.held cause, handshake := false, session := false, rcv := [], rcvReady := false, cvus := [], crcBy := [],
             interrupted := x.interrupted ++ owed })

/-- The weights of an idle port under a class table (R291). -/
def idleWeights (t : List (Nat × Nat)) : List Nat :=
  let spare := 256 - (t.map (·.1)).foldl (· + ·) 0
  (List.range 8).map (fun c => (t.getD c (0, 0)).1 + spare / 8 + if c = 7 then spare % 8 else 0)

/-- A scheduled port after a reset of its instance: nothing queued, no tags, and the configured class table in force. -/
def SchedPort.fresh (t : List (Nat × Nat)) (now : Nat) : SchedPort :=
  { SchedPort.reset with table := t, weff := idleWeights t, qAt := now, wAt := now, sAt := now }

/-- The scheduler instance loses its shapers, tags and queued packets, and its configuration is applied again (R294):
at the reset, and as it leaves reset. -/
def State.schedReset (s : State) (i : Nat) : State :=
  let s := s.modSched (fun c => { c with shapers := c.shapers.filter (fun (x : Nat × Shaper) => x.1 / 1024 != i) })
  (if i < 4 then span (16 * i) 16 else [60 + i]).foldl
    (fun s p => s.setSchedPort p (SchedPort.fresh s.sched.classes s.now)) s

/-- The controller of host port `d` is reset: its configuration and MSI-X tables are cleared, its agent ends
(R83, R426). -/
def State.hostPortReset (s : State) (d : Nat) : State :=
  let s := (s.endAgent d).setHostPort d { s.hostPort d with hdmDb := false, numVfs := 0 }
  let s := { s with vis := s.vis.map (fun (v : Nat × Vi) =>
    if v.1 < 512 ∧ complexOf v.1 = d then (v.1, { v.2 with page := { v.2.page with msix := [], pba := 0, irq0At := none } }) else v) }
  s.schedReset (4 + d)

/-- Link die `l` is reset (R251): its ports are down with nothing in them, its contexts are gone, its counters
start again (R253, R283). -/
def State.linkDieReset (s : State) (l : Nat) : State :=
  let t := (portsOf l).foldl (fun s i => s.modPort i (fun p => { p.fresh .down s.now with stats := [], tried := false })) s
  let t := t.modFabric (fun f => { f with wbOwed := f.wbOwed.filter (fun o => o.die != l) })
  ((((t.setDie l { LinkDie.reset with nextTag := (s.die l).nextTag }).schedReset l).keepRates s).noteRein)

/-! ### The package (R425 to R427) -/

/-- A package reset, or the hold after a thermal trip, is running. -/
def State.packageHeld (s : State) : Bool := s.boot.pkgReset.isSome || s.aon.tripHeld

/-- A pending node ID takes effect at a package reset or power-on (R423). -/
def AlwaysOn.takePending (a : AlwaysOn) : AlwaysOn :=
  match a.pendingId with
  | some n => { a with nodeId := n, pendingId := none }
  | none => a

/-- Every request in the part is answered RETRY_LATER. -/
def State.endEvery (s : State) : State := s.endWaits (fun _ => true) stRETRY

/-- Steps 1 to 3 of R427. The open tiles of every cluster are lost before their streams are interrupted (R139, R171).
Answers given at step 1 leave while the link dies still run; then link dies, host ports
and complexes are in reset, and what is left in them is gone. -/
def State.packageDown (s : State) : State :=
  let s := (List.range 96).foldl (fun s c => s.loseOpen c) s
  let s := (s.complexDown 0 byPackage).complexDown 1 byPackage
  let s := (List.range 12).foldl (fun s g => (s.waitersOn 0x0B02 g).foldl (fun s v => s.undoCmd v) s) s
  let s := (List.range 12).foldl (fun s g => s.regionReset g) s
  let s := s.endEvery
  let s := s.reach (s.now + us 10)
  let s := (List.range 4).foldl (fun s l => s.linkDieReset l) s
  let s := (s.hostPortReset 0).hostPortReset 1
  let s := s.modFabric (fun f => { f with rates := [], paceAt := [], rspHold := [], marks := [] })
  let s := { s with outbox := [], regions := s.regions.map (fun (r : Nat × Region) => (r.1, { r.2 with paced := [] })) }
  (s.modAon AlwaysOn.takePending).modBoot (fun b => { b with phase := 0x01, resetDue := none })

/-- Ask for a package reset; the first one asked for begins. -/
def State.askReset (s : State) (cause : PkgResetCause) (due : Nat) : State :=
  if s.boot.por || s.packageHeld || s.boot.resetDue.isSome then s
  else s.modBoot (fun b => { b with resetDue := some (cause, due) })

/-- PACKAGE_RESET (R427, R429): the reset that was asked for begins; one that a wider reset has taken in does
not. -/
def execPackageReset (cause : PkgResetCause) (s : State) : Host.Outcome State Fault Refusal :=
  onUnit true (
    match s.boot.resetDue with
    | some (c, due) =>
      if c == cause && !s.boot.por && !s.packageHeld then
        let s := s.reach due
        let t0 := s.now
        s.packageDown.modBoot (fun b => { b with pkgReset := some (cause, t0) })
      else s
    | none => s)

/-- REGION_RESET_FAULT (R17, R425): firmware resets a region on a fault of its own. -/
def execRegionResetFault (region : Nat) (s : State) : Host.Outcome State Fault Refusal :=
  onUnit (decide (region < 12)) (s.regionReset region)

/-- REGION_RESET_END (R17, R50, R89, R140). -/
def execRegionResetEnd (region : Nat) (s : State) : Host.Outcome State Fault Refusal :=
  onUnit (decide (region < 12)) (if s.packageHeld || !s.ready then s else s.regionEnd region)

/-- CONTROL_WATCHDOG (R425, R429): complex `d` has not written its watchdog for 100 ms at the fast edge on RC. -/
def execControlWatchdog (complex : Nat) (s : State) : Host.Outcome State Fault Refusal :=
  onUnit (decide (complex < 2)) (
    if !s.ready || s.packageHeld || (s.complex complex).held.contains byWatchdog then s
    else (s.complexDown complex byWatchdog).modComplex complex (fun x => { x with heldUntil := s.now + ms 20 }))

/-- PERST_ASSERT (R425, R426, R429). -/
def execPerstAssert (port : Nat) (s : State) : Host.Outcome State Fault Refusal :=
  onUnit (decide (port < 2)) (
    if (s.hostPort port).perst then s
    else
      let s := s.setHostPort port { s.hostPort port with perst := true }
      let s := s.modComplex port (fun x => { x with held := insSet x.held byPerst })
      if s.boot.por || s.packageHeld then s
      else (s.complexDown port byPerst).hostPortReset port)

/-- FLR (R385): the function's mailbox, event-queue enable and counters are reset. -/
def execFlr (vi : Nat) (s : State) : Host.Outcome State Fault Refusal :=
  onUnit (decide (vi < 1024)) (if vi < 512 ∧ s.viExists vi ∧ s.hostLive (complexOf vi) then s.resetVi vi else s)

/-- SRIOV_ENABLE (R375, R412): NumVFs is set; SR-IOV is held disabled until the part is ready. -/
def execSriovEnable (port numVfs : Nat) (s : State) : Host.Outcome State Fault Refusal :=
  onUnit (decide (port < 2)) (
    if s.hostLive port ∧ numVfs ≤ (s.hostPort port).totalVfs then s.setHostPort port { s.hostPort port with numVfs := numVfs } else s)

/-! ### The loss of a PLL's lock (R26, R27) -/

/-- A moment counted at the fast edge of the K-clock, counted on at the fast edge of RC. -/
def toRcFast (now t : Nat) : Nat := if t ≤ now then t else now + cdiv ((t - now) * 10000 * 21) (10002 * 20)

/-- A moment counted at the slow edge of the K-clock, counted on at the slow edge of RC. -/
def toRcSlow (now t : Nat) : Nat := if t ≤ now then t else now + (t - now) * 10000 * 19 / (9998 * 20)

/-- The same for the moment from which a timer counts: the time that has passed since, at the edge of the timer. -/
def sinceFast (now t : Nat) : Nat := if now ≤ t then t else now - (now - t) * 21 * 10000 / (20 * 10002)
def sinceSlow (now t : Nat) : Nat := if now ≤ t then t else now - cdiv ((now - t) * 10000 * 19) (9998 * 20)

/-- The package timers go over to RC with their remaining time (R27): those that hold their end, and the sending and the
misses of heartbeats, the renewal of a girth lease and the REQ wait, which hold their start. The 10 ms of ACT count on RC
always (R347). -/
def State.timersToRc (s : State) : State :=
  let f := toRcFast s.now
  let g := toRcSlow s.now
  let girth (x : Girth) : Girth := { x with endAt := g x.endAt, viewEnd := f x.viewEnd, sentAt := sinceSlow s.now x.sentAt }
  let path (x : HbPath) : HbPath := { x with at_ := sinceFast s.now x.at_ }
  { s with
    kAbsent := true
    vis := s.vis.map (fun (v : Nat × Vi) =>
      (v.1, { v.2 with lease := { v.2.lease with renewAt := g v.2.lease.renewAt, endAt := f v.2.lease.endAt } }))
    revokes := s.revokes.map (fun (r : Nat × Revoke) => (r.1, { r.2 with drainEnd := f r.2.drainEnd, cohWait := f r.2.cohWait }))
    drains := s.drains.map (fun d => { d with limitAt := f d.limitAt })
    regions := s.regions.map (fun (r : Nat × Region) =>
      (r.1, { r.2 with miss := r.2.miss.map (fun m => { m with dueAt := m.dueAt.map f }) }))
    home := { s.home with txns := s.home.txns.map (fun (t : Nat × Txn) =>
      (t.1, { t.2 with snoops := t.2.snoops.map (fun y => { y with due := f y.due }) })) }
    pair := { s.pair with la := girth s.pair.la, co := girth s.pair.co, holdUntil := f s.pair.holdUntil,
                          hbAt := sinceSlow s.now s.pair.hbAt, reqAt := sinceSlow s.now s.pair.reqAt,
                          rein := path s.pair.rein, sb := path s.pair.sb } }

/-- The request is in the DRAM of stack `g`: it waits for a zero-fill that its channels perform. -/
def Waiting.inStack (w : Waiting) (g : Nat) : Bool :=
  match w.why with
  | .fill x => regionOfGranule x == g
  | .fillRoom r => r == g
  | .miss _ _ _ => false
  | .txn _ => false
  | .parked _ => false
  | .mesh _ => false
  | .stamp _ => false
  | .retryMiss => false
  | .cycle => false
  | .role => false

/-- The request came in through a link die, or a host port. -/
def Waiting.fromDie (w : Waiting) (l : Nat) : Bool :=
  match w.origin with | .fabric d => d == l | .hostIo _ => false | .cxl _ _ => false | .local _ _ _ => false
def Waiting.fromPort (w : Waiting) (d : Nat) : Bool :=
  match w.origin with | .fabric _ => false | .hostIo v => complexOf v == d | .cxl p _ => p == d | .local _ _ _ => false

/-- A channel whose M-clock is gone has nothing queued any more (R26). -/
def Chan.unclocked (c : Chan) (now : Nat) : Chan :=
  { c.sumParked now with lp := [], fifos := [], held := [], parked := [], active := [] }.level now

/-- Requests whose entry was discarded when the queues of a PLL emptied are answered RETRY_LATER (R26): those with a
zero-fill in the stack of an M-clock, those in the regions of a C-clock, and those that a link die or a host port has
placed (assumption 180). -/
def State.emptyQueues (s : State) (pll : PllId) : State :=
  match pll with
  | .m g =>
    let s := (s.endWaits (fun w => w.inStack g) stRETRY).modRegion g (fun r => { r with fills := [] })
    (span (32 * g) 32).foldl (fun s n => s.modChan n (fun c => c.unclocked s.now)) s
  | .c d => s.endWaits (fun w => (span (6 * d) 6).any (fun g => w.inRegion g)) stRETRY
  | .l l => s.endWaits (fun w => w.fromDie l) stRETRY
  | .p d => s.endWaits (fun w => w.fromPort d) stRETRY
  | .k _ => s
  | .a _ => s

/-- PLL_LOCK_LOSS (R26, R27): the queues that the PLL feeds are empty and stay unavailable. -/
def execPllLockLoss (pll : PllId) (s : State) : Host.Outcome State Fault Refusal :=
  onUnit pll.wf (
    if s.boot.unlocked.contains pll then s
    else
      let s := match pll with
        | .a d => s.settleA d
        | .m _ => s | .c _ => s | .l _ => s | .p _ => s | .k _ => s
      let s := (s.modBoot (fun b => { b with unlocked := b.unlocked ++ [pll] })).emptyQueues pll
      if pll == .k 0 && !s.kAbsent then s.timersToRc.logRec lgCLOCK_SWITCH [1] else s)

/-! ### The firmware image (R413, R414, R416) -/

/-- The bytes of an image: header and body. -/
def imageBytes (b : Bytes) : Nat := 0x1000 + fld b 0x0C 4

/-- The digest that both signatures cover. -/
def imageDigest (b : Bytes) : Bytes := hash384 (slice b 0 0x100 ++ slice b 0x1000 (fld b 0x0C 4))

/-- The form of R413. -/
def bootImageForm (b : Bytes) : Bool :=
  fld b 0 4 == 0x5A545331 && isZero (slice b 8 4) && isZero (slice b 0xA8 88) && isZero (slice b 0x84C 1972) &&
  decide (fld b 0x0C 4 % 4096 = 0 ∧ 4096 ≤ fld b 0x0C 4 ∧ fld b 0x0C 4 ≤ 0x1000000 ∧ imageBytes b ≤ b.length)

/-- The checks of R414 in order: 0, or the code of the first that fails. -/
def bootImageErr (b : Bytes) : Nat :=
  if b.isEmpty then 0x0001
  else if !bootImageForm b then 0x0002
  else if hash384 (slice b 0x10 96) != Config.rootKeyEc || hash384 (slice b 0x70 56) != Config.rootKeyLms then 0x0006
  else if !ecdsaVerify (slice b 0x10 96) (imageDigest b) (slice b 0x100 96) then 0x0003
  else if !lmsVerify (slice b 0x70 56) (imageDigest b) (slice b 0x160 1772) then 0x0004
  else 0

/-- The flash after the blocks of 64 KiB that an image occupies are erased and it is programmed (R416). -/
def flashWith (flash img : Bytes) : Bytes :=
  let e := cdiv img.length 65536 * 65536
  img ++ List.replicate (e - img.length) 0xFF#8 ++ flash.drop e

/-- BOOT_ERR of the flash as it stands (R414): a partial image fails, by its body where its form is right (R430). -/
def State.flashErr (s : State) : Nat :=
  let e := bootImageErr s.boot.flash
  if e = 0 && s.boot.partFlash then 0x0003 else e

/-- The blocks of an image are erased and it is being programmed (R416). -/
def State.startFlash (s : State) (vi : Nat) (img : Bytes) : State :=
  s.modBoot (fun x => { x with flash := flashWith x.flash (List.replicate img.length 0xFF#8), partFlash := true, fwBusy := some (vi, img) })

/-- The flash has been programmed and read back: FW_UPDATE is answered (R416). The manual gives the command no row for that
moment; the block does it in a step that finds no command in its queue (assumption 207). -/
def State.flashDone (s : State) : State :=
  match s.boot.fwBusy with
  | none => s
  | some (vi, img) =>
    if !s.complexUp (complexOf vi) then s
    else (s.modBoot (fun x => { x with flash := patch x.flash 0 img, partFlash := false, fwBusy := none })).finishMirrored vi [] []

/-- FW_UPDATE (R404, R416): an image that does not verify is not written. While another is being programmed it is answered
`RETRY_LATER`. -/
def execFwUpdate (page : Nat) (c : Cmd) (s : State) : Host.Outcome State Fault Refusal :=
  s.command page 0x0A01 c (lenIs c 16) (opRsv 0) .pf false (fun s =>
    match s.readOp (.cmd page) page (opArg c 0) with
    | (0, b, s) =>
      let e := bootImageErr b
      if e = 1 ∨ e = 2 then (.bound 0x40, s)
      else if e ≠ 0 then (.fail stAUTH_FAIL, s)
      else if s.boot.fwBusy.isSome then (.fail stRETRY, s)
      else (.wait 0, s.startFlash page (b.take (imageBytes b)))
    | (st, _, s) => (.fail st, s))

/-- FW_ACTIVATE (R416). -/
def execFwActivate (page : Nat) (c : Cmd) (s : State) : Host.Outcome State Fault Refusal :=
  s.command page 0x0A02 c (lenIs c 0) [] .pf false (fun s =>
    if s.flashErr ≠ 0 then (.bound noField, s) else (.ok, s.askReset .activate (s.now + us 10)))

/-! ### The node ID and the chain address (R421, R423) -/

/-- A write of the node ID: at once, pending, or refused. -/
def State.writeNode (s : State) (n : Nat) : Option State :=
  if n ≠ s.aon.nodeId ∧ s.pair.state ≠ .unpaired then none
  else if (List.range 64).any (fun i => (s.port i).state != .down) then
    some (s.modAon (fun a => { a with pendingId := some n, nodeValid := true }))
  else some (s.modAon (fun a => { a with nodeId := n, nodeValid := true, pendingId := none }))

/-- CHAIN_ADDR_SET (R404, R421, R423). -/
def execChainAddrSet (page : Nat) (c : Cmd) (s : State) : Host.Outcome State Fault Refusal :=
  s.command page 0x0A03 c (lenIs c 4) [(1, 1, 0), (2, 2, 0xFFF)] .pf false (fun s =>
    if arg c 0 1 > 63 then (.bound 0x40, s)
    else match s.writeNode (arg c 2 2) with
      | none => (.bound 0x42, s)
      | some s => (.ok, s.modAon (fun a => { a with addressed := true, chainAddr := arg c 0 1 })))

/-! ### Commands that ask for a reset (R404) -/

/-- REGION_RESET: answered when the region leaves reset. -/
def execRegionReset (page : Nat) (c : Cmd) (s : State) : Host.Outcome State Fault Refusal :=
  s.command page 0x0B02 c (lenIs c 1) [] .pf false (fun s =>
    if arg c 0 1 ≥ 12 then (.bound 0x40, s) else (.wait (arg c 0 1), s.regionReset (arg c 0 1)))

/-- PKG_RESET: from a tenant page it is the authenticated fabric reset. -/
def execPkgReset (page : Nat) (c : Cmd) (s : State) : Host.Outcome State Fault Refusal :=
  s.command page 0x0B03 c (lenIs c 0) [] .resetRight false (fun s =>
    (.ok, s.askReset (if isTenant page then .fabric else .pf) (s.now + us 10)))

end Sys2Proof.Machine
end

