-- ==== Sys2Proof/Machine/Boot.lean ====
section
/-! DEFINITION. The start of the firmware and recovery (R5, R412 to R415), and what an SPDM requester does on a
host port (R214, R392, R394, R417, R418). -/
namespace Sys2Proof.Machine

open Sys2Proof

/-! ### The firmware starts (R411, R412, R415) -/

/-- Step 6 of R412 with a verified image: the digest is recorded. After a power-on the firmware releases every ACT
and REQ line that is still driven (R411). -/
def State.startFirmware (s : State) (img : Bytes) (source : Nat) : State :=
  let n := imageBytes img
  let s := s.modBoot (fun b =>
    { b with phase := 0x06, err := 0, digest := imageDigest img, fwVer := BitVec.ofNat 32 (fld img 4 4),
             source := source, dram := img.take n })
  let s := [0, 1].foldl (fun s d => s.modComplex d (fun x => { x with rcv := [], rcvReady := false })) s
  if s.boot.pkgReset.isSome then s
  else ((s.driveAct false).driveReq false).modPair (fun p => { p with index := 0, la := Girth.reset })

/-- The flash image is checked: it runs, or the part waits for one from a host (R414, R415). Where stack 0 or 6 has not
trained, the part halts. -/
def State.bootFlash (s : State) : State :=
  let e := s.flashErr
  if s.boot.untrained.contains 0 || s.boot.untrained.contains 6 then s.modBoot (fun b => { b with phase := 0xFF, err := 0x0010 })
  else if e = 0 then s.startFirmware s.boot.flash 0 else s.modBoot (fun b => { b with phase := 0x04, err := e })

/-- IMAGE_VERIFY (R412, R414): the body has been read. -/
def execImageVerify (s : State) : Host.Outcome State Fault Refusal :=
  onUnit true (if !s.boot.por && s.boot.phase == 0x02 then (s.reach s.bodyRead).bootFlash else s)

/-- RCV_CTL with RCV_CHUNK (R415): the command buffer of function 0 goes into the port's image. -/
def State.rcvChunk (s : State) (port offset : Nat) : State :=
  if s.boot.phase = 0x04 ∧ offset % 4096 = 0 ∧ offset ≤ 0x1000000 ∧ !(s.hostPort port).perst then
    let b := slice (s.page (pfOf port)).cmdBuf 0 4096
    s.modComplex port (fun x => { x with rcv := patch x.rcv offset b, rcvReady := true })
  else s

/-- RCV_CTL with RCV_END (R415): an image that passes is run from step 6 of R412; another leaves the part
waiting. -/
def State.rcvEnd (s : State) (port len : Nat) : State :=
  if s.boot.phase = 0x04 ∧ !(s.hostPort port).perst then
    let img := slice (s.complex port).rcv 0 len
    if bootImageErr img = 0 then s.startFirmware img (1 + port) else s.modBoot (fun b => { b with err := 0x0011 })
  else s

/-- RCV_CHUNK (R415). -/
def execRcvChunk (port offset : Nat) (s : State) : Host.Outcome State Fault Refusal :=
  onUnit (decide (port < 2)) (s.rcvChunk port offset)

/-- RCV_END (R415). -/
def execRcvEnd (port offset : Nat) (s : State) : Host.Outcome State Fault Refusal :=
  onUnit (decide (port < 2)) (s.rcvEnd port offset)

/-! ### SPDM on a host port (R392, R417, R418) -/

/-- A message to the requester on host port `port`, under a packet type of the model's own. -/
def State.spdmAnswer (s : State) (port : Nat) (b : Bytes) : State :=
  s.emit ⟨{ Pkt.zero with ptype := 0x22, payload := b }, .host port, none, 7, noPort, none, 0⟩

/-- A vendor-defined message in a secured session; it is answered with a 2-byte status (R392). -/
def State.vendorMsg (s : State) (port code : Nat) (m : SpdmVendor) (f : State → Nat × State) : State :=
  if !(s.complex port).session || !s.complexUp port then s
  -- while every requester root is empty or revoked no VI can be keyed (R418, assumption 204)
  else if s.aon.roots.all (fun (r : Option Bytes × Bool) => r.1.isNone || r.2) then s.spdmAnswer port (toLe 2 stBOUND)
  else if m.msg ≠ code ∨ m.vi.toNat ≥ 1024 then s.spdmAnswer port (toLe 2 stBOUND)
  else
    let (st, s) := f s
    s.spdmAnswer port (toLe 2 st)

/-- KEY_SET (R392, R394). -/
def execKeySet (port : Nat) (m : SpdmVendor) (s : State) : Host.Outcome State Fault Refusal :=
  onUnit (decide (port < 2)) (s.vendorMsg port 1 m (fun s =>
    let v := m.vi.toNat
    if complexOf v ≠ port ∨ !isZero (slice m.key 48 48) then (stBOUND, s)
    else
      let k := slice m.key 0 48
      (stOK, (s.modVi v (fun x => { x with key := some k, counter := 0, saved := none })).sendMirror 1024 (.key v (some k) 0))))

/-- KEY_CLEAR (R392, R394). -/
def execKeyClear (port : Nat) (m : SpdmVendor) (s : State) : Host.Outcome State Fault Refusal :=
  onUnit (decide (port < 2)) (s.vendorMsg port 2 m (fun s =>
    let v := m.vi.toNat
    if complexOf v ≠ port ∨ !isZero m.key then (stBOUND, s)
    else (stOK, (s.modVi v (fun x => { x with key := none })).sendMirror 1024 (.key v none (s.vi v).counter))))

/-- SIGN_KEY_SET (R214, R392): the one program-signing key of the port's complex. -/
def execSignKeySet (port : Nat) (m : SpdmVendor) (s : State) : Host.Outcome State Fault Refusal :=
  onUnit (decide (port < 2)) (s.vendorMsg port 3 m (fun s =>
    if complexOf (m.vi.toNat % 1024) ≠ port then (stBOUND, s) else
    (stOK, s.modComplex port (fun x => { x with signKey := some (m.keyId, slice m.key 0 96) }))))

/-- The measurements of R417. -/
def State.measurement (s : State) (n : Nat) : Bytes :=
  match n with
  | 1 => Config.romDigest
  | 2 => Config.rootKeyEc ++ Config.rootKeyLms
  | 3 => s.boot.digest ++ toLe 4 s.boot.fwVer.toNat
  | 4 => toLe 1 s.boot.source
  | 5 => s.aon.roots.flatMap (fun (r : Option Bytes × Bool) => (r.1.getD (zeros 48)) ++ toLe 1 (b2n r.2))
  | _ => []

/-- The requester's root certificate hashes to an unrevoked slot (R418). -/
def AlwaysOn.trusts (a : AlwaysOn) (root : Bytes) : Bool :=
  a.roots.any (fun (r : Option Bytes × Bool) => r.1 == some root && !r.2)

/-- SPDM_REQUEST (R417, R418): a session opens after a key exchange, and only under mutual authentication. Signatures are
over what the answer carries and the requester's nonce (assumption 206). -/
def execSpdmRequest (port : Nat) (r : SpdmReq) (s : State) : Host.Outcome State Fault Refusal :=
  onUnit (decide (port < 2)) (
    if !s.complexUp port then s else
    let sign (m : Bytes) : Bytes := Config.spdmSign s.boot.digest m
    match r with
    | .certificate slot => s.spdmAnswer port (if slot = 0 then Config.deviceChain s.boot.digest else [])
    | .challenge nonce => s.spdmAnswer port (sign nonce)
    | .keyExchange share =>
      let (v, s) := s.fresh
      let mine := Config.spdmShare v share
      (s.modComplex port (fun x => { x with handshake := true })).spdmAnswer port (mine ++ sign (share ++ mine))
    | .openSession root =>
      let ok := (s.complex port).handshake && s.aon.trusts root
      (s.modComplex port (fun x => { x with handshake := false, session := x.session || ok })).spdmAnswer port (toLe 1 (b2n ok))
    | .measurement n => s.spdmAnswer port (s.measurement n)
    | .signedMeasurement n nonce => s.spdmAnswer port (s.measurement n ++ sign (s.measurement n ++ nonce))
    | .close => (s.modComplex port (fun x => { x with handshake := false, session := false })).spdmAnswer port [])

end Sys2Proof.Machine
end

