-- ==== Sys2Proof/Machine/Steps.lean ====
section
/-! DEFINITION. Collective commands: submission of a descriptor and its refusals (R16, R111, R121, R135,
R145 to R149, R162, R178, R216, R219, R437, R443, R464, R465), cancellation (R169), scans (R172) and stamps
(R153). -/
namespace Sys2Proof.Machine

open Sys2Proof

/-! ### The fields of a descriptor -/

/-- Reserved bits of a descriptor (R121, R146 to R148): the Confluence block counts only for one that
reduces, the gather entries up to N_GATHER. -/
def descRsv (b : Bytes) : List (Nat × Nat × Nat) :=
  let red := tbit (fld b 2 1) 0
  let n := min 8 (fld b 0x81 1 % 16)
  (0, 2, 0x3FFF) :: (2, 1, 7) ::
  (if red then [(0x11, 1, 3), (0x12, 2, 0x1FFF), (0x14, 2, 0x1FFF), (0x1E, 2, 0)] else []) ++
  ([0x20, 0x30, 0x40, 0x50].flatMap opRsv) ++ [(0x80, 1, 0x7F), (0x81, 1, 0x0F), (0x84, 12, 0)] ++
  ((List.range 12).flatMap (fun g => opRsv (0x90 + 16 * g))) ++
  ((List.range n).flatMap (fun k => [(0x159 + 32 * k, 1, 3), (0x15A + 32 * k, 6, 0)] ++ opRsv (0x160 + 32 * k)))

/-- The first condition that holds: the offset of its field. -/
def firstBad (l : List (Bool × Nat)) : Option Nat := (l.find? (·.1)).map (fun x => 0x40 + x.2)

/-- Kilobytes of state that a recipe writes per tile, in halves (R178). -/
def Desc.stateBytes (d : Desc) (commit : Nat) : Nat :=
  if !d.fused then 0
  else match d.recipe with
    | 1 => if d.momBf16 then 0x6000 else 0x8000
    | 4 => if d.momBf16 then 0x6000 else 0x8000
    | 5 => if d.momBf16 then 0x6200 else 0x8200
    | 6 => commit
    | _ => if d.momBf16 then 0x8000 else 0xC000

/-- Bytes of the distinct gather payloads of a tile (R219). -/
def Desc.payloads (d : Desc) : Nat :=
  let plain := (d.gather.filter (fun e => !e.delta && !e.rebase)).map (fun e => 4 * e.fmt + e.rnd)
  let own := d.gather.filter (fun e => e.delta || e.rebase)
  (dedupNat plain).foldl (fun n k => n + fmtBytes (k / 4) 4096) 0 + own.foldl (fun n e => n + fmtBytes e.fmt 4096) 0

/-- The first gather entry that R106, R111, R443 or R149 refuses. -/
def Desc.gatherBad (d : Desc) : List (Bool × Nat) :=
  ((List.range d.gather.length).zip d.gather).flatMap (fun x =>
    let e := x.2
    let o := 0x150 + 32 * x.1
    [(decide (e.fmt > 7), o + 8), (decide (e.rnd > 1), o + 8), (decide (e.rnd2 > 1), o + 9),
     (e.delta && (!d.fused || (e.fmt != 6 && e.fmt != 7)), o + 8), (e.rebase && d.reduceGather, o + 8),
     (e.delta && e.rebase, o + 8), ((e.delta || e.rebase) && !e.residual.present, o + 16),
     ((e.delta || e.rebase) && decide (e.residual.len < 2 * d.elems), o + 16)])

/-- The field of a descriptor that R121, R143 to R149, R178, R219, R443 or R464 refuses. `commit` is the
declared commit image of a tenant program. -/
def Desc.fieldFault (d : Desc) (raw : Bytes) (commit : Nat) : Option Nat :=
  let st := d.stages
  let red := d.reduces
  let engine := d.fused || d.gatherOnly
  let slots := d.residuals.length
  let last := fmtBytes (if d.reduceOnly then d.sumFmt else 0) (d.tileElems (d.tiles - 1))
  -- a block-format STATE begins on a block boundary of its window (R93, R464, assumption 71)
  let block := if d.sumFmt = 5 then 68 else if d.sumFmt = 6 then 50 else if d.sumFmt = 7 then 34 else 1
  firstBad ([
    (st != 1 && st != 5 && st != 7 && st != 4, 2), (decide (d.recipe > 6), 3), ((d.recipe != 0) != d.fused, 3),
    (d.step == 0, 4),
    (red && decide (d.nContrib < 1 ∨ d.nContrib > 4096), 0x12),
    (red && decide (d.skew < 8 ∨ d.skew > 4096 ∨ d.skew % 8 ≠ 0), 0x14),
    (decide (d.elems < 1 ∨ d.elems > 2 ^ 40), 0x18),
    (!d.stateOp.present, 0x20),
    (engine && decide (d.stateOp.off % granuleBytes ≠ 0 ∨ d.stateOp.len ≠ granuleBytes * d.tiles), 0x20),
    (red && decide (d.sumFmt ≤ 7) && !d.fused && decide (d.stateOp.len < (d.tiles - 1) * d.tileStep + last), 0x20),
    (d.reduceOnly && decide (d.stateOp.off % block ≠ 0), 0x20),
    (d.select.present && decide (d.select.len < cdiv d.tiles 8), 0x30),
    (d.isLamb && decide (d.groups.len = 0 ∨ d.groups.len % 16 ≠ 0), 0x40),
    (d.complete.present && decide (d.complete.len < 128), 0x50),
    (decide (d.sumFmt > 7), 0x80), (decide (d.rnd3 > 1), 0x80),
    (decide (fld raw 0x81 1 % 16 > 8), 0x81), (d.reduceOnly && !d.gather.isEmpty, 0x81)] ++ d.gatherBad ++
   [(engine && decide (slots > 4 ∨ d.stateBytes commit + 8192 * slots > 65536), 0x81),
    (engine && decide (d.payloads > 65536), 0x81)])

/-- R216: the program of a tenant recipe. -/
def State.tenantFault (s : State) (page : Nat) (d : Desc) (regions : List Nat) : Option Nat :=
  if d.recipe ≠ 6 then none
  else match afind s.progs d.progId with
    | none => some 0xC2
    | some p =>
      let prog := parseProg p.image
      if d.progId > 255 ∨ p.owner ≠ page then some 0xC2
      else if d.momBf16 then some 0xC0
      else if !d.gather.isEmpty && prog.gather.isNone then some 0xC1
      else if regions.any (fun g => decide (prog.cycles (d.step == 1#32) > 2 ^ (16 + (s.region g).tileLimit))) then some 0xC2
      else none

/-! ### Operands -/

/-- Checks 2, 3 and 5 to 7 of R34 on an operand of a descriptor (R149): the status of the first that fails. -/
def State.operandFault (s : State) (op : Operand) (write : Bool) : Option Nat :=
  let win := s.win op.window
  if !op.present then none
  else if win.kind = 0 then some stNOT_MAPPED
  else if op.off + op.len > win.limit ∨ !win.collEn ∨ (write && !win.writeEn) then some stBOUND
  else
    ((s.spansOf op).filterMap (fun x => (s.checkData x.2.2.2 x.2.1 x.2.2.1).map (fun st => (x.1, st)))).foldl
      (fun (a : Option (Nat × Nat)) x => match a with
        | none => some x
        | some y => if x.1 < y.1 then some x else some y) none |>.map (·.2)

/-- Every operand of a descriptor with the place of its entry and whether the part writes it. -/
def Desc.operands (d : Desc) : List (Nat × Operand × Bool) :=
  [(0x20, d.stateOp, d.reduceOnly || d.fused), (0x30, d.select, false), (0x40, d.groups, d.isLamb),
   (0x50, d.complete, true)] ++
  ((List.range 12).zip d.ws).map (fun x => (0x90 + 16 * x.1, x.2, true)) ++
  ((List.range d.gather.length).zip d.gather).filterMap (fun x =>
    if x.2.delta || x.2.rebase then some (0x160 + 32 * x.1, x.2.residual, true) else none)

/-- Two ranges share pool memory, or a range of one window. -/
def State.meets (s : State) (a b : Operand) : Bool :=
  (a.window == b.window && decide (a.off < b.off + b.len ∧ b.off < a.off + a.len)) ||
  (s.spansOf a).any (fun x => (s.spansOf b).any (fun y =>
    decide (x.2.1 < y.2.1 + y.2.2.1 ∧ y.2.1 < x.2.1 + x.2.2.1)))

/-- Residual ranges that overlap (R111, R149): the place of the later one. -/
def State.residualClash (s : State) (d : Desc) : Option Nat :=
  let l := d.residuals.filterMap (fun k => (d.gather)[k]?.map (fun e => (k, e.residual)))
  (l.find? (fun x => l.any (fun y => decide (y.1 < x.1) && s.meets x.2 y.2))).map (fun x => 0x1A0 + 32 * x.1)

/-- Status and field of the first operand that is refused (R149, R376, R437). -/
def State.operandsFault (s : State) (page : Nat) (d : Desc) : Option (Nat × Nat) :=
  match d.operands.find? (fun x => x.2.1.present && s.foreignOp page x.2.1) with
  | some x => some (stBOUND, 0x40 + x.1)
  | none =>
  match d.operands.findSome? (fun x => (s.operandFault x.2.1 x.2.2).map (fun st => (st, 0x40 + x.1))) with
  | some r => some r
  | none =>
    match (List.range 12).find? (fun g =>
        let op := lget Operand.absent d.ws g
        op.present && (s.spansOf op).any (fun x => (s.ext x.2.2.2).coherent)) with
    | some g => some (stBOUND, 0xD0 + 16 * g)
    | none => (s.residualClash d).map (fun o => (stBOUND, o))

/-! ### Tiles -/

/-- Regions in which a unit lies, as far as it is mapped. -/
def State.unitRegions (s : State) (u : Operand × Nat × Nat) : List Nat :=
  (s.spansOf { u.1 with off := u.1.off + u.2.1, len := u.2.2 }).flatMap (fun x =>
    [stackOf x.2.1, stackOf (x.2.1 + x.2.2.1 - 1)])

/-- A unit whose pages are all mapped is not one run of physical addresses (R465). -/
def State.unitSplit (s : State) (u : Operand × Nat × Nat) : Bool :=
  let l := s.spansOf { u.1 with off := u.1.off + u.2.1, len := u.2.2 }
  decide ((l.foldl (fun n x => n + x.2.2.1) 0) = u.2.2) && (s.unitAt u.1 u.2.1 u.2.2).isNone

/-- A tile with operands in more than one region, as far as they are mapped (R16). -/
def State.tileSpread (s : State) (d : Desc) (t : Nat) : Bool :=
  match (d.units t).flatMap s.unitRegions with
  | [] => false
  | g :: r => r.any (· != g)

/-- Norm groups of a table (R162): none when they do not cover the tiles in ascending order. -/
def parseGroups (b : Bytes) (n tiles : Nat) : Option (List Group) :=
  let gs := (List.range n).map (fun i => (fld b (16 * i) 4, fld b (16 * i + 4) 4))
  let fin := gs.foldl (fun (a : Option Nat) g => match a with
    | some nxt => if g.1 = nxt ∧ 1 ≤ g.2 ∧ g.1 < 2 ^ 28 ∧ g.2 < 2 ^ 28 then some (nxt + g.2) else none
    | none => none) (some 0)
  if fin = some tiles then
    some (gs.map (fun g => ⟨g.1, g.2, 0, 0, false, false, [], [], [], false⟩))
  else none

/-- The workspace of a region that is refused: shorter than its slots need, or with a byte outside the stack of
its region (R135, R149, R162). -/
def State.wsBad (s : State) (x : Stream) (g : Nat) : Bool :=
  let d := x.desc
  let op := x.ws g
  let tiles := (s.regionTiles x g).length
  let n := (if d.reduces then d.wsSlots * 67584 else 0) + (if d.isLamb then 16384 * tiles else 0)
  (decide (n > 0) && (!op.present || decide (op.len < n))) ||
    (op.present && (s.spansOf op).any (fun y => stackOf y.2.1 != g || stackOf (y.2.1 + y.2.2.1 - 1) != g))

/-! ### STEP_SUBMIT -/

/-- A stream of a descriptor before its first tile. -/
def Stream.start (owner : Nat) (d : Desc) (sel : Option Bytes) (groups : List Group) : Stream :=
  let fixed := d.reduces && !d.prePass
  { owner := owner, desc := d, openNow := true, cancelled := false, revoked := false,
    anchor := if fixed then some d.anchor else none, anchorAt := if fixed then List.range 12 else [], reports := [],
    selBits := sel, completed := [], wsUsed := [], outcomes := [], maxExp := none, satElems := 0, nfElems := 0,
    spilled := 0, discarded := 0, lost := 0, delivered := List.replicate 8 0, firstFail := List.replicate 8 0, abandoned := [],
    unanswered := [], satTiles := [], groups := groups, release := [], relLooks := [], waitCycle := [], accepted := [] }

/-- Read `SELECT` or `GROUPS` at submission. -/
def State.readPart (s : State) (vi : Nat) (op : Operand) (n : Nat) : Nat × Bytes × State :=
  if !op.present then (stOK, [], s) else s.readOp (.cmd vi) vi { op with len := n }

/-- Open a stream: tiles that R465 refuses end `BOUND`, a gather stream releases its tiles. -/
def State.openStream (s : State) (x : Stream) : State :=
  let n := x.desc.cstream
  -- a revocation that runs does not act on the stream that had the number before
  let s := { s with streams := tput s.streams n x
                    revokes := s.revokes.map (fun (r : Nat × Revoke) =>
                      (r.1, { r.2 with hits := r.2.hits.filter (fun h => h.1 != n) })) }
  let bad := x.selTiles.filter (fun t => (x.desc.units t).any s.unitSplit)
  let s := bad.foldl (fun s t => (s.modStream n (fun x => x.complete t)).failTile n t stBOUND) s
  if !x.desc.gatherOnly then s
  else
    let qs := (x.selTiles.filter (fun t => !bad.contains t)).map (fun t =>
      (⟨n, .gather, false, false, false, false, .none, ((s.tileCluster x t).getD 0) % 8, t, 0⟩ : QEntry))
    (s.modStream n (fun x => { x with release := qs })).openRelease n

/-- The rest of a submission once `SELECT` and `GROUPS` have been read. -/
def State.submitRead (s : State) (page : Nat) (d : Desc) (sel : Option Bytes) (gb : Bytes) : CmdRes × State :=
  match (if d.isLamb then parseGroups gb (d.groups.len / 16) d.tiles else some []) with
  | none => (.bound 0x80, s)
  | some gs =>
    let x := Stream.start page d sel gs
    match x.selTiles.find? (fun t => s.tileSpread d t), (s.streamRegions x).find? (fun g => s.wsBad x g),
          s.tenantFault page d (s.streamRegions x) with
    | some _, _, _ => (.bound 0x60, s)
    | none, some g, _ => (.bound (0xD0 + 16 * g), s)
    | none, none, some o => (.bound o, s)
    | none, none, none => (.ok, s.openStream x)

/-- A submission whose reserved bits are zero. A package that does not serve pool data takes no descriptor (R342). -/
def State.submit (s : State) (page : Nat) (raw : Bytes) : CmdRes × State :=
  match s.pair.state.refusal with
  | some st => (.fail st, s)
  | none =>
  match parseDesc raw with
  | none => (.bound 0x40, s)
  | some d =>
    let commit := match afind s.progs d.progId with | some p => (parseProg p.image).commit | none => 0
    match (s.stream d.cstream).bind (fun x => if x.openNow then some (x.desc.raw == raw) else none) with
    | some true => (.fail stDUP, s)
    | some false => (.bound 0x40, s)
    | none =>
      match d.fieldFault raw commit with
      | some o => (.bound o, s)
      | none =>
        match s.operandsFault page d with
        | some (st, o) => (.done st o [], s)
        | none =>
          match s.readPart page d.select (cdiv d.tiles 8) with
          | (0, sel, s) =>
            match s.readPart page (if d.isLamb then d.groups else Operand.absent) d.groups.len with
            | (0, gb, s) => s.submitRead page d (if d.select.present then some sel else none) gb
            | (st, _, s) => (.done st 0x80 [], s)
          | (st, _, s) => (.done st 0x70 [], s)

/-- STEP_SUBMIT (R146, R149). -/
def execStepSubmit (page : Nat) (c : Cmd) (s : State) : Host.Outcome State Fault Refusal :=
  s.command page 0x0501 c (lenIs c 592) (descRsv (cmdBytes c)) .any true (fun s => s.submit page (slice (cmdBytes c) 0 592))

/-- STEP_CANCEL (R169): every tile that is not past acceptance ends `CANCELLED`. A CSTREAM that no submission has used
is answered `BOUND` (assumption 186). -/
def execStepCancel (page : Nat) (c : Cmd) (s : State) : Host.Outcome State Fault Refusal :=
  let may := match s.stream (arg c 0 2) with | some x => mayAct page x.owner | none => true
  s.command page 0x0502 c (lenIs c 2) [(0, 2, 0x3FFF)] (.own may 0x40) true (fun s =>
    let n := arg c 0 2
    match s.stream n with
    | none => (.bound 0x40, s)
    | some x =>
      if !x.openNow then (.fail stDUP, s)
      else
        let hit := x.selTiles.filter (fun t => !x.past t)
        (.ok, (s.modStream n (fun x => { x with cancelled := true })).stopTiles n hit stCANCELLED))

/-! ### Scans and stamps -/

/-- The distances of the granules of a state operand. A granule whose stamp cannot be read (R330) has none: it is counted in
none of the four counts and its bitmap bit is 0; and an operand whose length is no multiple of 64 KiB is taken as the
whole granules in it (both DESIGN CHOICE, assumption 198). -/
def State.scanDists (s : State) (op : Operand) (step : Word32) (segs : List Seg) : List (Option Nat) × State :=
  (List.range (op.len / granuleBytes)).foldl (fun (a : List (Option Nat) × State) t =>
    match segs.foldl (fun (a : Nat × Option Nat) x =>
        (a.1 + x.len, if a.2.isNone && decide (a.1 ≤ t * granuleBytes ∧ t * granuleBytes < a.1 + x.len)
          then some (x.pa + (t * granuleBytes - a.1)) else a.2)) (0, none) with
    | (_, some pa) =>
      let (st, s) := a.2.stampRead (granuleOf pa)
      (a.1 ++ [st.map (fun st => stampDist step st)], s)
    | (_, none) => (a.1 ++ [none], a.2)) ([], s)

/-- STEP_SCAN (R172). A pending commit is scanned as its stamp will stand. -/
def execStepScan (page : Nat) (c : Cmd) (s : State) : Host.Outcome State Fault Refusal :=
  s.command page 0x0503 c (lenIs c 36) (opRsv 0 ++ opRsv 16) .any true (fun s =>
    let op := opArg c 0
    let bm := opArg c 16
    let n := op.len / granuleBytes
    if s.foreignOp page op then (.bound 0x40, s)
    else if s.foreignOp page bm then (.bound 0x50, s)
    else match s.opSegs (.cmd page) op false with
    | (0, segs, s) =>
      if !s.rangesServe (segRanges segs) then (.fail stRETRY, s) else
      let (ds, s) := s.scanDists op (BitVec.ofNat 32 (arg c 32 4)) segs
      let bits := bitmap (cdiv n 8) ((List.range n).filter (fun t => lget none ds t == some 1))
      let count (f : Nat → Bool) : Nat := (ds.filter (fun d => match d with | some k => f k | none => false)).length
      if bm.len < cdiv n 8 then (.bound 0x50, s)
      else match s.writeOp (.cmd page) bm bits with
        | (0, s) =>
          (.done stOK noField (toLe 4 (count (· == 0)) ++ toLe 4 (count (· == 1)) ++
            toLe 4 (count (fun k => decide (2 ≤ k ∧ k < 0x8000))) ++ toLe 4 (count (fun k => decide (0x8000 ≤ k)))), s)
        | (st, s) => (.fail st, s)
    | (st, _, s) => (.fail st, s))

/-- STEP_STAMP_SET (R153). -/
def execStepStampSet (page : Nat) (c : Cmd) (s : State) : Host.Outcome State Fault Refusal :=
  s.command page 0x0504 c (lenIs c 18) (opRsv 0) .any true (fun s =>
    if s.foreignOp page (opArg c 0) then (.bound 0x40, s)
    else match s.stampSet page (opArg c 0) (arg c 16 2) with
    | (none, s) => (.wait 0, s)
    | (some st, s) => (if st = stOK then .ok else .fail st, s))

end Sys2Proof.Machine
end

