-- ==== Sys2Proof/Machine/Pages.lean ====
section
/-! DEFINITION. Accesses to the register page of a VI (R378 to R384, R415), and the uncached requests of the
fabric, which may reach a tenant's page granule (R75, R379), what parked on a line (R65), and commands that go on when
their operands have been looked up (R43). -/
namespace Sys2Proof.Machine

open Sys2Proof

/-! ### DOORBELL (R383, R384) -/

/-- The command of an opcode (R400 to R404); an opcode that is not listed fails check 1 (R387). -/
def runOp (opcode vi : Nat) (c : Cmd) (s : State) : Host.Outcome State Fault Refusal :=
  match opcode with
  | 0x0001 => execCmdNop vi c s
  | 0x0002 => execLogRead vi c s
  | 0x0003 => execCrcRun vi c s
  | 0x0101 => execKeyChange vi c s
  | 0x0102 => execViEnable vi c s
  | 0x0103 => execViDisable vi c s
  | 0x0104 => execProgPolicySet vi c s
  | 0x0201 => execLeaseOpen vi c s
  | 0x0202 => execLeaseRenew vi c s
  | 0x0203 => execLeaseClose vi c s
  | 0x0210 => execExtGrant vi c s
  | 0x0211 => execExtRevoke vi c s
  | 0x0212 => execExtQuery vi c s
  | 0x0301 => execWinSet vi c s
  | 0x0302 => execWinClassSet vi c s
  | 0x0303 => execTblUpdate vi c s
  | 0x0304 => execTblMissReply vi c s
  | 0x0305 => execNodeSet vi c s
  | 0x0401 => execCohAgentAdd vi c s
  | 0x0402 => execCohAgentRemove vi c s
  | 0x0403 => execCohSet vi c s
  | 0x0501 => execStepSubmit vi c s
  | 0x0502 => execStepCancel vi c s
  | 0x0503 => execStepScan vi c s
  | 0x0504 => execStepStampSet vi c s
  | 0x0505 => execProgLoad vi c s
  | 0x0506 => execProgUnload vi c s
  | 0x0601 => execEngineSet vi c s
  | 0x0603 => execClusterStats vi c s
  | 0x0701 => execMemSet vi c s
  | 0x0702 => execFordSet vi c s
  | 0x0703 => execMemRemap vi c s
  | 0x0704 => execMemStats vi c s
  | 0x0705 => execMemRemapList vi c s
  | 0x0706 => execScrubStart vi c s
  | 0x0707 => execScrubAbort vi c s
  | 0x0801 => execLinkSet vi c s
  | 0x0802 => execLinkStats vi c s
  | 0x0803 => execXportSet vi c s
  | 0x0804 => execXportStats vi c s
  | 0x0805 => execSchedSet vi c s
  | 0x0806 => execViSchedSet vi c s
  | 0x0807 => execSchedStats vi c s
  | 0x0901 => execPairForm vi c s
  | 0x0902 => execPairAccept vi c s
  | 0x0903 => execPairRole vi c s
  | 0x0904 => execPairResync vi c s
  | 0x0905 => execPairMend vi c s
  | 0x0906 => execPairSet vi c s
  | 0x0907 => execPairDissolve vi c s
  | 0x0908 => execPairCoordMove vi c s
  | 0x0909 => execPairSync vi c s
  | 0x090A => execPairStats vi c s
  | 0x0A01 => execFwUpdate vi c s
  | 0x0A02 => execFwActivate vi c s
  | 0x0A03 => execChainAddrSet vi c s
  | 0x0B01 => execClusterReset vi c s
  | 0x0B02 => execRegionReset vi c s
  | 0x0B03 => execPkgReset vi c s
  | n => onUnit true (s.go vi n c (fun s => s.answerCmd vi n c false false stBOUND 0 []))

/-- The complex takes the command that the buffer of a VI holds. -/
def State.runBuffer (s : State) (vi : Nat) : State :=
  match runOp (parseCmd (s.page vi).cmdBuf).1 vi (parseCmd (s.page vi).cmdBuf).2 s with
  | .next t => t
  | .fault _ => s
  | .refused _ => s

/-- A GO: an overrun while a command is in progress (R384). -/
def State.doorbell (s : State) (vi : Nat) : State := if (s.page vi).busy then s.overrun vi else s.runBuffer vi

/-- Commands whose GO came while the complex was in reset are taken now (R384). -/
def State.resumeBuffers (s : State) (d : Nat) : State :=
  ((s.vis.filter (fun v => complexOf v.1 == d && v.2.page.busy && !v.2.page.taken && v.2.cmd.isNone)).map (·.1)).foldl
    (fun s v => (s.modPage v (fun p => { p with busy := false })).runBuffer v) s

/-! ### Commands that wait for coherent lines (R62, R65, R66) -/

/-- Commands with an operand that they read or write (R213, R146, R172, R400, R401, R404, R408). -/
def hasOperand (opcode : Nat) : Bool :=
  [0x0002, 0x0003, 0x0501, 0x0503, 0x0504, 0x0505, 0x0603, 0x0704, 0x0802, 0x0804, 0x0807, 0x0A01].contains opcode

/-- The command that waits for a line, the first of them in its order. -/
def State.lineCommand (s : State) (line : Nat) : Option (Nat × Busy) :=
  let l := s.vis.filterMap (fun v => v.2.cmd.bind (fun b =>
    if b.object == lineWait line && hasOperand b.opcode && b.ready.isNone && s.complexUp (complexOf v.1) then some (v.1, b)
    else none))
  l.foldl (fun a x => match a with
    | some y => if s.placeOf (.op (.cmd x.1)) line < s.placeOf (.op (.cmd y.1)) line then some x else a
    | none => some x) none

/-- The command goes on: it is run again from its checks, with the counter it was accepted under. The buffer of
the page stays as its host left it. -/
def State.resumeCommand (s : State) (vi : Nat) (b : Busy) : State :=
  let p := s.page vi
  let s := s.modVi vi (fun v => { v with cmd := none, counter := b.prior.1, saved := b.prior.2 })
  match runOp b.opcode vi b.cmd (s.modPage vi (fun q => { q with busy := false })) with
  | .next t => t.modPage vi (fun q => { q with cmdBuf := p.cmdBuf })
  | .fault _ => s
  | .refused _ => s

/-- Commands that wait for a miss or a zero-fill of an operand (R43, R49), and have every lookup they waited for. -/
def State.wakeable (s : State) : List (Nat × Busy) :=
  s.vis.filterMap (fun v => v.2.cmd.bind (fun b =>
    if b.object == parkWait && hasOperand b.opcode && b.ready.isNone && s.complexUp (complexOf v.1) &&
       !s.opLooks.any (fun x => x.who == .cmd v.1 && x.looks.any PageLook.waits) then some (v.1, b) else none))

/-- Commands whose operands have what they waited for go on. The block does this in a step that finds no command in its
queue (assumption 185). -/
def State.wakeCommands (s : State) : State := s.wakeable.foldl (fun s x => s.resumeCommand x.1 x.2) s

/-- PARKED_REQUEST_SERVE (R65): what the home received first of the requests parked on the line and the command whose
operand waits for it. -/
def execParkedRequestServe (line : Nat) (s : State) : Host.Outcome State Fault Refusal :=
  onUnit (decide (64 * line < poolEnd)) (
    if (s.txn line).isSome then s
    else match s.waiting.find? (fun w => w.why == .parked line), s.lineCommand line with
      | some w, some x => if s.placeOf (.op (.cmd x.1)) line < w.ord then s.resumeCommand x.1 x.2 else s.serveParked line
      | some _, none => s.serveParked line
      | none, some x => s.resumeCommand x.1 x.2
      | none, none => s)

/-! ### Accesses to a page (R378, R380) -/

/-- A write of a page: DOORBELL submits the command, RCV_CTL takes chunks during recovery (R415). -/
def State.writePage (s : State) (vi off : Nat) (data : Bytes) : State :=
  let v := leNat data
  if off = 0x10 then (if data.length = 8 ∧ tbit v 0 ∧ s.ready then s.doorbell vi else s)
  else if off = 0x48 ∧ isPf vi ∧ !s.ready then
    if data.length = 8 then
      let s := if tbit v 32 then s.rcvChunk (complexOf vi) (v % 2 ^ 32) else s
      if tbit v 33 then s.rcvEnd (complexOf vi) (v % 2 ^ 32) else s
    else s
  else s.writeReg vi off data

/-- The page answers: its function's host port or its complex is out of reset; until the part is ready only
function 0 of a host port has a page (R412, R415). -/
def State.pageLive (s : State) (vi : Nat) : Bool :=
  s.viExists vi &&
  (if isTenant vi then s.complexUp (complexOf vi)
   else !(s.hostPort (complexOf vi)).perst && !s.boot.por && (s.ready || isPf vi))

/-- REGISTER_WRITE (R378, R380, R383, R396). Pages 1024 and 1025 stand for the peripheral space of complexes 0 and 1,
which their firmware writes (R406, assumption 199). -/
def execRegisterWrite (page offset width : Nat) (value : Word64) (s : State) : Host.Outcome State Fault Refusal :=
  onUnit (decide (page < 1026)) (
    if page ≥ 1024 then (if s.complexUp (page - 1024) then s.writePeripheral (page - 1024) offset width value else s)
    else if s.pageLive page then s.writePage page offset (toLe width value.toNat) else s)

/-! ### A tenant's page granule (R379) -/

/-- The tenant whose page a plain access reaches: from its PAGE_NODE, 4 or 8 bytes, through a raw window of the
page's extent, with checks 1 to 7 of R34 passed. -/
def State.pageHit (s : State) (p : Pkt) : Option Nat :=
  let w := s.win (addrWindow p.addr)
  let k := kindOf p
  let n := reqLen p
  if !(k == .rd || k == .wr) || !(n == 4 || n == 8) || s.pair.state.refusal.isSome || addrNode p.addr != s.aon.nodeId ||
     (s.checkWindow (addrWindow p.addr) (addrOffset p.addr) n k.writes false).isSome || w.kind != 1 ||
     s.checkData w.extentId (w.basePa + addrOffset p.addr) n != some stBOUND then none
  else (s.vis.find? (fun v => isTenant v.1 && v.2.pageExt == w.extentId && v.2.enabled && v.2.pageNode == p.srcNode)).map (·.1)

/-- Serve the access. A unit on its way that is in reset answers RETRY_LATER (R17, R26). -/
def State.servePage (s : State) (p : Pkt) (vi : Nat) : State :=
  let w := s.win (addrWindow p.addr)
  let pa := w.basePa + addrOffset p.addr
  let off := pa % granuleBytes
  let rd := kindOf p == .rd
  let answer (s : State) (st : Nat) (data : Bytes) : State :=
    s.reply (stackOf pa) (.fabric p.dpg) p (some w.ownerVi) w.cls false st (if rd then 2 else 4) 0 data
  if !s.stackServes (stackOf pa) || !s.complexUp (complexOf vi) || s.boot.unlocked.contains (.k (complexOf vi)) then
    answer s stRETRY []
  else if rd then
    let (b, s) := s.readReg vi off p.opLen
    answer s stOK b
  else answer (s.writePage vi off p.payload) stOK []

/-- An uncached request of the fabric, as type `typ`: a page access, or a request for pool data. -/
def State.uncached (s : State) (p : Pkt) (typ : Nat) : State :=
  let q := { p with ptype := typ, subop := 0 }
  if !s.admits p then s
  else match s.pageHit q with
    | some v => (s.takeIn p).servePage q v
    | none => (s.takeIn p).request (.fabric p.dpg) q

/-- PAGE_ACCESS (R379). -/
def execPageAccess (p : Pkt) (s : State) : Host.Outcome State Fault Refusal := onUnit true (s.uncached p (if p.ptype = 2 then 2 else 1))

/-- RD_UNC (R34, R75). -/
def execRdUnc (p : Pkt) (s : State) : Host.Outcome State Fault Refusal :=
  onUnit true (s.uncached p 1)

/-- WR_UNC (R34, R75). -/
def execWrUnc (p : Pkt) (s : State) : Host.Outcome State Fault Refusal :=
  onUnit true (s.uncached p 2)

end Sys2Proof.Machine
end

