-- ==== Sys2Proof/Machine/PowerUp.lean ====
section
/-! DEFINITION. Power-on, the rails and the ends of resets (R410 to R412, R419, R425 to R430, R451). -/
namespace Sys2Proof.Machine

open Sys2Proof

/-! ### A complex leaves reset (R171, R384, R385, R428, R430) -/

/-- Revocations start again at step 2 with a fresh drain limit (R430). -/
def State.restartRevokes (s : State) : State :=
  { s with revokes := s.revokes.map (fun (r : Nat × Revoke) =>
    (r.1, { r.2 with step := 2, t0 := s.now, drainEnd := s.now + ns 500 + fastEdge s (us r.2.limit), cycleWait := none })) }

/-- A command in progress has changed nothing yet (R385): it waits for an operand or a commit, for an agent's lines to be
given up, or for the acknowledgement of writes; or it is programming the flash (R430). -/
def Busy.uncommitted (b : Busy) : Bool :=
  b.ready.isNone && ((isWait b.object && hasOperand b.opcode) || [0x0402, 0x0504, 0x0909, 0x0A01].contains b.opcode)

/-- Commands that a reset of complex `d` found uncommitted are answered `RETRY_LATER`, their counters as before (R385,
R426). -/
def State.undoCommands (s : State) (d : Nat) : State :=
  (s.vis.filterMap (fun v => v.2.cmd.bind (fun b => if complexOf v.1 == d && b.uncommitted then some v.1 else none))).foldl
    (fun s v => (s.undoCmd v).modCyc (fun c => { c with syncs := c.syncs.filter (fun x => x.1 != v) })) s

/-- Complex `d` is back: commands that had changed nothing are answered, expiries that fell due and revocations go on, the events it owes are posted, commands
that waited in the buffers are taken. -/
def State.complexBack (s : State) (d : Nat) : State :=
  let s := s.undoCommands d
  let s := if d = 0 then s.dueLeases.restartRevokes else s
  let owed := (s.complex d).interrupted
  let s := s.modComplex d (fun x => { x with interrupted := [] })
  (s.postInterrupted owed).resumeBuffers d

/-- One of the causes that hold complex `d` is over; its reset ends with the last of them (R429). -/
def State.releaseComplex (s : State) (d cause : Nat) : State :=
  if (s.complex d).held.contains cause then
    let s := s.modComplex d (fun x => { x with held := x.held.filter (· != cause) })
    if s.complexUp d then s.complexBack d else s
  else s

/-- PERST_DEASSERT (R425): port and complex leave reset 20 ms later. -/
def execPerstDeassert (port : Nat) (s : State) : Host.Outcome State Fault Refusal :=
  onUnit (decide (port < 2)) (
    if !(s.hostPort port).perst then s
    else
      let s := s.reach (s.now + ms 20)
      let s := s.setHostPort port { s.hostPort port with perst := false }
      ((s.modBoot (fun b => { b with unlocked := b.unlocked.filter (fun x => x != .p port) })).schedReset (4 + port)).releaseComplex
        port byPerst)

/-- CONTROL_WATCHDOG_END (R428). -/
def execControlWatchdogEnd (complex : Nat) (s : State) : Host.Outcome State Fault Refusal :=
  onUnit (decide (complex < 2)) (
    if (s.complex complex).held.contains byWatchdog then
      (s.reach (s.complex complex).heldUntil).releaseComplex complex byWatchdog
    else s)

/-! ### The end of a package reset (R427) -/

/-- The link dies are released, and their scheduler instances with the configuration applied again (R294). -/
def State.diesUp (s : State) : State :=
  (List.range 4).foldl (fun s l => (s.modDie l (fun d => { d with inReset := false })).schedReset l) s

/-- Firmware writes the five built-in programs into the program area of every region (R47, R213). -/
def State.putBuiltins (s : State) : State :=
  (List.range 12).foldl (fun s g => (List.range 5).foldl (fun s k =>
    { s with dram := (s.dram.write (progAddr g (256 + k)) (slice (Config.builtinImage k) 0 0x4800)).2 }) s) s

/-- Steps 5 and 6 of R427 with firmware running: regions leave reset, complexes go on, link dies are released. A
complex whose PERST is asserted stays in reset (R429). -/
def State.packageUp (s : State) : State :=
  let s := ((s.settleA 0).settleA 1).modBoot (fun b => { b with phase := 0x07, err := 0, pkgReset := none, unlocked := [] })
  let s := ((List.range 12).foldl (fun s g => s.regionEnd g) s).putBuiltins
  let keep (d : Nat) : List Nat := if (s.hostPort d).perst then [byPerst] else []
  let s := [0, 1].foldl (fun s d => s.modComplex d (fun x => { x with held := keep d })) s
  let s := [0, 1].foldl (fun s d => if s.complexUp d then s.complexBack d else s) s
  s.diesUp

/-- PACKAGE_RESET_END (R427): the DRAM copy is compared with the recorded digest; on a mismatch, and for
FW_ACTIVATE, the image comes from flash, which adds 171 ms. -/
def execPackageResetEnd (s : State) : Host.Outcome State Fault Refusal :=
  onUnit true (
    match s.boot.pkgReset with
    | none => s
    | some (cause, t0) =>
      if s.aon.tripHeld || s.boot.phase != 0x01 then s
      else if cause != .activate && !s.boot.dram.isEmpty && imageDigest s.boot.dram == s.boot.digest then
        (s.reach (t0 + ms 20)).packageUp
      else
        let s := (s.reach (t0 + ms 191)).bootFlash
        if s.boot.phase = 0x06 then s.packageUp else s)

/-! ### Power-on (R410 to R412, R426, R451) -/

/-- A main rail: every rail but VDD_AUX. -/
def isMain (r : Rail) : Bool := r != .aux && r != .ref

/-- The order in which the rails must rise (R410). -/
def railOrder (r : Rail) : Nat :=
  match r with
  | .aux => 1 | .io => 2 | .core => 3 | .link => 3 | .ser => 4 | .dram => 5 | .ddq => 6 | .ref => 0

/-- The main rails that may be up when a rail rises out of order: that one and those of a lower order (assumption 203). -/
def railsUpTo (r : Rail) : List Rail :=
  [.io, .core, .link, .ser, .dram, .ddq].filter (fun x => x == r || decide (railOrder x < railOrder r))

/-- The temperature of a stack keeps its channels at the doubled rate (R321). -/
def hotChans (p : Power) : Tbl Chan :=
  ((List.range 12).filter (fun g => decide (tget 0 p.tempStack g > 85))).flatMap (fun g =>
    (span (32 * g) 32).map (fun n => (n, { Chan.reset n with hot := true })))

/-- Power-on reset with VDD_AUX present: everything is at its reset value but the always-on block, the flash, the
pins and what the sensors read (R411, R426). The pair state is that of before until the boot begins. -/
def State.powerOn (s : State) (rails : List Rail) : State :=
  let s := s.cutFlash (fun _ => true)
  let main := rails.any isMain
  let aon := s.aon.takePending
  let die (d : Nat) : Nat × DiePower := (d, { DiePower.reset with tempCore := (s.diePower d).tempCore, evalAt := s.now })
  { State.reset with
    now := s.now
    free := s.free
    boot := { Boot.reset with flash := s.boot.flash, partFlash := s.boot.partFlash, untrained := s.boot.untrained, rails := rails, railErr := s.boot.railErr && main,
                              err := if s.boot.railErr && main then 0x0020 else 0 }
    aon := { aon with tripHeld := aon.tripHeld && main }
    power := { s.power with dies := [die 0, die 1] }
    chans := hotChans s.power
    dram := { State.reset.dram with bad := s.dram.bad }
    pair := { Pair.reset with state := s.pair.state, index := s.pair.index, la := s.pair.la, lines := s.pair.lines,
                              act := s.pair.act, req := s.pair.req, actAt := s.pair.actAt, keepAlive := s.pair.keepAlive }
    complexes := s.hostPorts.filterMap (fun (h : Nat × HostPort) =>
      if h.2.perst then some (h.1, { Complex.reset with held := [byPerst] }) else none)
    hostPorts := s.hostPorts.filterMap (fun (h : Nat × HostPort) =>
      if h.2.perst then some (h.1, { HostPort.reset with perst := true }) else none)
    pending := s.pending }

/-- MAIN_RAIL_FAULT (R411, R451): power-on reset is held, for an absent system reference too. When every main rail is gone, a thermal trip and a rail
that rose out of order are over (R410, R458). -/
def execMainRailFault (rail : Rail) (s : State) : Host.Outcome State Fault Refusal :=
  onUnit true (
    if rail == .aux then s
    else s.powerOn (s.boot.rails.filter (· != rail)))

/-- RAIL_ORDER_ERROR (R410): power-on reset stays held. -/
def execRailOrderError (rail : Rail) (s : State) : Host.Outcome State Fault Refusal :=
  onUnit true (
    if !isMain rail || !s.boot.por || (s.boot.railErr && s.boot.rails.contains rail) then s
    else s.modBoot (fun b => { b with rails := b.rails ++ (railsUpTo rail).filter (fun r => !b.rails.contains r),
                                      railErr := true, err := 0x0020 }))

/-- POR_RELEASE (R411, R412): every rail has been in range for 1 ms. PLLs lock, the boot begins, the pair state is
UNPAIRED (R343) and the image is read from flash. -/
def execPorRelease (s : State) : Host.Outcome State Fault Refusal :=
  onUnit true (
    if !s.boot.por || s.boot.railErr || s.aon.tripHeld || !s.aon.auxUp then s
    else
      let s := if s.pair.state == .unpaired then s else s.pairState .unpaired
      let t := s.now
      s.modBoot (fun b => { b with por := false, phase := 0x02, porAt := t,
                                   rails := [.aux, .io, .core, .link, .ser, .dram, .ddq, .ref] }))

/-- Step 8 of R412: regions, clusters and link dies are released over a cleared bitmap (R50). -/
def State.firstUp (s : State) : State :=
  let s := s.modBoot (fun b => { b with phase := 0x07 })
  let s := State.putBuiltins { s with dram := { s.dram with valid := [] } }
  let s := (List.range 12).foldl (fun s g => s.modRegion g (fun r => { r with inReset := false })) s
  let s := (List.range 96).foldl (fun s c => s.modCluster c (fun k => { k with inReset := false })) s
  s.diesUp

/-- BOOT_READY (R412): the part is ready. After a package reset that ended in recovery, R427 goes on. -/
def execBootReady (s : State) : Host.Outcome State Fault Refusal :=
  onUnit true (
    if s.boot.phase != 0x06 then s
    else if s.boot.pkgReset.isSome then s.packageUp
    else s.firstUp)

/-- VDD_AUX_RISE (R411, R426): the always-on block is reset, and the main rails have still to rise. Fuses and flash
keep what is in them. -/
def execVddAuxRise (s : State) : Host.Outcome State Fault Refusal :=
  onUnit true (
    { State.reset with
      now := s.now
      free := s.free
      boot := { Boot.reset with flash := s.boot.flash, partFlash := s.boot.partFlash, untrained := s.boot.untrained }
      aon := { AlwaysOn.reset with roots := s.aon.roots, auxAt := s.now }
      pending := s.pending })

/-- VDD_AUX_FALL (R347, R419, R423, R458, R459): the bypass closes, and what the always-on block held is gone. -/
def execVddAuxFall (s : State) : Host.Outcome State Fault Refusal :=
  onUnit true (
    let s := (s.driveAct false).driveReq false
    let s := s.modPair (fun p => { p with hbTx := [] })
    let s := s.modPower (fun p => { p with capEn := true, capW := 0x108 })
    s.modAon (fun a => { AlwaysOn.reset with roots := a.roots, auxUp := false, chnOut := a.chnOut }))

/-! ### What the pins present (R431) -/

/-- The fabric and Rein transmitters drive, and their receivers terminate. -/
def State.fabricDriven (s : State) : Bool := s.aon.auxUp && !s.boot.por && !s.packageHeld

/-- PCI Express port `d` presents a load. -/
def State.pcieLoad (s : State) (d : Nat) : Bool :=
  s.aon.auxUp && !s.boot.por && !s.packageHeld && !(s.hostPort d).perst

/-- Complex 0 drives PAIR_HB_TX. -/
def State.hbDriven (s : State) : Bool := s.aon.auxUp && s.complexUp 0

/-- The part drives the SPI flash: in steps 3 and 4 of R412, during a flash load of a package reset, and while firmware
programs it. -/
def State.spiDriven (s : State) : Bool :=
  s.aon.auxUp && !s.boot.por &&
  (s.boot.phase == 0x02 || s.boot.fwBusy.isSome ||
   (match s.boot.pkgReset with | some (c, _) => c == .activate && s.boot.phase == 0x01 | none => false))

/-- SMBus is live, and the chain is not bypassed. -/
def State.smbusLive (s : State) : Bool := s.aon.auxUp
def State.chainLive (s : State) : Bool := s.aon.auxUp && s.aon.bypassOpen

/-- CHAIN_BYPASS_OPEN (R419): the part is in the ring 1 ms after VDD_AUX has entered its range. -/
def execChainBypassOpen (s : State) : Host.Outcome State Fault Refusal :=
  onUnit true (
    if s.aon.auxUp && !s.aon.bypassOpen then
      (s.reach (s.aon.auxAt + ms 1)).modAon (fun a => { a with bypassOpen := true })
    else s)

end Sys2Proof.Machine
end

