-- ==== Sys2Proof/Machine/Chain.lean ====
section
/-! DEFINITION. The Wokowa chain (R419 to R424), SMBus (R459), and the power and thermal control of the core dies
(R454 to R458). -/
namespace Sys2Proof.Machine

open Sys2Proof

/-! ### Frames (R420) -/

def frameCmd (f : Word64) : Nat := bitf f.toNat 63 60
def frameAddr (f : Word64) : Nat := bitf f.toNat 59 54
def frameBcast (f : Word64) : Bool := tbit f.toNat 53
def frameReg (f : Word64) : Nat := bitf f.toNat 47 40
def frameData (f : Word64) : Nat := bitf f.toNat 39 8

/-- CRC-8 over bits [63:8], most significant byte first. -/
def frameCrc (f : Word64) : Nat := crc8 (toBe 7 (f.toNat / 256))

/-- The frame with new DATA and ACK set, and its CRC. -/
def frameAck (f : Word64) (data : Nat) : Word64 :=
  let hi := f.toNat / 2 ^ 40 ||| 2 ^ 12
  let g : Word64 := BitVec.ofNat 64 (hi * 2 ^ 40 + data % 2 ^ 32 * 2 ^ 8)
  BitVec.ofNat 64 (g.toNat + frameCrc g)

/-- A frame reaches CHN_IN. The part acts on a frame of its command whose CRC is right and forwards what `act`
answers; any other frame, and every frame while the bypass is closed, goes on unchanged. -/
def State.frame (s : State) (f : Word64) (cmd : Nat) (act : State → Option (Word64 × State)) : State :=
  let pass (s : State) : State := s.modAon (fun a => { a with chnOut := f })
  if !s.aon.bypassOpen || frameCmd f != cmd || frameCrc f != bitf f.toNat 7 0 then pass s
  else match act s with
    | some (g, s) => s.modAon (fun a => { a with chnOut := g })
    | none => pass s

/-- The frame names this device. -/
def State.addressedBy (s : State) (f : Word64) : Bool := s.aon.addressed && s.aon.chainAddr == frameAddr f

/-- The device acts on a WRITE or RESET: it is addressed, and the frame names it or every addressed device. -/
def State.actsOn (s : State) (f : Word64) : Bool := s.addressedBy f || (frameBcast f && s.aon.addressed)

/-- ENUM (R420, R421). -/
def execEnum (f : Word64) (s : State) : Host.Outcome State Fault Refusal :=
  onUnit true (s.frame f 1 (fun s =>
    let d := frameData f
    if d < 64 then some (frameAck f (d + 1), s.modAon (fun a => { a with addressed := true, chainAddr := d }))
    else some (f, s.modAon (fun a => { a with addressed := false }))))

/-- CHN_ROOT_CMD as it reads (R422). -/
def AlwaysOn.rootCmd (a : AlwaysOn) : Nat := b2n a.rootFail * 2 ^ 17 + b2n a.rootDone * 2 ^ 16 + a.rootSlot

/-- A chain register as it reads (R422); there is no register at another number. -/
def State.chainReg (s : State) (r : Nat) : Option Nat :=
  match r with
  | 0x00 => some (0x1272 * 2 ^ 16 + Config.stepping.toNat)
  | 0x01 => some s.chnNode
  | 0x02 => some s.chnStatus
  | 0x10 => some 0
  | 0x11 => some s.aon.rootCmd
  | _ => none

/-- READ (R420). -/
def execRead (f : Word64) (s : State) : Host.Outcome State Fault Refusal :=
  onUnit true (s.frame f 2 (fun s =>
    if s.addressedBy f then (s.chainReg (frameReg f)).map (fun v => (frameAck f v, s)) else none))

/-- Stage the next word of a root hash (R422). -/
def State.stageRoot (s : State) (w : Nat) : State :=
  s.modAon (fun a =>
    let l := a.staged ++ List.replicate (12 - a.staged.length) 0
    { a with staged := lset l a.rootIdx (BitVec.ofNat 32 w), rootIdx := (a.rootIdx + 1) % 12 })

/-- Start an operation on a requester-root slot, or refuse it (R422): the hash to burn is the staged one. -/
def State.rootStart (s : State) (slot : Nat) (revoke : Bool) : State :=
  let r := lget (none, false) s.aon.roots slot
  let used := r.1.isSome || r.2
  let may := s.boot.phase == 0x07 || s.boot.phase == 0x04
  let a := { s.aon with rootSlot := slot, rootIdx := 0, rootDone := false, rootFail := false }
  if !may || (!revoke && used) || s.aon.rootOp.isSome then { s with aon := { a with rootFail := true } }
  else
    let hash : Bytes := (List.range 12).flatMap (fun k => toBe 4 (lget 0 s.aon.staged k).toNat)
    { s with aon := { a with rootOp := some (slot, if revoke then none else some hash) } }

/-- A write of CHN_ROOT_CMD (R422). PROGRAM and REVOKE in one write are refused. -/
def State.writeRootCmd (s : State) (v : Nat) : State :=
  let slot := v % 4
  if tbit v 8 && tbit v 9 then
    s.modAon (fun a => { a with rootSlot := slot, rootIdx := 0, rootDone := false, rootFail := true })
  else if tbit v 8 then s.rootStart slot false
  else if tbit v 9 then s.rootStart slot true
  else s.modAon (fun a => { a with rootSlot := slot, rootIdx := 0 })

/-- A write of a chain register, or its refusal (R420, R422, R423). -/
def State.writeChain (s : State) (r v : Nat) : Option State :=
  match r with
  | 0x01 => s.writeNode (v % 4096)
  | 0x10 => some (s.stageRoot v)
  | 0x11 => some (s.writeRootCmd v)
  | _ => none

/-- WRITE (R420): a device that refuses leaves ACK as it is. -/
def execWrite (f : Word64) (s : State) : Host.Outcome State Fault Refusal :=
  onUnit true (s.frame f 3 (fun s =>
    if s.actsOn f then
      (s.writeChain (frameReg f) (frameData f)).map (fun s => (frameAck f (frameData f), s))
    else none))

/-- RESET (R420, R425): a chain reset starts within 10 µs. -/
def execReset (f : Word64) (s : State) : Host.Outcome State Fault Refusal :=
  onUnit true (s.frame f 4 (fun s =>
    if s.actsOn f && frameData f == 0 then
      some (frameAck f 0, s.askReset .chain s.now)
    else none))

/-! ### Writes of chain registers (R422, R423) -/

/-- CHN_NODE_WRITE (R423). -/
def execChnNodeWrite (value : Word32) (s : State) : Host.Outcome State Fault Refusal :=
  onUnit true (if s.aon.auxUp then (s.writeNode (value.toNat % 4096)).getD s else s)

/-- CHN_ROOT_DATA_WRITE (R422). -/
def execChnRootDataWrite (value : Word32) (s : State) : Host.Outcome State Fault Refusal :=
  onUnit true (if s.aon.auxUp then s.stageRoot value.toNat else s)

/-- ROOT_PROGRAM (R418, R422). -/
def execRootProgram (slot : Nat) (s : State) : Host.Outcome State Fault Refusal :=
  onUnit (decide (slot < 4)) (if s.aon.auxUp then s.rootStart slot false else s)

/-- ROOT_REVOKE (R418, R422). -/
def execRootRevoke (slot : Nat) (s : State) : Host.Outcome State Fault Refusal :=
  onUnit (decide (slot < 4)) (if s.aon.auxUp then s.rootStart slot true else s)

/-- CHN_ROOT_DONE (R418, R422): the fuses of the slot are written. -/
def execChnRootDone (s : State) : Host.Outcome State Fault Refusal :=
  onUnit true (
    match s.aon.rootOp with
    | some (slot, h) =>
      s.modAon (fun a =>
        let r := lget (none, false) a.roots slot
        { a with rootOp := none, rootDone := true, roots := lset a.roots slot (if h.isSome then (h, false) else (r.1, true)) })
    | none => s)

/-! ### SMBus (R459) -/

/-- DIE_CAP (R459): a cap outside 100 to 350 W is not acknowledged. -/
def execDieCap (value : Word32) (s : State) : Host.Outcome State Fault Refusal :=
  onUnit true (
    if !s.aon.auxUp then s
    else
      let w := value.toNat % 512
      if 100 ≤ w ∧ w ≤ 350 then s.modPower (fun p => { p with capEn := tbit value.toNat 16, capW := w, nack := false })
      else s.modPower (fun p => { p with nack := true }))

/-- SMBUS_ARP (R459): the address that ARP assigns. -/
def execSmbusArp (addr : Nat) (s : State) : Host.Outcome State Fault Refusal :=
  onUnit true (if s.aon.auxUp && decide (addr < 128) then s.modAon (fun a => { a with smbAddr := addr }) else s)

/-- SMBUS_WRITE_REFUSED (R459): a read-only register, an unknown code, or a value out of range. -/
def execSmbusWriteRefused (code : Nat) (value : Word32) (s : State) : Host.Outcome State Fault Refusal :=
  onUnit true (
    let good := code == 0x40 && decide (100 ≤ value.toNat % 512 ∧ value.toNat % 512 ≤ 350)
    if s.aon.auxUp && !good then s.modPower (fun p => { p with nack := true }) else s)

/-- The hottest of a table of temperatures. -/
def hottest (t : Tbl Nat) : Nat := (t.map (·.2)).foldl max 0

/-- TEMP_MAX, DIE_POWER, CAP_STATE and DIE_CAP as they read (R459). -/
def State.tempMax (s : State) : Nat :=
  hottest s.power.tempLink * 2 ^ 24 + hottest s.power.tempStack * 2 ^ 16 + (s.diePower 1).tempCore * 2 ^ 8 +
  (s.diePower 0).tempCore
def State.diePowerReg (s : State) : Nat := (s.diePower 1).estimate * 2 ^ 16 + (s.diePower 0).estimate
def State.capState (s : State) : Nat :=
  let therm (d : Nat) : Bool := (s.diePower d).thermal != 0 || s.power.hotStacks.any (fun g => g / 6 == d)
  b2n s.aon.trip * 2 ^ 13 + s.aon.tripUnit * 2 ^ 11 + b2n s.power.brake * 2 ^ 10 + b2n (therm 1) * 2 ^ 9 +
  b2n (therm 0) * 2 ^ 8 + (s.diePower 1).step * 2 ^ 4 + (s.diePower 0).step
def State.dieCapReg (s : State) : Nat := b2n s.power.capEn * 2 ^ 16 + s.power.capW

/-! ### Throttle steps (R454, R455, R457) -/

/-- The thermal demand of a die: its own, and step 4 for a hot stack (R457). -/
def State.thermalDemand (s : State) (d : Nat) : Nat :=
  max (s.diePower d).thermal (if s.power.hotStacks.any (fun g => g / 6 == d) then 4 else 0)

/-- The cap demand after an estimate (R455): with the moment since which it is below 0.95 of the cap. -/
def capNext (en : Bool) (capW est cap now : Nat) (below : Option Nat) : Nat × Option Nat :=
  if !en then (0, none)
  else if est > 10 * capW then (min 7 (cap + 1), none)
  else if 2 * est < 19 * capW then
    match below with
    | some t => if now ≥ t + ms 1 ∧ cap > 0 then (cap - 1, some now) else (cap, some t)
    | none => (cap, some now)
  else (cap, none)

/-- The thermal demand of a core die after an evaluation (R457), with the moment of its last change. -/
def thermNext (temp th now at_ : Nat) : Nat × Nat :=
  if temp ≥ 100 ∧ th < 7 ∧ now ≥ at_ + us 100 then (th + 1, now)
  else if temp < 98 ∧ th > 0 ∧ now ≥ at_ + ms 1 then (th - 1, now)
  else (th, at_)

/-- CAP_EVALUATE (R455): the die moves at most one step toward the largest demand. A change of the A-clock stalls
engines and accumulators for 2 µs (R454). -/
def execCapEvaluate (die estimate : Nat) (s : State) : Host.Outcome State Fault Refusal :=
  onUnit (decide (die < 2)) (
    if s.boot.por then s
    else
      let s := (s.reach ((s.diePower die).evalAt + us 10)).settleA die
      let p := s.diePower die
      let (cap, below) := capNext s.power.capEn s.power.capW estimate p.cap s.now p.belowAt
      let (th, at_) := thermNext p.tempCore p.thermal s.now p.thermAt
      let s := s.setDiePower die { p with cap := cap, belowAt := below, thermal := th, thermAt := at_, estimate := estimate, evalAt := s.now }
      let want := max (max cap (s.thermalDemand die)) (if s.power.brake then 7 else 0)
      let step := if want > p.step then p.step + 1 else if want < p.step then p.step - 1 else p.step
      let stall := if stepClock step = stepClock p.step then p.stall else some (s.now + us 2)
      s.setDiePower die { s.diePower die with step := step, stall := stall })

/-- A_CLOCK_STALL_END (R454). -/
def execAClockStallEnd (die : Nat) (s : State) : Host.Outcome State Fault Refusal :=
  onUnit (decide (die < 2)) (
    match (s.diePower die).stall with
    | some t =>
      let s := (s.reach t).settleA die
      s.setDiePower die { s.diePower die with stall := none }
    | none => s)

/-- PWR_BRAKE_ASSERT (R455). -/
def execPwrBrakeAssert (s : State) : Host.Outcome State Fault Refusal :=
  onUnit true (s.modPower (fun p => { p with brake := true }))

/-- PWR_BRAKE_RELEASE (R455): the brake's demand is 0 at once. -/
def execPwrBrakeRelease (s : State) : Host.Outcome State Fault Refusal :=
  onUnit true (s.modPower (fun p => { p with brake := false }))

/-! ### Temperatures (R457, R458) -/

/-- THERMAL_THRESHOLD (R321, R457): the hottest sensor of a unit has crossed a threshold. -/
def execThermalThreshold (unit : ThermalUnit) (temp : Nat) (s : State) : Host.Outcome State Fault Refusal :=
  onUnit unit.wf (
    match unit with
    | .coreDie d =>
      let p := s.diePower d
      let crossed := decide (temp ≥ 100) != decide (p.tempCore ≥ 100) || decide (temp < 98) != decide (p.tempCore < 98)
      s.setDiePower d { p with tempCore := temp, thermAt := if crossed then s.now else p.thermAt }
    | .linkDie l => s.modPower (fun p => { p with tempLink := tset 0 p.tempLink l temp })
    | .stack g =>
      let s := s.modPower (fun p =>
        { p with tempStack := tset 0 p.tempStack g temp,
                 hotStacks := if temp ≥ 92 then insSet p.hotStacks g
                              else if temp < 89 then p.hotStacks.filter (· != g) else p.hotStacks })
      (span (32 * g) 32).foldl (fun s n => s.modChan n (fun c =>
        { c with hot := if temp > 85 then true else if temp < 82 then false else c.hot })) s)

/-- TRIP_UNIT of CAP_STATE (R459). -/
def tripCode (u : ThermalUnit) : Nat :=
  match u with
  | .coreDie _ => 0 | .linkDie _ => 1 | .stack _ => 2

/-- THERMAL_TRIP (R458): the package is held in reset until every main rail has been removed. -/
def execThermalTrip (unit : ThermalUnit) (s : State) : Host.Outcome State Fault Refusal :=
  onUnit unit.wf (
    if s.aon.tripHeld || !s.aon.auxUp || s.boot.por then s
    else
      let s := if s.packageHeld then s else s.packageDown
      s.modAon (fun a => { a with trip := true, tripUnit := tripCode unit, tripHeld := true }))

end Sys2Proof.Machine
end

