-- ==== Sys2Proof/Machine/TackRows.lean ====
section
/-! DEFINITION. The instructions of the update engines as they are issued (R194 to R209): each runs on
the tile its engine holds and moves the program's place on. -/
namespace Sys2Proof.Machine

open Sys2Proof

/-- NOP (R205). -/
def execNop (engine : Nat) (f : TackFields) (s : State) : Host.Outcome State Fault Refusal :=
  onUnit (decide (engine < 768)) (s.tackIssue engine f tackNop)

/-- VADD (R205). -/
def execVadd (engine : Nat) (f : TackFields) (s : State) : Host.Outcome State Fault Refusal :=
  onUnit (decide (engine < 768)) (s.tackIssue engine f tackVadd)

/-- VSUB (R205). -/
def execVsub (engine : Nat) (f : TackFields) (s : State) : Host.Outcome State Fault Refusal :=
  onUnit (decide (engine < 768)) (s.tackIssue engine f tackVsub)

/-- VMUL (R205). -/
def execVmul (engine : Nat) (f : TackFields) (s : State) : Host.Outcome State Fault Refusal :=
  onUnit (decide (engine < 768)) (s.tackIssue engine f tackVmul)

/-- VFMA (R205). -/
def execVfma (engine : Nat) (f : TackFields) (s : State) : Host.Outcome State Fault Refusal :=
  onUnit (decide (engine < 768)) (s.tackIssue engine f tackVfma)

/-- VFNMA (R205). -/
def execVfnma (engine : Nat) (f : TackFields) (s : State) : Host.Outcome State Fault Refusal :=
  onUnit (decide (engine < 768)) (s.tackIssue engine f tackVfnma)

/-- VDIV (R205). -/
def execVdiv (engine : Nat) (f : TackFields) (s : State) : Host.Outcome State Fault Refusal :=
  onUnit (decide (engine < 768)) (s.tackIssue engine f tackVdiv)

/-- VSQRT (R205). -/
def execVsqrt (engine : Nat) (f : TackFields) (s : State) : Host.Outcome State Fault Refusal :=
  onUnit (decide (engine < 768)) (s.tackIssue engine f tackVsqrt)

/-- VMIN (R205). -/
def execVmin (engine : Nat) (f : TackFields) (s : State) : Host.Outcome State Fault Refusal :=
  onUnit (decide (engine < 768)) (s.tackIssue engine f tackVmin)

/-- VMAX (R205). -/
def execVmax (engine : Nat) (f : TackFields) (s : State) : Host.Outcome State Fault Refusal :=
  onUnit (decide (engine < 768)) (s.tackIssue engine f tackVmax)

/-- VABS (R205). -/
def execVabs (engine : Nat) (f : TackFields) (s : State) : Host.Outcome State Fault Refusal :=
  onUnit (decide (engine < 768)) (s.tackIssue engine f tackVabs)

/-- VNEG (R205). -/
def execVneg (engine : Nat) (f : TackFields) (s : State) : Host.Outcome State Fault Refusal :=
  onUnit (decide (engine < 768)) (s.tackIssue engine f tackVneg)

/-- VMOV (R205). -/
def execVmov (engine : Nat) (f : TackFields) (s : State) : Host.Outcome State Fault Refusal :=
  onUnit (decide (engine < 768)) (s.tackIssue engine f tackVmov)

/-- VSEL (R205). -/
def execVsel (engine : Nat) (f : TackFields) (s : State) : Host.Outcome State Fault Refusal :=
  onUnit (decide (engine < 768)) (s.tackIssue engine f tackVsel)

/-- VBCAST (R205). -/
def execVbcast (engine : Nat) (f : TackFields) (s : State) : Host.Outcome State Fault Refusal :=
  onUnit (decide (engine < 768)) (s.tackIssue engine f tackVbcast)

/-- VEXT (R217). -/
def execVext (engine : Nat) (f : TackFields) (s : State) : Host.Outcome State Fault Refusal :=
  onUnit (decide (engine < 768)) (s.tackIssue engine f tackVext)

/-- VINS (R217). -/
def execVins (engine : Nat) (f : TackFields) (s : State) : Host.Outcome State Fault Refusal :=
  onUnit (decide (engine < 768)) (s.tackIssue engine f tackVins)

/-- VAND (R205). -/
def execVand (engine : Nat) (f : TackFields) (s : State) : Host.Outcome State Fault Refusal :=
  onUnit (decide (engine < 768)) (s.tackIssue engine f tackVand)

/-- VOR (R205). -/
def execVor (engine : Nat) (f : TackFields) (s : State) : Host.Outcome State Fault Refusal :=
  onUnit (decide (engine < 768)) (s.tackIssue engine f tackVor)

/-- VXOR (R205). -/
def execVxor (engine : Nat) (f : TackFields) (s : State) : Host.Outcome State Fault Refusal :=
  onUnit (decide (engine < 768)) (s.tackIssue engine f tackVxor)

/-- VSHL (R205). -/
def execVshl (engine : Nat) (f : TackFields) (s : State) : Host.Outcome State Fault Refusal :=
  onUnit (decide (engine < 768)) (s.tackIssue engine f tackVshl)

/-- VSHR (R205). -/
def execVshr (engine : Nat) (f : TackFields) (s : State) : Host.Outcome State Fault Refusal :=
  onUnit (decide (engine < 768)) (s.tackIssue engine f tackVshr)

/-- VCMP (R205). -/
def execVcmp (engine : Nat) (f : TackFields) (s : State) : Host.Outcome State Fault Refusal :=
  onUnit (decide (engine < 768)) (s.tackIssue engine f tackVcmp)

/-- PAND (R205). -/
def execPand (engine : Nat) (f : TackFields) (s : State) : Host.Outcome State Fault Refusal :=
  onUnit (decide (engine < 768)) (s.tackIssue engine f tackPand)

/-- POR (R205). -/
def execPor (engine : Nat) (f : TackFields) (s : State) : Host.Outcome State Fault Refusal :=
  onUnit (decide (engine < 768)) (s.tackIssue engine f tackPor)

/-- PNOT (R205). -/
def execPnot (engine : Nat) (f : TackFields) (s : State) : Host.Outcome State Fault Refusal :=
  onUnit (decide (engine < 768)) (s.tackIssue engine f tackPnot)

/-- PSET (R205). -/
def execPset (engine : Nat) (f : TackFields) (s : State) : Host.Outcome State Fault Refusal :=
  onUnit (decide (engine < 768)) (s.tackIssue engine f tackPset)

/-- VCVT (R208). -/
def execVcvt (engine : Nat) (f : TackFields) (s : State) : Host.Outcome State Fault Refusal :=
  onUnit (decide (engine < 768)) (s.tackIssue engine f tackVcvt)

/-- PACC (R209). -/
def execPacc (engine : Nat) (f : TackFields) (s : State) : Host.Outcome State Fault Refusal :=
  onUnit (decide (engine < 768)) (s.tackIssue engine f tackPacc)

/-- PGET (R209). -/
def execPget (engine : Nat) (f : TackFields) (s : State) : Host.Outcome State Fault Refusal :=
  onUnit (decide (engine < 768)) (s.tackIssue engine f tackPget)

/-- PRES (R209). -/
def execPres (engine : Nat) (f : TackFields) (s : State) : Host.Outcome State Fault Refusal :=
  onUnit (decide (engine < 768)) (s.tackIssue engine f tackPres)

/-- VPACC (R209). -/
def execVpacc (engine : Nat) (f : TackFields) (s : State) : Host.Outcome State Fault Refusal :=
  onUnit (decide (engine < 768)) (s.tackIssue engine f tackVpacc)

/-- VPGET (R209). -/
def execVpget (engine : Nat) (f : TackFields) (s : State) : Host.Outcome State Fault Refusal :=
  onUnit (decide (engine < 768)) (s.tackIssue engine f tackVpget)

/-- SADD (R205). -/
def execSadd (engine : Nat) (f : TackFields) (s : State) : Host.Outcome State Fault Refusal :=
  onUnit (decide (engine < 768)) (s.tackIssue engine f tackSadd)

/-- SSUB (R205). -/
def execSsub (engine : Nat) (f : TackFields) (s : State) : Host.Outcome State Fault Refusal :=
  onUnit (decide (engine < 768)) (s.tackIssue engine f tackSsub)

/-- SMUL (R205). -/
def execSmul (engine : Nat) (f : TackFields) (s : State) : Host.Outcome State Fault Refusal :=
  onUnit (decide (engine < 768)) (s.tackIssue engine f tackSmul)

/-- SFMA (R205). -/
def execSfma (engine : Nat) (f : TackFields) (s : State) : Host.Outcome State Fault Refusal :=
  onUnit (decide (engine < 768)) (s.tackIssue engine f tackSfma)

/-- SDIV (R205). -/
def execSdiv (engine : Nat) (f : TackFields) (s : State) : Host.Outcome State Fault Refusal :=
  onUnit (decide (engine < 768)) (s.tackIssue engine f tackSdiv)

/-- SSQRT (R205). -/
def execSsqrt (engine : Nat) (f : TackFields) (s : State) : Host.Outcome State Fault Refusal :=
  onUnit (decide (engine < 768)) (s.tackIssue engine f tackSsqrt)

/-- SMIN (R205). -/
def execSmin (engine : Nat) (f : TackFields) (s : State) : Host.Outcome State Fault Refusal :=
  onUnit (decide (engine < 768)) (s.tackIssue engine f tackSmin)

/-- SMAX (R205). -/
def execSmax (engine : Nat) (f : TackFields) (s : State) : Host.Outcome State Fault Refusal :=
  onUnit (decide (engine < 768)) (s.tackIssue engine f tackSmax)

/-- SIADD (R205). -/
def execSiadd (engine : Nat) (f : TackFields) (s : State) : Host.Outcome State Fault Refusal :=
  onUnit (decide (engine < 768)) (s.tackIssue engine f tackSiadd)

/-- SISUB (R205). -/
def execSisub (engine : Nat) (f : TackFields) (s : State) : Host.Outcome State Fault Refusal :=
  onUnit (decide (engine < 768)) (s.tackIssue engine f tackSisub)

/-- SAND (R205). -/
def execSand (engine : Nat) (f : TackFields) (s : State) : Host.Outcome State Fault Refusal :=
  onUnit (decide (engine < 768)) (s.tackIssue engine f tackSand)

/-- SOR (R205). -/
def execSor (engine : Nat) (f : TackFields) (s : State) : Host.Outcome State Fault Refusal :=
  onUnit (decide (engine < 768)) (s.tackIssue engine f tackSor)

/-- SSHL (R205). -/
def execSshl (engine : Nat) (f : TackFields) (s : State) : Host.Outcome State Fault Refusal :=
  onUnit (decide (engine < 768)) (s.tackIssue engine f tackSshl)

/-- SSHR (R205). -/
def execSshr (engine : Nat) (f : TackFields) (s : State) : Host.Outcome State Fault Refusal :=
  onUnit (decide (engine < 768)) (s.tackIssue engine f tackSshr)

/-- SMOVI (R205). -/
def execSmovi (engine : Nat) (f : TackFields) (s : State) : Host.Outcome State Fault Refusal :=
  onUnit (decide (engine < 768)) (s.tackIssue engine f tackSmovi)

/-- INS (R217). -/
def execIns (engine : Nat) (f : TackFields) (s : State) : Host.Outcome State Fault Refusal :=
  onUnit (decide (engine < 768)) (s.tackIssue engine f tackIns)

/-- OUTS (R217). -/
def execOuts (engine : Nat) (f : TackFields) (s : State) : Host.Outcome State Fault Refusal :=
  onUnit (decide (engine < 768)) (s.tackIssue engine f tackOuts)

/-- VLD (R206). -/
def execVld (engine : Nat) (f : TackFields) (s : State) : Host.Outcome State Fault Refusal :=
  onUnit (decide (engine < 768)) (s.tackIssue engine f tackVld)

/-- VST (R206). -/
def execVst (engine : Nat) (f : TackFields) (s : State) : Host.Outcome State Fault Refusal :=
  onUnit (decide (engine < 768)) (s.tackIssue engine f tackVst)

/-- VLDB (R206). -/
def execVldb (engine : Nat) (f : TackFields) (s : State) : Host.Outcome State Fault Refusal :=
  onUnit (decide (engine < 768)) (s.tackIssue engine f tackVldb)

/-- SLD (R206). -/
def execSld (engine : Nat) (f : TackFields) (s : State) : Host.Outcome State Fault Refusal :=
  onUnit (decide (engine < 768)) (s.tackIssue engine f tackSld)

/-- SST (R206). -/
def execSst (engine : Nat) (f : TackFields) (s : State) : Host.Outcome State Fault Refusal :=
  onUnit (decide (engine < 768)) (s.tackIssue engine f tackSst)

end Sys2Proof.Machine
end

