-- ==== Sys2Proof/Machine/Dispatch.lean ====
section
/-! DEFINITION. The meaning of each command: one arm per constructor of Instr. -/
namespace Sys2Proof.Machine

open Sys2Proof

def exec (i : Instr) (s : State) : Host.Outcome State Fault Refusal :=
  match i with
  | .cmdNop page c => Sys2Proof.Machine.execCmdNop page c s
  | .logRead page c => Sys2Proof.Machine.execLogRead page c s
  | .crcRun page c => Sys2Proof.Machine.execCrcRun page c s
  | .keyChange page c => Sys2Proof.Machine.execKeyChange page c s
  | .viEnable page c => Sys2Proof.Machine.execViEnable page c s
  | .viDisable page c => Sys2Proof.Machine.execViDisable page c s
  | .progPolicySet page c => Sys2Proof.Machine.execProgPolicySet page c s
  | .leaseOpen page c => Sys2Proof.Machine.execLeaseOpen page c s
  | .leaseRenew page c => Sys2Proof.Machine.execLeaseRenew page c s
  | .leaseClose page c => Sys2Proof.Machine.execLeaseClose page c s
  | .extGrant page c => Sys2Proof.Machine.execExtGrant page c s
  | .extRevoke page c => Sys2Proof.Machine.execExtRevoke page c s
  | .extQuery page c => Sys2Proof.Machine.execExtQuery page c s
  | .winSet page c => Sys2Proof.Machine.execWinSet page c s
  | .winSetDrained window => Sys2Proof.Machine.execWinSetDrained window s
  | .winClassSet page c => Sys2Proof.Machine.execWinClassSet page c s
  | .tblUpdate page c => Sys2Proof.Machine.execTblUpdate page c s
  | .tblUpdateDrained window => Sys2Proof.Machine.execTblUpdateDrained window s
  | .tblMissReply page c => Sys2Proof.Machine.execTblMissReply page c s
  | .nodeSet page c => Sys2Proof.Machine.execNodeSet page c s
  | .cohAgentAdd page c => Sys2Proof.Machine.execCohAgentAdd page c s
  | .cohAgentRemove page c => Sys2Proof.Machine.execCohAgentRemove page c s
  | .cohSet page c => Sys2Proof.Machine.execCohSet page c s
  | .stepSubmit page c => Sys2Proof.Machine.execStepSubmit page c s
  | .stepCancel page c => Sys2Proof.Machine.execStepCancel page c s
  | .stepScan page c => Sys2Proof.Machine.execStepScan page c s
  | .stepStampSet page c => Sys2Proof.Machine.execStepStampSet page c s
  | .progLoad page c => Sys2Proof.Machine.execProgLoad page c s
  | .progUnload page c => Sys2Proof.Machine.execProgUnload page c s
  | .engineSet page c => Sys2Proof.Machine.execEngineSet page c s
  | .clusterStats page c => Sys2Proof.Machine.execClusterStats page c s
  | .memSet page c => Sys2Proof.Machine.execMemSet page c s
  | .fordSet page c => Sys2Proof.Machine.execFordSet page c s
  | .memRemap page c => Sys2Proof.Machine.execMemRemap page c s
  | .memStats page c => Sys2Proof.Machine.execMemStats page c s
  | .memRemapList page c => Sys2Proof.Machine.execMemRemapList page c s
  | .scrubStart page c => Sys2Proof.Machine.execScrubStart page c s
  | .scrubAbort page c => Sys2Proof.Machine.execScrubAbort page c s
  | .linkSet page c => Sys2Proof.Machine.execLinkSet page c s
  | .linkStats page c => Sys2Proof.Machine.execLinkStats page c s
  | .xportSet page c => Sys2Proof.Machine.execXportSet page c s
  | .xportStats page c => Sys2Proof.Machine.execXportStats page c s
  | .schedSet page c => Sys2Proof.Machine.execSchedSet page c s
  | .viSchedSet page c => Sys2Proof.Machine.execViSchedSet page c s
  | .schedStats page c => Sys2Proof.Machine.execSchedStats page c s
  | .pairForm page c => Sys2Proof.Machine.execPairForm page c s
  | .pairAccept page c => Sys2Proof.Machine.execPairAccept page c s
  | .pairRole page c => Sys2Proof.Machine.execPairRole page c s
  | .pairResync page c => Sys2Proof.Machine.execPairResync page c s
  | .pairMend page c => Sys2Proof.Machine.execPairMend page c s
  | .pairSet page c => Sys2Proof.Machine.execPairSet page c s
  | .pairDissolve page c => Sys2Proof.Machine.execPairDissolve page c s
  | .pairCoordMove page c => Sys2Proof.Machine.execPairCoordMove page c s
  | .pairSync page c => Sys2Proof.Machine.execPairSync page c s
  | .pairStats page c => Sys2Proof.Machine.execPairStats page c s
  | .fwUpdate page c => Sys2Proof.Machine.execFwUpdate page c s
  | .fwActivate page c => Sys2Proof.Machine.execFwActivate page c s
  | .chainAddrSet page c => Sys2Proof.Machine.execChainAddrSet page c s
  | .clusterReset page c => Sys2Proof.Machine.execClusterReset page c s
  | .regionReset page c => Sys2Proof.Machine.execRegionReset page c s
  | .pkgReset page c => Sys2Proof.Machine.execPkgReset page c s
  | .goWhileBusy page => Sys2Proof.Machine.execGoWhileBusy page s
  | .statusW1c page value => Sys2Proof.Machine.execStatusW1c page value s
  | .eqEnable page value => Sys2Proof.Machine.execEqEnable page value s
  | .eqHeadWrite page value => Sys2Proof.Machine.execEqHeadWrite page value s
  | .counterReadClear page offset => Sys2Proof.Machine.execCounterReadClear page offset s
  | .registerWrite page offset width value => Sys2Proof.Machine.execRegisterWrite page offset width value s
  | .cvuInit complex unit ctl => Sys2Proof.Machine.execCvuInit complex unit ctl s
  | .cvuCheck complex unit ctl => Sys2Proof.Machine.execCvuCheck complex unit ctl s
  | .cvuData8 complex unit value => Sys2Proof.Machine.execCvuData8 complex unit value s
  | .cvuData16 complex unit value => Sys2Proof.Machine.execCvuData16 complex unit value s
  | .cvuData32 complex unit value => Sys2Proof.Machine.execCvuData32 complex unit value s
  | .cvuStatusClear complex unit value => Sys2Proof.Machine.execCvuStatusClear complex unit value s
  | .rcvChunk port offset => Sys2Proof.Machine.execRcvChunk port offset s
  | .rcvEnd port offset => Sys2Proof.Machine.execRcvEnd port offset s
  | .keySet port m => Sys2Proof.Machine.execKeySet port m s
  | .keyClear port m => Sys2Proof.Machine.execKeyClear port m s
  | .signKeySet port m => Sys2Proof.Machine.execSignKeySet port m s
  | .spdmRequest port r => Sys2Proof.Machine.execSpdmRequest port r s
  | .pageAccess p => Sys2Proof.Machine.execPageAccess p s
  | .rdUnc p => Sys2Proof.Machine.execRdUnc p s
  | .rdShared p => Sys2Proof.Machine.execRdShared p s
  | .rdOwn p => Sys2Proof.Machine.execRdOwn p s
  | .claim p => Sys2Proof.Machine.execClaim p s
  | .wrUnc p => Sys2Proof.Machine.execWrUnc p s
  | .atomicFetchAdd p => Sys2Proof.Machine.execAtomicFetchAdd p s
  | .atomicSwap p => Sys2Proof.Machine.execAtomicSwap p s
  | .atomicCas p => Sys2Proof.Machine.execAtomicCas p s
  | .atomicFp32Add p => Sys2Proof.Machine.execAtomicFp32Add p s
  | .atomicFetchMax p => Sys2Proof.Machine.execAtomicFetchMax p s
  | .copy p => Sys2Proof.Machine.execCopy p s
  | .wrBack p => Sys2Proof.Machine.execWrBack p s
  | .evictClean p => Sys2Proof.Machine.execEvictClean p s
  | .contribution p => Sys2Proof.Machine.execContribution p s
  | .maxExpReport p => Sys2Proof.Machine.execMaxExpReport p s
  | .anchorReceive region stream anchor => Sys2Proof.Machine.execAnchorReceive region stream anchor s
  | .gatherWr p => Sys2Proof.Machine.execGatherWr p s
  | .rspI p => Sys2Proof.Machine.execRspI p s
  | .rspS p => Sys2Proof.Machine.execRspS p s
  | .rspEvicted p => Sys2Proof.Machine.execRspEvicted p s
  | .answer p => Sys2Proof.Machine.execAnswer p s
  | .hostMemRead vi window offset len tag => Sys2Proof.Machine.execHostMemRead vi window offset len tag s
  | .hostMemWrite vi window offset data => Sys2Proof.Machine.execHostMemWrite vi window offset data s
  | .memRd port tag metaValue pa => Sys2Proof.Machine.execMemRd port tag metaValue pa s
  | .memWr port tag pa data => Sys2Proof.Machine.execMemWr port tag pa data s
  | .memClnEvct port pa => Sys2Proof.Machine.execMemClnEvct port pa s
  | .biRspS port pa => Sys2Proof.Machine.execBiRspS port pa s
  | .biRspI port pa => Sys2Proof.Machine.execBiRspI port pa s
  | .biConflict port pa => Sys2Proof.Machine.execBiConflict port pa s
  | .parkedRequestServe line => Sys2Proof.Machine.execParkedRequestServe line s
  | .snoopTimeout line agent => Sys2Proof.Machine.execSnoopTimeout line agent s
  | .lostDirtyMarkDone line => Sys2Proof.Machine.execLostDirtyMarkDone line s
  | .fillDone granule => Sys2Proof.Machine.execFillDone granule s
  | .missLimitExpire region window chunk => Sys2Proof.Machine.execMissLimitExpire region window chunk s
  | .leaseExpire vi => Sys2Proof.Machine.execLeaseExpire vi s
  | .revokeDrainStart extent => Sys2Proof.Machine.execRevokeDrainStart extent s
  | .revokeDrainEnd extent => Sys2Proof.Machine.execRevokeDrainEnd extent s
  | .revokeClear extent => Sys2Proof.Machine.execRevokeClear extent s
  | .revokeSnoopWaitEnd extent => Sys2Proof.Machine.execRevokeSnoopWaitEnd extent s
  | .engineTakeTile engine => Sys2Proof.Machine.execEngineTakeTile engine s
  | .stealRecordArrive cluster => Sys2Proof.Machine.execStealRecordArrive cluster s
  | .progReloadDone engine => Sys2Proof.Machine.execProgReloadDone engine s
  | .tileProgramEnd engine => Sys2Proof.Machine.execTileProgramEnd engine s
  | .commitBatchAccept engine => Sys2Proof.Machine.execCommitBatchAccept engine s
  | .stampWrite granule => Sys2Proof.Machine.execStampWrite granule s
  | .lambRatioCompute stream group => Sys2Proof.Machine.execLambRatioCompute stream group s
  | .streamEnd stream => Sys2Proof.Machine.execStreamEnd stream s
  | .engineFault engine cause => Sys2Proof.Machine.execEngineFault engine cause s
  | .tileWatchdog engine => Sys2Proof.Machine.execTileWatchdog engine s
  | .selfTestDone engine passed => Sys2Proof.Machine.execSelfTestDone engine passed s
  | .clusterResetFault cluster => Sys2Proof.Machine.execClusterResetFault cluster s
  | .clusterResetEnd cluster => Sys2Proof.Machine.execClusterResetEnd cluster s
  | .regionResetFault region => Sys2Proof.Machine.execRegionResetFault region s
  | .regionResetEnd region => Sys2Proof.Machine.execRegionResetEnd region s
  | .nop engine f => Sys2Proof.Machine.execNop engine f s
  | .vadd engine f => Sys2Proof.Machine.execVadd engine f s
  | .vsub engine f => Sys2Proof.Machine.execVsub engine f s
  | .vmul engine f => Sys2Proof.Machine.execVmul engine f s
  | .vfma engine f => Sys2Proof.Machine.execVfma engine f s
  | .vfnma engine f => Sys2Proof.Machine.execVfnma engine f s
  | .vdiv engine f => Sys2Proof.Machine.execVdiv engine f s
  | .vsqrt engine f => Sys2Proof.Machine.execVsqrt engine f s
  | .vmin engine f => Sys2Proof.Machine.execVmin engine f s
  | .vmax engine f => Sys2Proof.Machine.execVmax engine f s
  | .vabs engine f => Sys2Proof.Machine.execVabs engine f s
  | .vneg engine f => Sys2Proof.Machine.execVneg engine f s
  | .vmov engine f => Sys2Proof.Machine.execVmov engine f s
  | .vsel engine f => Sys2Proof.Machine.execVsel engine f s
  | .vbcast engine f => Sys2Proof.Machine.execVbcast engine f s
  | .vext engine f => Sys2Proof.Machine.execVext engine f s
  | .vins engine f => Sys2Proof.Machine.execVins engine f s
  | .vand engine f => Sys2Proof.Machine.execVand engine f s
  | .vor engine f => Sys2Proof.Machine.execVor engine f s
  | .vxor engine f => Sys2Proof.Machine.execVxor engine f s
  | .vshl engine f => Sys2Proof.Machine.execVshl engine f s
  | .vshr engine f => Sys2Proof.Machine.execVshr engine f s
  | .vcmp engine f => Sys2Proof.Machine.execVcmp engine f s
  | .pand engine f => Sys2Proof.Machine.execPand engine f s
  | .por engine f => Sys2Proof.Machine.execPor engine f s
  | .pnot engine f => Sys2Proof.Machine.execPnot engine f s
  | .pset engine f => Sys2Proof.Machine.execPset engine f s
  | .vcvt engine f => Sys2Proof.Machine.execVcvt engine f s
  | .pacc engine f => Sys2Proof.Machine.execPacc engine f s
  | .pget engine f => Sys2Proof.Machine.execPget engine f s
  | .pres engine f => Sys2Proof.Machine.execPres engine f s
  | .vpacc engine f => Sys2Proof.Machine.execVpacc engine f s
  | .vpget engine f => Sys2Proof.Machine.execVpget engine f s
  | .sadd engine f => Sys2Proof.Machine.execSadd engine f s
  | .ssub engine f => Sys2Proof.Machine.execSsub engine f s
  | .smul engine f => Sys2Proof.Machine.execSmul engine f s
  | .sfma engine f => Sys2Proof.Machine.execSfma engine f s
  | .sdiv engine f => Sys2Proof.Machine.execSdiv engine f s
  | .ssqrt engine f => Sys2Proof.Machine.execSsqrt engine f s
  | .smin engine f => Sys2Proof.Machine.execSmin engine f s
  | .smax engine f => Sys2Proof.Machine.execSmax engine f s
  | .siadd engine f => Sys2Proof.Machine.execSiadd engine f s
  | .sisub engine f => Sys2Proof.Machine.execSisub engine f s
  | .sand engine f => Sys2Proof.Machine.execSand engine f s
  | .sor engine f => Sys2Proof.Machine.execSor engine f s
  | .sshl engine f => Sys2Proof.Machine.execSshl engine f s
  | .sshr engine f => Sys2Proof.Machine.execSshr engine f s
  | .smovi engine f => Sys2Proof.Machine.execSmovi engine f s
  | .ins engine f => Sys2Proof.Machine.execIns engine f s
  | .outs engine f => Sys2Proof.Machine.execOuts engine f s
  | .vld engine f => Sys2Proof.Machine.execVld engine f s
  | .vst engine f => Sys2Proof.Machine.execVst engine f s
  | .vldb engine f => Sys2Proof.Machine.execVldb engine f s
  | .sld engine f => Sys2Proof.Machine.execSld engine f s
  | .sst engine f => Sys2Proof.Machine.execSst engine f s
  | .flowUnitTransmit port => Sys2Proof.Machine.execFlowUnitTransmit port s
  | .sequencedUnitReceive port unit fec => Sys2Proof.Machine.execSequencedUnitReceive port unit fec s
  | .controlUnitReceive port unit fec => Sys2Proof.Machine.execControlUnitReceive port unit fec s
  | .replayStart port r unit fec => Sys2Proof.Machine.execReplayStart port r unit fec s
  | .ack port n => Sys2Proof.Machine.execAck port n s
  | .nak port n => Sys2Proof.Machine.execNak port n s
  | .crdInc port n => Sys2Proof.Machine.execCrdInc port n s
  | .crdCum port vc n => Sys2Proof.Machine.execCrdCum port vc n s
  | .crdAudit port n => Sys2Proof.Machine.execCrdAudit port n s
  | .sluice port vc stop => Sys2Proof.Machine.execSluice port vc stop s
  | .weirEcho port content => Sys2Proof.Machine.execWeirEcho port content s
  | .wbAck region agent count => Sys2Proof.Machine.execWbAck region agent count s
  | .hb port n => Sys2Proof.Machine.execHb port n s
  | .down port => Sys2Proof.Machine.execDown port s
  | .config port record => Sys2Proof.Machine.execConfig port record s
  | .creditReturn port vc => Sys2Proof.Machine.execCreditReturn port vc s
  | .ackTimer port => Sys2Proof.Machine.execAckTimer port s
  | .nakResendTimer port => Sys2Proof.Machine.execNakResendTimer port s
  | .replayTimer port => Sys2Proof.Machine.execReplayTimer port s
  | .creditReportTimer port => Sys2Proof.Machine.execCreditReportTimer port s
  | .auditTimer port => Sys2Proof.Machine.execAuditTimer port s
  | .lossOfSignal port => Sys2Proof.Machine.execLossOfSignal port s
  | .trainAttempt port => Sys2Proof.Machine.execTrainAttempt port s
  | .detectEnd port detected => Sys2Proof.Machine.execDetectEnd port detected s
  | .trainDone port => Sys2Proof.Machine.execTrainDone port s
  | .trainTimeout port => Sys2Proof.Machine.execTrainTimeout port s
  | .retrainTimeout port => Sys2Proof.Machine.execRetrainTimeout port s
  | .sprayWeightUpdate die => Sys2Proof.Machine.execSprayWeightUpdate die s
  | .e2eTimeout die tag => Sys2Proof.Machine.execE2eTimeout die tag s
  | .asmTimeout die node ssg seq => Sys2Proof.Machine.execAsmTimeout die node ssg seq s
  | .accCtxExpire die node ssg => Sys2Proof.Machine.execAccCtxExpire die node ssg s
  | .rspHoldTimeout node => Sys2Proof.Machine.execRspHoldTimeout node s
  | .weirEchoSend die node col => Sys2Proof.Machine.execWeirEchoSend die node col s
  | .weirRateRecover node col => Sys2Proof.Machine.execWeirRateRecover node col s
  | .sluiceRenew die => Sys2Proof.Machine.execSluiceRenew die s
  | .sluiceLapse port vc => Sys2Proof.Machine.execSluiceLapse port vc s
  | .wbAckRefresh region => Sys2Proof.Machine.execWbAckRefresh region s
  | .shaperAdmit inst index => Sys2Proof.Machine.execShaperAdmit inst index s
  | .shaperSlotDue inst => Sys2Proof.Machine.execShaperSlotDue inst s
  | .wEffUpdate port => Sys2Proof.Machine.execWEffUpdate port s
  | .loadUpdate region => Sys2Proof.Machine.execLoadUpdate region s
  | .channelRequestArrive channel r => Sys2Proof.Machine.execChannelRequestArrive channel r s
  | .channelIssue channel => Sys2Proof.Machine.execChannelIssue channel s
  | .dramReadDone channel => Sys2Proof.Machine.execDramReadDone channel s
  | .refreshSlot channel => Sys2Proof.Machine.execRefreshSlot channel s
  | .catchUpRefresh channel => Sys2Proof.Machine.execCatchUpRefresh channel s
  | .neighbourRefreshForce channel => Sys2Proof.Machine.execNeighbourRefreshForce channel s
  | .entryStarved channel id => Sys2Proof.Machine.execEntryStarved channel id s
  | .starveLimit channel id => Sys2Proof.Machine.execStarveLimit channel id s
  | .scrubPassEnd region => Sys2Proof.Machine.execScrubPassEnd region s
  | .eventRecordWrite vi => Sys2Proof.Machine.execEventRecordWrite vi s
  | .pairCycleClose => Sys2Proof.Machine.execPairCycleClose s
  | .replCommitSend => Sys2Proof.Machine.execReplCommitSend s
  | .replRec r => Sys2Proof.Machine.execReplRec r s
  | .replMark entries => Sys2Proof.Machine.execReplMark entries s
  | .replCommit cycle => Sys2Proof.Machine.execReplCommit cycle s
  | .replAck cycle => Sys2Proof.Machine.execReplAck cycle s
  | .replAckTimeout => Sys2Proof.Machine.execReplAckTimeout s
  | .ctlMirror m => Sys2Proof.Machine.execCtlMirror m s
  | .cmpDigest granule digest => Sys2Proof.Machine.execCmpDigest granule digest s
  | .resyncRec r => Sys2Proof.Machine.execResyncRec r s
  | .resyncCursorSave region => Sys2Proof.Machine.execResyncCursorSave region s
  | .resyncSweepDone => Sys2Proof.Machine.execResyncSweepDone s
  | .heartbeatSend => Sys2Proof.Machine.execHeartbeatSend s
  | .pairHbFrame frame => Sys2Proof.Machine.execPairHbFrame frame s
  | .girth seq flags => Sys2Proof.Machine.execGirth seq flags s
  | .heartbeatMiss rein => Sys2Proof.Machine.execHeartbeatMiss rein s
  | .girthRenewSend coord => Sys2Proof.Machine.execGirthRenewSend coord s
  | .girthLapse coord => Sys2Proof.Machine.execGirthLapse coord s
  | .takeoverStart => Sys2Proof.Machine.execTakeoverStart s
  | .cinchClaim => Sys2Proof.Machine.execCinchClaim s
  | .cinchLineChange line high => Sys2Proof.Machine.execCinchLineChange line high s
  | .reqWaitExpire => Sys2Proof.Machine.execReqWaitExpire s
  | .keepaliveWrite => Sys2Proof.Machine.execKeepaliveWrite s
  | .actReleaseTimeout => Sys2Proof.Machine.execActReleaseTimeout s
  | .soloHoldEnd => Sys2Proof.Machine.execSoloHoldEnd s
  | .reinDownStale => Sys2Proof.Machine.execReinDownStale s
  | .capEvaluate die estimate => Sys2Proof.Machine.execCapEvaluate die estimate s
  | .pwrBrakeAssert => Sys2Proof.Machine.execPwrBrakeAssert s
  | .pwrBrakeRelease => Sys2Proof.Machine.execPwrBrakeRelease s
  | .thermalThreshold unit temp => Sys2Proof.Machine.execThermalThreshold unit temp s
  | .thermalTrip unit => Sys2Proof.Machine.execThermalTrip unit s
  | .dieCap value => Sys2Proof.Machine.execDieCap value s
  | .smbusArp addr => Sys2Proof.Machine.execSmbusArp addr s
  | .smbusWriteRefused code value => Sys2Proof.Machine.execSmbusWriteRefused code value s
  | .enum f => Sys2Proof.Machine.execEnum f s
  | .read f => Sys2Proof.Machine.execRead f s
  | .write f => Sys2Proof.Machine.execWrite f s
  | .reset f => Sys2Proof.Machine.execReset f s
  | .chnNodeWrite value => Sys2Proof.Machine.execChnNodeWrite value s
  | .chnRootDataWrite value => Sys2Proof.Machine.execChnRootDataWrite value s
  | .rootProgram slot => Sys2Proof.Machine.execRootProgram slot s
  | .rootRevoke slot => Sys2Proof.Machine.execRootRevoke slot s
  | .chainBypassOpen => Sys2Proof.Machine.execChainBypassOpen s
  | .vddAuxRise => Sys2Proof.Machine.execVddAuxRise s
  | .vddAuxFall => Sys2Proof.Machine.execVddAuxFall s
  | .mainRailFault rail => Sys2Proof.Machine.execMainRailFault rail s
  | .railOrderError rail => Sys2Proof.Machine.execRailOrderError rail s
  | .porRelease => Sys2Proof.Machine.execPorRelease s
  | .imageVerify => Sys2Proof.Machine.execImageVerify s
  | .bootReady => Sys2Proof.Machine.execBootReady s
  | .perstAssert port => Sys2Proof.Machine.execPerstAssert port s
  | .perstDeassert port => Sys2Proof.Machine.execPerstDeassert port s
  | .flr vi => Sys2Proof.Machine.execFlr vi s
  | .sriovEnable port numVfs => Sys2Proof.Machine.execSriovEnable port numVfs s
  | .hdmDbDisable port => Sys2Proof.Machine.execHdmDbDisable port s
  | .hostLinkDown port => Sys2Proof.Machine.execHostLinkDown port s
  | .controlWatchdog complex => Sys2Proof.Machine.execControlWatchdog complex s
  | .packageReset cause => Sys2Proof.Machine.execPackageReset cause s
  | .packageResetEnd => Sys2Proof.Machine.execPackageResetEnd s
  | .pllLockLoss pll => Sys2Proof.Machine.execPllLockLoss pll s
  | .hdmDbEnable port => Sys2Proof.Machine.execHdmDbEnable port s
  | .weirPaceRelease region => Sys2Proof.Machine.execWeirPaceRelease region s
  | .controlWatchdogEnd complex => Sys2Proof.Machine.execControlWatchdogEnd complex s
  | .chnRootDone => Sys2Proof.Machine.execChnRootDone s
  | .aClockStallEnd die => Sys2Proof.Machine.execAClockStallEnd die s

end Sys2Proof.Machine
end

