-- ==== Sys2Proof/Machine/Step.lean ====
section
/-! DEFINITION. One step of the block: the command at the front of the queue takes its effect. -/
namespace Sys2Proof.Machine

open Sys2Proof

/-- Take the command at the front and run it with the queue's rest. On an empty queue the block
idles for one tick of time (assumption 1), commands whose operands have what they waited for go on
(assumption 185), a flash that is being programmed is done (assumption 207), and scrub passes go on (assumption 218). -/
def step (s : State) : Host.Outcome State Fault Refusal :=
  match s.pending with
  | [] => .next ((State.flashDone { s with now := s.now + 1 }).wakeCommands).scrubTick
  | c :: rest => exec c { s with pending := rest }

/-- Put the command that a table word spells in front of the queue. No word of the table spells a
command. -/
def State.withFetchWord (s : State) (nbits w : Nat) : State :=
  match decodeTableWord nbits w with
  | some c => { s with pending := c :: s.pending }
  | none => s

end Sys2Proof.Machine
end

