-- ==== Sys2Proof/Safety.lean ====
section
/-! DEFINITION. The terms that claims about the part are stated in: what a safe state is, when a mailbox
command passes its checks and how it is answered, and what a command leaves alone. -/
namespace Sys2Proof.Machine

open Sys2Proof

/-- A step goes on: neither a fault nor a refusal. -/
def goesOn (o : Host.Outcome State Fault Refusal) : Prop := ∃ t, o = .next t

/-- Every command that waits is well formed. -/
def State.queueWf (s : State) : Prop := ∀ i ∈ s.pending, i.wf = true

/-- The pool memory has its canonical form. -/
def State.memOk (s : State) : Prop := Memory.wf s.dram.mem = true

/-- Keys strictly rising. -/
def keysRise {α : Type} (t : List (Nat × α)) : Prop := t.Pairwise (fun x y => x.1 < y.1)

/-- Every table of units lists its keys in rising order, so that no unit is listed twice. -/
def State.tablesOk (s : State) : Prop :=
  keysRise s.vis ∧ keysRise s.wins ∧ keysRise s.exts ∧ keysRise s.regions ∧ keysRise s.clusters ∧ keysRise s.engines ∧
  keysRise s.chans ∧ keysRise s.streams ∧ keysRise s.progs ∧ keysRise s.revokes ∧ keysRise s.complexes ∧
  keysRise s.hostPorts ∧ keysRise s.home.agents ∧ keysRise s.home.dir ∧ keysRise s.home.txns ∧
  keysRise s.fabric.nodes ∧ keysRise s.fabric.dies ∧ keysRise s.fabric.ports

/-! ### Mailbox commands (R384, R386 to R390) -/

/-- VI `p` exists, has no command in progress, and its serving complex and complex 0 are out of reset. -/
def mailboxFree (s : State) (p : Nat) : Prop :=
  p < 1024 ∧ s.viExists p = true ∧ (s.page p).busy = false ∧ (s.vi p).dropAnswer = false ∧
  s.complexUp (complexOf p) = true ∧ s.complexUp 0 = true

/-- Checks 1 to 6 of R387 pass: `lenOk` and `rsv` are the command's LENGTH and reserved fields, `f` its From
column, `lease` its L column. -/
def checksPass (s : State) (p op : Nat) (c : Cmd) (lenOk : Bool) (rsv : List (Nat × Nat × Nat)) (f : From)
    (lease : Bool) : Prop :=
  check1 c (cmdBytes c) lenOk rsv = none ∧ c.vi.toNat = p ∧ s.permits p f = true ∧
  ((tbit c.flags.toNat 0 || isCritical op) = true → ∃ k, (s.vi p).key = some k ∧ keyedOk k op c = true) ∧
  (isCritical op = true → (s.vi p).counter.toNat < c.counter.toNat) ∧
  (lease = true → s.leaseRuns p = true)

/-- A command that the mailbox takes and whose checks 1 to 6 pass. -/
def accepted (s : State) (p op : Nat) (c : Cmd) (lenOk : Bool) (rsv : List (Nat × Nat × Nat)) (f : From)
    (lease : Bool) : Prop :=
  mailboxFree s p ∧ checksPass s p op c lenOk rsv f lease

/-- No change has to reach a partner before an answer: no standby, and nothing outstanding for the VI (R344). -/
def alone (s : State) (p : Nat) : Prop :=
  s.mirrors = false ∧ s.mirrorOpen p = false

/-- The state in which an accepted command's own rules run: BUSY and TAKEN set, DONE clear, the buffer
written, the counter of a critical command advanced, the command in progress (R384, R389). -/
def taken (s : State) (p op : Nat) (c : Cmd) : State :=
  let prior := ((s.vi p).counter, (s.vi p).saved)
  let s := s.modPage p (fun g =>
    { g with cmdBuf := patch g.cmdBuf 0 (cmdHeader op c ++ c.body), busy := true, done := false, taken := false })
  let s := s.modPage p (fun g => { g with taken := true })
  let s := if isCritical op then s.modVi p (fun v => { v with counter := c.counter, saved := none }) else s
  s.modVi p (fun v => { v with cmd := some ⟨op, c, tbit c.flags.toNat 0, 0, none, prior⟩ })

/-- The command of VI `p` has its answer: DONE set, BUSY clear, LAST_TAG and LAST_STATUS as answered, no command
in progress (R383, R384). -/
def answered (t : State) (p : Nat) (c : Cmd) (status : Nat) : Prop :=
  (t.page p).done = true ∧ (t.page p).busy = false ∧ (t.page p).lastTag = c.tag ∧
  (t.page p).lastStatus = BitVec.ofNat 16 status ∧ (t.vi p).cmd = none

/-- The response buffer holds an answer OK to the command with a body (R391). -/
def bodyIs (s t : State) (p op : Nat) (c : Cmd) (body : Bytes) : Prop :=
  (t.page p).rspBuf =
    answerBytes (s.vi p).key (tbit c.flags.toNat 0) (answerHeader op stOK body.length noField 0 c) body

/-- The command of VI `p` is still in progress on an object: BUSY, not DONE. -/
def inProgress (t : State) (p op object : Nat) (c : Cmd) : Prop :=
  (t.page p).busy = true ∧ (t.page p).done = false ∧
  ∃ b, (t.vi p).cmd = some b ∧ b.opcode = op ∧ b.cmd = c ∧ b.object = object ∧ b.ready = none

/-- The number of the next request is larger than that of every request in the part, so that a number names
one request. -/
def State.numbersFresh (s : State) : Prop := ∀ w ∈ s.waiting, w.id < s.reqNo

/-! ### Requests for pool data -/

/-- The bytes of DRAM from `a` on. -/
def poolBytes (s : State) (a n : Nat) : Bytes := (List.range n).map (fun i => memByte s.dram.mem (a + i))

/-- Nothing stands between an access and the `n` bytes of DRAM at PA `a` (R17, R48, R49, R155, R328): the stack
serves, no granule is reserved, being filled, invalid or mirrored, and every word of them is clean. -/
def openAt (s : State) (a n : Nat) : Prop :=
  s.stackServes (stackOf a) = true ∧ s.dram.listed a n = [] ∧
  ∀ x, a ≤ x → x < a + n → s.isValid (granuleOf x) = true ∧ s.reservation (granuleOf x) = none ∧
    granuleOf x ∉ (s.region (regionOfGranule (granuleOf x))).fills ∧ s.mirroredAt (granuleOf x) = false

/-- An access of `n` bytes at an offset of a raw window passes checks 2 to 7 of R34 and finds its bytes of a
non-coherent, not mirrored extent open. -/
def plainAccess (s : State) (w o n : Nat) : Prop :=
  s.memOk ∧ s.numbersFresh ∧ s.cyc.roleStep = 0 ∧ s.pair.state.refusal = none ∧
  (s.win w).kind = 1 ∧ o + n ≤ (s.win w).limit ∧
  s.checkData (s.win w).extentId ((s.win w).basePa + o) n = none ∧
  (s.ext (s.win w).extentId).coherent = false ∧ (s.ext (s.win w).extentId).mirrored = false ∧
  openAt s ((s.win w).basePa + o) n

/-- The one packet that left toward a node between two states is the answer to a request (R255, R257, R281). -/
def repliedTo (s t : State) (p : Pkt) (status subop : Nat) (info : Word64) (data : Bytes) : Prop :=
  ∃ (o : OutPkt) (load : Nat), o.pkt = answerPkt s p load status subop info data ∧ o.dest = .node p.srcNode ∧
    ((t.outbox = s.outbox ++ [o] ∧ t.fabric.rspHold = s.fabric.rspHold) ∨
     (t.outbox = s.outbox ∧ ∃ since, t.fabric.rspHold = s.fabric.rspHold ++ [(o, since)]))

/-- The one packet that left toward host port `d` answers a request. -/
def repliedToHost (s t : State) (d status : Nat) (data : Bytes) : Prop :=
  ∃ o : OutPkt, o.pkt.ptype = 0x0A ∧ o.pkt.status = status ∧ o.pkt.payload = data ∧ o.dest = .host d ∧
    t.outbox = s.outbox ++ [o]

/-- A line of a coherent extent in an idle home (R65): its extent is ACTIVE under a running lease, no
transaction is open on it, and its 64 bytes are open. -/
def homeIdle (s : State) (line : Nat) : Prop :=
  s.memOk ∧ s.numbersFresh ∧ s.cyc.roleStep = 0 ∧ s.pair.state.refusal = none ∧ s.txn line = none ∧
  openAt s (64 * line) 64 ∧ s.leavingAgents = []

/-! ### Instructions of an engine (R195 to R199) -/

/-- Engine `e` issues its next instruction: it holds tile `r`, which is neither finished nor stale, and its
program is loaded; `c` is what surrounds the instruction. -/
def issues (s : State) (e : Nat) (r : TileRun) (c : Ctx) : Prop :=
  e < 768 ∧ (s.engine e).tile = some r ∧ s.tackCtx e = some c ∧ (s.engine e).reload = false ∧ r.finished = false ∧
  r.stale = false

/-- The engine as the instruction finds it: S30 is the strip and S31 its first shard element from the first
instruction of a strip on (R197). -/
def atIssue (s : State) (e : Nat) (r : TileRun) (c : Ctx) : Engine :=
  if r.index = 0 then
    ((s.engine e).setS 30 (BitVec.ofNat 64 c.strip)).setS 31 (BitVec.ofNat 64 (4096 * c.tile + c.elem c.strip 0))
  else s.engine e

/-- The elements that inlets and outlets have saturated in the strip so far, each of which counts once (R101, R201). -/
def stripConv (r : TileRun) : List (Nat × Nat) := if r.index = 0 then [] else r.conv

/-- The instruction has been issued: the engine is `g` at the next place of its program, the `sat` elements that it
saturated (those of inlets and outlets new to the strip) are counted for the stream's owner, and nothing else has changed.
`first` has a bit for each element of the gather source written so far. -/
def issuedAs (s t : State) (e : Nat) (r : TileRun) (c : Ctx) (g : Engine) (first sat : Nat) : Prop :=
  ∃ conv, stripConv r <:+ conv ∧ conv.length ≤ (stripConv r).length + sat ∧
  t = (s.setEngine e { g with
    tile := some (nextPlace c.prog (c.desc.step == 1#32) { r with firstOut := first, conv := conv, sat := r.sat || sat != 0 }) }).count
      (((s.stream r.entry.stream).map (·.owner)).getD 0) 0x3190 sat

/-- The instruction has faulted: the engine, as the instruction found it, ends its tile (R186, R217). -/
def faultsAs (s t : State) (e : Nat) (r : TileRun) (c : Ctx) (k : EngCause) : Prop :=
  t = (s.setEngine e (atIssue s e r c)).engineFault e k

/-- The scratch bytes of strip `n` of the inlet that an operand names, as (address, length): those of the elements that are
read (R199). -/
def inletBytes (c : Ctx) (code n : Nat) : List (Nat × Nat) :=
  let b := lget Bind.none c.prog.ins (code - 0x20)
  let w := (elemFmt b.afmt).bytes
  ((List.range c.width).filter (fun l => (!b.whole || c.real (c.elem n l)) && b.inside (c.elem n l))).map (fun l =>
    (areaBase b.area + b.off + c.elem n l * w, w))

/-- Those that source `k` (0: never a scalar) reads. -/
def sourceBytes (c : Ctx) (f : TackFields) (k : Nat) (field : BitVec 6) : List (Nat × Nat) :=
  if (k ≠ 0 ∧ f.ssel.toNat = k) ∨ field.toNat < 0x20 then [] else inletBytes c field.toNat c.strip

/-- The scratch bytes that an instruction reads, `g` being the engine as it finds it. -/
def bytesRead (c : Ctx) (g : Engine) (i : Instr) : List (Nat × Nat) :=
  match i with
  | .vsqrt _ f | .vabs _ f | .vneg _ f | .vmov _ f | .vshl _ f | .vshr _ f | .vext _ f | .pacc _ f | .vpacc _ f =>
    sourceBytes c f 1 f.src1
  | .vadd _ f | .vsub _ f | .vmul _ f | .vdiv _ f | .vmin _ f | .vmax _ f | .vsel _ f | .vand _ f | .vor _ f | .vxor _ f
  | .vcmp _ f => sourceBytes c f 1 f.src1 ++ sourceBytes c f 2 f.src2
  | .vfma _ f | .vfnma _ f => sourceBytes c f 1 f.src1 ++ sourceBytes c f 2 f.src2 ++ sourceBytes c f 3 f.src3
  | .vcvt _ f | .outs _ f | .vst _ f => sourceBytes c f 0 f.src1
  | .ins _ f => inletBytes c f.src1.toNat (addrX g f)
  | .vld _ f => [(workBase + addrX g f, 128)]
  | .vldb _ f => [(workBase + addrX g f, 4)]
  | .sld _ f => [(workBase + addrX g f, 8)]
  | _ => []

/-- No scratch byte that the instruction reads has a wrong parity bit (R177, R186). -/
def parityHolds (s : State) (e : Nat) (r : TileRun) (c : Ctx) (i : Instr) : Prop :=
  ∀ p ∈ bytesRead c (atIssue s e r c) i, (s.engine e).badAt p.1 p.2 = false

/-- The lane, strip or work address that an instruction names is there (R206, R217). -/
def inPlace (c : Ctx) (g : Engine) (i : Instr) : Bool :=
  match i with
  | .vins _ f | .vext _ f => decide ((g.sreg f.src2.toNat).toNat < lanesOf f.fmt.toNat)
  | .ins _ f => (lget Bind.none c.prog.ins (f.src1.toNat - 0x20)).holdsStrip c (addrX g f)
  | .outs _ f => (lget Bind.none c.prog.outs (f.dst.toNat - 0x28)).holdsStrip c (addrX g f)
  | .vld _ f | .vst _ f => workOk (addrX g f) 128
  | .vldb _ f => workOk (addrX g f) 4
  | .sld _ f | .sst _ f => workOk (addrX g f) 8
  | _ => true

/-- Lane `l` of a register value with lanes of `w` bits. -/
def laneOf (w v l : Nat) : Nat := v / 2 ^ (w * l) % 2 ^ w

/-- Lane `l` of source `k` (1 to 3) of an instruction, in a format: a scalar where SSEL names the source, else a
lane of a vector register or of an inlet's strip (R199, R202, R203). -/
def srcLane (c : Ctx) (g : Engine) (f : TackFields) (fmt k : Nat) (field : BitVec 6) (l : Nat) : Nat :=
  lget 0 (source c g fmt (f.ssel.toNat == k) field.toNat).1 l

/-- Lane `l` of predicate `n`. -/
def predLane (c : Ctx) (g : Engine) (n l : Nat) : Bool := lget false (c.pred g n) l

/-- A vector register takes new lanes: an active lane `new l`, another one zero under PZ or its old value. -/
def vectorTakes (g : Engine) (x fmt dst : Nat) (pz : Bool) (active : Nat → Bool) (new : Nat → Nat) : Prop :=
  ∀ l, l < lanesOf fmt → laneOf (laneBits fmt) x l =
    if active l then new l % 2 ^ laneBits fmt else if pz then 0 else laneOf (laneBits fmt) (tget 0 g.v dst) l

/-- The instruction ends with the lanes `new` in its destination: a vector register as `vectorTakes` says, and
nothing else of the engine; an outlet as `writeOutlet` says for its active lanes. -/
def lanesGoTo (s t : State) (e : Nat) (r : TileRun) (c : Ctx) (fmt : Nat) (f : TackFields) (pz : Bool)
    (active : Nat → Bool) (new : Nat → Nat) : Prop :=
  (f.dst.toNat < 0x20 →
    ∃ x sat, issuedAs s t e r c { atIssue s e r c with v := tset 0 (atIssue s e r c).v f.dst.toNat x } c.firstOut sat ∧
      vectorTakes (atIssue s e r c) x fmt f.dst.toNat pz active new) ∧
  (0x20 ≤ f.dst.toNat →
    ∃ o sat, o = writeOutlet c (atIssue s e r c) f.dst.toNat (lget Bind.none c.prog.outs (f.dst.toNat - 0x28)) c.strip
        ((List.range 128).map active) ((List.range (lanesOf fmt)).map new) ∧ issuedAs s t e r c o.eng o.firstOut sat)

/-! ### The pair -/

/-- Nothing waits for room in a dirty table (R361): no request, no message of an agent, no STEP_STAMP_SET. -/
def noCycleWait (s : State) : Prop :=
  (∀ w ∈ s.waiting, w.why ≠ .cycle) ∧ s.home.heldWb = [] ∧
  ∀ v ∈ s.vis, ∀ b, v.2.cmd = some b → b.opcode ≠ 0x0504 ∨ b.ready ≠ none

/-- Nothing of a pair waits: no exchange of roles, no change without the partner's answer, no held completion, no
PAIR_SYNC or PAIR_MEND, nothing that waits for a cycle. -/
def pairIdle (s : State) : Prop :=
  s.cyc.roleStep = 0 ∧ s.cyc.mirrorSent = [] ∧ s.cyc.late = [] ∧ s.cyc.heldAns = [] ∧ s.cyc.syncs = [] ∧ s.cyc.mends = [] ∧
  (∀ e ∈ s.streams, e.2.waitCycle = []) ∧ noCycleWait s ∧ ∀ w ∈ s.waiting, w.why ≠ .role

/-- The command of VI `p` has its result OK and is answered once the partner has taken its changes (R344). -/
def waitsPartner (t : State) (p : Nat) : Prop :=
  (t.page p).busy = true ∧ (t.page p).done = false ∧ ∃ b, (t.vi p).cmd = some b ∧ b.ready = some (stOK, [])

/-- The one new packet goes to the partner. -/
def toPartner (s t : State) (typ : Nat) (payload : Bytes) : Prop :=
  ∃ o : OutPkt, t.outbox = s.outbox ++ [o] ∧ o.dest = .rein ∧ o.pkt.ptype = typ ∧ o.pkt.payload = payload

/-- The partner's CTL_MIRROR is answered with a status and nothing else leaves. -/
def mirrorAnswered (s t : State) (status : Nat) : Prop :=
  ∃ o : OutPkt, t.outbox = s.outbox ++ [o] ∧ o.dest = .rein ∧ o.pkt.ptype = 0x0A ∧ o.pkt.status = status

/-! ### Resets -/

/-- A cluster with nothing in it: its engines hold no tile and keep no entry, no entry is queued, held or on its
way to or from it. -/
def clusterQuiet (s : State) (c : Nat) : Prop :=
  (∀ e, e / 8 = c → (s.engine e).tile = none ∧ (s.engine e).keep = none) ∧ (s.cluster c).queue = [] ∧
  (s.cluster c).heldOut = [] ∧ (∀ d, d / 8 = c / 8 → (s.cluster d).transit = []) ∧ s.waitersOn 0x0B01 c = []

/-- A region with nothing outstanding: no batch, record, miss or scrub pass, no request that waits in it, and quiet
clusters. -/
def regionQuiet (s : State) (g : Nat) : Prop :=
  (s.region g).commit = [] ∧ s.heldRecords g = [] ∧ (s.region g).miss = [] ∧ (s.region g).scrub = none ∧
  (∀ w ∈ s.waiting, w.inRegion g = false) ∧ ∀ c, c / 8 = g → clusterQuiet s c

/-- Nothing is outstanding in the package: no request, no open stream, no host agent, every region in reset and no
command that waits for one. -/
def packageQuiet (s : State) : Prop :=
  s.waiting = [] ∧ (∀ e ∈ s.streams, e.2.openNow = false) ∧ s.agent 0 = none ∧ s.agent 1 = none ∧
  ∀ g, g < 12 → (s.region g).inReset = true ∧ s.waitersOn 0x0B02 g = []

/-- Nothing waits for the return of complex `d`: no event owed, no lease due, no command in a buffer it serves. -/
def complexCalm (s : State) (d : Nat) : Prop :=
  (s.complex d).interrupted = [] ∧ (∀ v ∈ s.vis, v.2.lease.due = false) ∧
  ∀ v ∈ s.vis, complexOf v.1 = d → v.2.page.busy = false

/-- A frame that the part acts on: the bypass switch is open, the frame has the command and its CRC is right. -/
def frameFor (s : State) (f : Word64) (cmd : Nat) : Prop :=
  s.aon.bypassOpen = true ∧ frameCmd f = cmd ∧ frameCrc f = bitf f.toNat 7 0

/-! ### What a command leaves alone -/

/-- Between two states only port `p` has changed: it is `q` now. -/
def onlyPort (s t : State) (p : Nat) (q : Port) : Prop :=
  t = { s with fabric := { s.fabric with ports := t.fabric.ports } } ∧ t.port p = q ∧
  ∀ k, k ≠ p → t.port k = s.port k

/-- Between two states one port has changed: it is `q` now. A rate that no echo has set, toward a node whose number of
ACTIVE ports is another now, is kept where it stood (R275), and the moment since which the Rein link is down follows its
ports (R250). -/
def portMoved (s t : State) (p : Nat) (q : Port) : Prop :=
  t = { s with fabric := { s.fabric with
    ports := t.fabric.ports, rates := t.fabric.rates, reinDownAt := t.fabric.reinDownAt } } ∧
  t.port p = q ∧ (∀ k, k ≠ p → t.port k = s.port k) ∧
  (∀ k, (afind s.fabric.rates k).isSome → afind t.fabric.rates k = afind s.fabric.rates k) ∧
  (∀ k e, afind t.fabric.rates k = some e →
    afind s.fabric.rates k = some e ∨ e = (min (s.rateMax (k / 2)) (t.rateMax (k / 2)), 0, s.now)) ∧
  (t.fabric.reinDownAt = s.fabric.reinDownAt ∨ t.fabric.reinDownAt =
    if (t.port 64).linkUp || (t.port 65).linkUp then none else some (s.fabric.reinDownAt.getD s.now))

/-- Between two states only one channel has changed: it is `c` now. -/
def onlyChan (s t : State) (n : Nat) (c : Chan) : Prop :=
  t = { s with chans := t.chans } ∧ t.chan n = c ∧ ∀ k, k ≠ n → t.chan k = s.chan k

/-- Between two states only one link die has changed: it is `d` now. -/
def onlyDie (s t : State) (l : Nat) (d : LinkDie) : Prop :=
  t = { s with fabric := { s.fabric with dies := t.fabric.dies } } ∧ t.die l = d ∧
  ∀ k, k ≠ l → t.die k = s.die k

/-- The packet with the hint of R299 in it, where it is an answer. -/
def withBudget (o : OutPkt) (b : Nat) : OutPkt :=
  { o with pkt := { o.pkt with budget := if o.pkt.ptype = 0x0A then b else o.pkt.budget } }

/-- A port holds nothing that would be handed back, and no link die waits for an answer. -/
def quietPort (s : State) (p : Nat) : Prop :=
  (s.drainPort p).1 = [] ∧ ∀ l, l < 4 → (s.die l).sends = []

/-- Port `p` has gone down for a cause: it starts from DOWN with LINK_CTL as it was, counts one more DOWN, sends a
DOWN word, and LINK_DOWN is logged (R248). -/
def wentDown (s t : State) (p cause : Nat) : Prop :=
  (t.port p).state = .down ∧ (t.port p).since = s.now ∧ (t.port p).tx.buf = [] ∧ (t.port p).tx.next = 0 ∧
  (t.port p).rx.e = 0 ∧
  (t.port p).enable = (s.port p).enable ∧ (t.port p).autoTrain = (s.port p).autoTrain ∧
  (t.port p).replayN = (s.port p).replayN ∧ (t.port p).leakRetrain = (s.port p).leakRetrain ∧
  tget 0 (t.port p).stats 0x50 = tget 0 (s.port p).stats 0x50 + 1 ∧
  (t.port p).tx.last = flowUnit 0 0 (bypassWord 0xA 0) [] ctlSeed ∧
  t.log = s.log ++ [⟨lgLINK_DOWN, [p, cause, (s.port p).oldest.getD (s.port p).tx.next, (s.port p).tx.buf.length]⟩] ∧
  ∀ k, k ≠ p → t.port k = s.port k

/-- The pool's DRAM is as before: bytes, check bytes and valid bits. -/
def samePool (s t : State) : Prop := t.dram = s.dram

/-- Every byte of DRAM outside the mirror segments of the stacks reads as before, and so do the valid bits (R47). -/
def sameButMirrors (s t : State) : Prop :=
  t.dram.valid = s.dram.valid ∧
  ∀ x, (∀ g, g < 12 → x < metaBase g + 0x1000000 ∨ metaBase g + 0x5000000 ≤ x) → memByte t.dram.mem x = memByte s.dram.mem x

/-- Every byte of DRAM outside the built-in slots of the program areas reads as before. -/
def sameButPrograms (s t : State) : Prop :=
  ∀ x, (∀ g k, g < 12 → k < 5 → x < progAddr g (256 + k) ∨ progAddr g (256 + k) + 0x4800 ≤ x) →
    memByte t.dram.mem x = memByte s.dram.mem x

/-- The five built-in programs stand in the built-in slots of every region (R213). -/
def builtinsIn (t : State) : Prop :=
  ∀ g k, g < 12 → k < 5 → poolBytes t (progAddr g (256 + k)) 0x4800 = slice (Config.builtinImage k) 0 0x4800

/-- Every byte of DRAM outside a range reads as before. -/
def samePoolBut (s t : State) (a n : Nat) : Prop :=
  ∀ x, x < a ∨ a + n ≤ x → memByte t.dram.mem x = memByte s.dram.mem x

end Sys2Proof.Machine
end

