-- ==== Sys2Proof/Certificates/Slice0/Obligations.lean ====
section
/-! DEFINITION. The statements for the provers, each a proposition about the model that formalises rules of the
spec; OBLIGATIONS.json lists them with the rules they rest on. -/

open Sys2Proof Sys2Proof.Machine

/-- For every command and state, a step of the state whose queue has the command in front is exec of the command on
the state with the queue's rest; on an empty queue the step answers the state one tick later, in which a
firmware update that the flash has taken is answered, commands whose operands have what they waited for go on,
and each running scrub pass goes on by one granule (the model's choices, log entries 1, 185, 207 and 218); with
no such update, command or pass the state is the same but for the tick. (00_scope.md) -/
def Obligations.StepRunsTheFrontCommand : Prop :=
  ∀ (c : Instr) (q : List Instr) (s : State),
    (s.pending = c :: q → step s = exec c { s with pending := q }) ∧
    (s.pending = [] →
      step s = .next ((State.flashDone { s with now := s.now + 1 }).wakeCommands).scrubTick) ∧
    (s.pending = [] → s.boot.fwBusy = none → s.wakeable = [] → (∀ g, (s.region g).scrub = none) →
      step s = .next { s with now := s.now + 1 })

/-- State.reset: power-on reset held with BOOT_PHASE 0x01, no BOOT_ERR, not addressed and without a node ID, pair
state UNPAIRED, every region, cluster and link die in reset, every port DOWN, no extent, no window, no valid
granule, no stream, no running lease and no key; the registers MEM_CTL, FORD_CTL, LINK_CTL, XPORT_CTL,
SCHED_CTL, PAIR_CTL, COH_CTL, ENG_CTL and DIE_CAP at the reset values of their tables. Memory has its canonical
form (unlisted bytes read 0: log entry 3), every table of units is in rising order, and no request number is in
use. (15_boot_reset_and_chain.md, 12_memory_and_ras.md, 09_link_layer.md, 10_fabric_transport.md,
11_scheduling_and_latency.md, 13_pairing_and_failover.md, 03_coherence.md, 07_update_engines.md,
17_signals_power_package.md) -/
def Obligations.ResetHoldsTheReset : Prop :=
  let s := State.reset
  s.boot.phase = 0x01 ∧ s.boot.por = true ∧ s.boot.err = 0 ∧ s.aon.addressed = false ∧ s.aon.nodeValid = false ∧
  s.pair.state = .unpaired ∧ s.pending = [] ∧
  (∀ g, (s.region g).inReset = true ∧ (s.region g).tileLimit = 4 ∧ (s.region g).stealScope = 1) ∧
  (∀ k, (s.cluster k).inReset = true ∧ (s.cluster k).tiles = [] ∧ (s.cluster k).queue = []) ∧
  (∀ l, (s.die l).inReset = true ∧ (s.die l).ctxs = []) ∧
  (∀ p, (s.port p).state = .down ∧ (s.port p).leakRetrain = 0x100 ∧ (s.port p).replayN = 4 ∧
    (s.port p).autoTrain = true ∧ (s.port p).enable = true) ∧
  (∀ e, (s.ext e).state = .free) ∧ (∀ w, (s.win w).kind = 0 ∧ (s.win w).cls = 3) ∧ s.dram.valid = [] ∧
  s.streams = [] ∧ s.progs = [] ∧ s.waiting = [] ∧ s.opLooks = [] ∧ s.outbox = [] ∧ s.log = [] ∧
  (∀ v, s.leaseRuns v = false ∧ (s.vi v).key = none ∧ (s.vi v).counter = 0 ∧ (s.page v).eqEn = false ∧
    (s.page v).busy = false ∧ (s.page v).done = false) ∧
  (∀ n, (s.chan n).eddyTh = 0x20 ∧ (s.chan n).panicLo = 4 ∧ (s.chan n).panicHi = 8 ∧ (s.chan n).refPostpone = 4 ∧
    (s.chan n).panicEn = true ∧ (s.chan n).tickets = [0x40, 0x30, 0x20, 0x20, 0x10, 0x08, 0x20, 0x18] ∧
    (s.chan n).starveIe = true ∧ (s.chan n).starveLimit = 0x4E2 ∧
    (s.chan n).lfsr = 0xA5C30001#32 ^^^ (BitVec.ofNat 32 n * 0x01010101#32)) ∧
  s.fabric.weirAi = 0x10 ∧ s.fabric.e2eTimeout = 5 ∧ s.fabric.e2eRetry = 3 ∧
  s.sched.adapt = true ∧ s.sched.overhead = 0x14 ∧ s.sched.classes = (128, 16) :: List.replicate 7 (16, 64) ∧
  s.cyc.girth = 0x19 ∧ s.cyc.cycleCap = 4 ∧ s.cyc.cycleUs = 0x14 ∧ s.cyc.soloEn = true ∧ s.cyc.takeoverEn = true ∧
  s.home.drainUs = 0x32 ∧ s.home.snpTimeoutUs = 0x14 ∧ s.power.capEn = true ∧ s.power.capW = 0x108 ∧
  s.aon.smbAddr = 0x61 ∧ s.memOk ∧ s.tablesOk ∧ s.numbersFresh ∧ s.queueWf

/-- For every state whose memory has its canonical form (addresses strictly rising, no byte equal to what an
unlisted address reads as), a step that answers a next state leaves the memory in that form, whatever the
command. (01_package_and_levels.md, 02_addressing_and_translation.md, 12_memory_and_ras.md) -/
def Obligations.MemoryStaysCanonical : Prop :=
  ∀ (s t : State), s.memOk → step s = .next t → t.memOk

/-- For every command and state, exec answers a next state or the fault noSuchUnit; it refuses nothing.
(00_scope.md, 01_package_and_levels.md) -/
def Obligations.EveryCommandGoesOn : Prop :=
  ∀ (i : Instr) (s : State), goesOn (exec i s) ∨ exec i s = .fault .noSuchUnit

/-- For every catalogue command that an idle mailbox takes, written here for CMD_NOP (any VI), MEM_SET (PF only) and
LEASE_RENEW (any VI, L): a VI field that is not the page's is answered BOUND; a command from a VI that may not
issue it BOUND; with CHECKED and no key or a CHECK that does not verify AUTH_FAIL; an L command without a
running lease LEASE_EXPIRED. A refused command leaves DRAM, windows, extents, channels, regions and every other
VI as they were. GO_WHILE_BUSY: a GO while BUSY = 1 sets OVERRUN, counts once in CMD_OVERRUN and changes nothing
else of the VI's page; a command row that is sent to a busy mailbox does the same; before the part is ready a GO
is ignored. STATUS_W1C: writing 1 to bit 3 clears OVERRUN; no other bit of the write matters.
(14_virtual_interfaces_and_mailboxes.md) -/
def Obligations.MailboxesRefuseInOrder : Prop :=
  (
    ∀ (s : State) (p : Nat) (c : Cmd), mailboxFree s p →
      (check1 c (cmdBytes c) (lenIs c 0) [] = none → c.vi.toNat ≠ p →
        ∃ t, exec (.cmdNop p c) s = .next t ∧ answered t p c stBOUND ∧ samePool s t ∧ t.wins = s.wins ∧ t.exts = s.exts ∧
          ∀ v, v ≠ p → t.vi v = s.vi v) ∧
      (check1 c (cmdBytes c) (lenIs c 12) [(0, 2, 0xFFF), (2, 2, 0), (8, 4, 0xFF07FFE1)] = none → c.vi.toNat = p →
        isPf p = false →
        ∃ t, exec (.memSet p c) s = .next t ∧ answered t p c stBOUND ∧ samePool s t ∧ t.chans = s.chans ∧
          ∀ v, v ≠ p → t.vi v = s.vi v) ∧
      (check1 c (cmdBytes c) (lenIs c 0) [] = none → c.vi.toNat = p → tbit c.flags.toNat 0 = true →
        (∀ k, (s.vi p).key = some k → keyedOk k 0x0001 c = false) →
        ∃ t, exec (.cmdNop p c) s = .next t ∧ answered t p c stAUTH_FAIL ∧ samePool s t ∧
          ∀ v, v ≠ p → t.vi v = s.vi v) ∧
      (checksPass s p 0x0202 c (lenIs c 0) [] .any false → s.leaseRuns p = false →
        ∃ t, exec (.leaseRenew p c) s = .next t ∧ answered t p c stLEASE_EXPIRED ∧ samePool s t ∧
          ∀ v, v ≠ p → t.vi v = s.vi v)) ∧
  (
    ∀ (s : State) (p : Nat), p < 1024 → s.viExists p = true →
      (∀ c, s.ready = false → exec (.goWhileBusy p) s = .next s ∧ exec (.cmdNop p c) s = .next s) ∧
      (∀ c, s.ready = true → (s.page p).busy = true →
        exec (.goWhileBusy p) s = .next ((s.modPage p (fun g => { g with overrun := true })).count p 0x3018 1) ∧
        exec (.cmdNop p c) s = exec (.goWhileBusy p) s) ∧
      (∀ v : Word64, tbit v.toNat 3 = true →
        exec (.statusW1c p v) s = .next (s.modPage p (fun g => { g with overrun := false }))) ∧
      (∀ v : Word64, tbit v.toNat 3 = false → exec (.statusW1c p v) s = .next s))

/-- KEY_CHANGE, accepted, with no partner: answered OK; the issuing VI's new key is HMAC-SHA-384 under the old key
of the ASCII bytes PXK1, COUNTER and the 16-byte nonce that is the body; the last accepted counter, which the
accepted command made COUNTER, is kept; the answer carries no body and, when CHECKED, the keyed check under the
new key; nothing leaves the part but an MSI-X message, so no key crosses a link; no other VI changes. A COUNTER
at or below the last accepted one that is not the saved command's is answered REPLAY and changes neither key nor
counter. (R393) -/
def Obligations.KeyChangeReplacesTheKey : Prop :=
  ∀ (s : State) (p : Nat) (c : Cmd),
    (accepted s p 0x0101 c (lenIs c 16) [] .any false → alone s p →
      ∃ t k, exec (.keyChange p c) s = .next t ∧ answered t p c stOK ∧ (t.vi p).counter = c.counter ∧
        (s.vi p).key = some k ∧
        (t.vi p).key = some (hmac384 k (ascii "PXK1" ++ toLe 8 c.counter.toNat ++ slice c.body 0 16)) ∧
        (t.page p).rspBuf = answerBytes (t.vi p).key (tbit c.flags.toNat 0) (answerHeader 0x0101 stOK 0 noField 0 c) [] ∧
        (∀ o ∈ t.outbox, o ∈ s.outbox ∨ o.pkt = (s.page p).msixMsg 1) ∧
        samePool s t ∧ ∀ v, v ≠ p → t.vi v = s.vi v) ∧
    (mailboxFree s p → check1 c (cmdBytes c) (lenIs c 16) [] = none → c.vi.toNat = p →
      (∃ k, (s.vi p).key = some k ∧ keyedOk k 0x0101 c = true) → c.counter.toNat ≤ (s.vi p).counter.toNat →
      (∀ x, (s.vi p).saved = some x → c.counter = (s.vi p).counter → x.1 ≠ c.check) →
      ∃ t, exec (.keyChange p c) s = .next t ∧ answered t p c stREPLAY ∧ (t.vi p).key = (s.vi p).key ∧
        (t.vi p).counter = (s.vi p).counter)

/-- CMD_NOP, EXT_QUERY, MEM_REMAP_LIST, PAIR_STATS, PAIR_SYNC outside ACTIVE, and LOG_READ with nothing to give:
accepted, each is answered OK with the body of its rule, and leaves DRAM and every other VI as they were. A
LOG_READ whose operand is in another VI's window, from a VI that is no PF, is answered BOUND.
(14_virtual_interfaces_and_mailboxes.md, 12_memory_and_ras.md, 13_pairing_and_failover.md,
02_addressing_and_translation.md) -/
def Obligations.QueriesAnswerTheirRecords : Prop :=
  ∀ (s : State) (p : Nat) (c : Cmd),
    (accepted s p 0x0001 c (lenIs c 0) [] .any false →
      ∃ t, exec (.cmdNop p c) s = .next t ∧ answered t p c stOK ∧ bodyIs s t p 0x0001 c [] ∧ samePool s t ∧
        ∀ v, v ≠ p → t.vi v = s.vi v) ∧
    (accepted s p 0x0212 c (lenIs c 2) [] .any false →
      ((s.ext (arg c 0 2)).state = .free ∨ mayAct p (s.ext (arg c 0 2)).ownerVi = true) →
      ∃ t, exec (.extQuery p c) s = .next t ∧ answered t p c stOK ∧
        bodyIs s t p 0x0212 c (encodeExt (s.ext (arg c 0 2))) ∧ samePool s t ∧ t.exts = s.exts) ∧
    (accepted s p 0x0705 c (lenIs c 2) [] .pf false → arg c 0 2 < 384 →
      ∃ t, exec (.memRemapList p c) s = .next t ∧ answered t p c stOK ∧
        bodyIs s t p 0x0705 c ((s.chan (arg c 0 2)).remap.flatMap (fun e => toLe 4 (e.getD 0xFFFFFFFF))) ∧
        t.chans = s.chans) ∧
    (accepted s p 0x090A c (lenIs c 0) [] .any false →
      ∃ t, exec (.pairStats p c) s = .next t ∧ answered t p c stOK ∧ bodyIs s t p 0x090A c s.pairRecord ∧
        t.pair = s.pair ∧ t.cyc = s.cyc) ∧
    (accepted s p 0x0909 c (lenIs c 0) [] .any false → s.pair.state ≠ .active →
      ∃ t, exec (.pairSync p c) s = .next t ∧ answered t p c stOK ∧
        bodyIs s t p 0x0909 c (toLe 4 s.cyc.applied.toNat) ∧ t.cyc = s.cyc) ∧
    (accepted s p 0x0002 c (lenIs c 24) ((0, 1, 0xFF) :: (1, 3, 0) :: opRsv 8) .any false → arg c 0 1 = 0 →
      (s.foreignOp p (opArg c 8) = true → ∃ t, exec (.logRead p c) s = .next t ∧ answered t p c stBOUND ∧ samePool s t ∧
        t.log = s.log) ∧
      (s.foreignOp p (opArg c 8) = false → s.log.length ≤ arg c 4 4 →
        ∃ t, exec (.logRead p c) s = .next t ∧ answered t p c stOK ∧
          bodyIs s t p 0x0002 c (toLe 4 0 ++ toLe 4 (arg c 4 4)) ∧ t.log = s.log))

/-- MEM_SET, FORD_SET, XPORT_SET, SCHED_SET, COH_SET, ENGINE_SET (no online bit raised or lowered, no engine on its
way offline), PROG_POLICY_SET, accepted with every field in range: answered OK, the register of each named unit
holds the new fields, the units not named are unchanged, and DRAM is unchanged. A field of MEM_SET, XPORT_SET or
COH_SET that is out of range leaves its field and the answer is BOUND. (12_memory_and_ras.md,
10_fabric_transport.md, 11_scheduling_and_latency.md, 03_coherence.md, 07_update_engines.md,
08_tack_programs.md, 14_virtual_interfaces_and_mailboxes.md) -/
def Obligations.SettingsTakeTheirFields : Prop :=
  ∀ (s : State) (p : Nat) (c : Cmd),
    (accepted s p 0x0701 c (lenIs c 12) [(0, 2, 0xFFF), (2, 2, 0), (8, 4, 0xFF07FFE1)] .pf false →
      let v := arg c 8 4
      let okE := 1 ≤ bitf v 31 24 ∧ bitf v 31 24 ≤ 45
      let okP := bitf v 18 14 ≤ 30 ∧ 1 ≤ bitf v 13 9 ∧ bitf v 18 14 < bitf v 13 9
      let okR := bitf v 8 5 ≤ 8
      ∃ t, exec (.memSet p c) s = .next t ∧ (okE ∧ okP ∧ okR → answered t p c stOK) ∧
        (¬ (okE ∧ okP ∧ okR) → answered t p c stBOUND) ∧ samePool s t ∧ ∀ n, n < 384 →
        if tbit (arg c 0 2) (n / 32) && tbit (arg c 4 4) (n % 32) then
          (okE → (t.chan n).eddyTh = bitf v 31 24) ∧ (¬ okE → (t.chan n).eddyTh = (s.chan n).eddyTh) ∧
          (okP → (t.chan n).panicLo = bitf v 18 14 ∧ (t.chan n).panicHi = bitf v 13 9) ∧
          (¬ okP → (t.chan n).panicLo = (s.chan n).panicLo ∧ (t.chan n).panicHi = (s.chan n).panicHi) ∧
          (okR → (t.chan n).refPostpone = bitf v 8 5) ∧ (¬ okR → (t.chan n).refPostpone = (s.chan n).refPostpone) ∧
          (t.chan n).panicEn = tbit v 0 ∧ (t.chan n).tickets = (s.chan n).tickets ∧ (t.chan n).remap = (s.chan n).remap
        else t.chan n = s.chan n) ∧
    (accepted s p 0x0702 c (lenIs c 20) [(0, 2, 0xFFF), (2, 1, 3), (3, 1, 0), (16, 4, 0x1FFFF)] .pf false →
      arg c 2 1 = 3 → 200 ≤ arg c 16 2 →
      ∃ t, exec (.fordSet p c) s = .next t ∧ answered t p c stOK ∧ samePool s t ∧ ∀ n, n < 384 →
        if tbit (arg c 0 2) (n / 32) && tbit (arg c 4 4) (n % 32) then
          (t.chan n).tickets = (List.range 8).map (fun i => arg c (8 + i) 1) ∧
          (t.chan n).starveIe = tbit (arg c 16 4) 16 ∧ (t.chan n).starveLimit = arg c 16 2 ∧
          (t.chan n).panicHi = (s.chan n).panicHi
        else t.chan n = s.chan n) ∧
    (accepted s p 0x0803 c (lenIs c 4) [(0, 4, 0xFF7F07)] .pf false →
      let v := arg c 0 4
      let okA := 1 ≤ bitf v 23 16 ∧ bitf v 23 16 ≤ 128
      let okT := 1 ≤ bitf v 14 8 ∧ bitf v 14 8 ≤ 100
      let okR := bitf v 2 0 ≤ 4
      ∃ t, exec (.xportSet p c) s = .next t ∧ (okA ∧ okT ∧ okR → answered t p c stOK) ∧
        (¬ (okA ∧ okT ∧ okR) → answered t p c stBOUND) ∧
        (okA → t.fabric.weirAi = bitf v 23 16) ∧ (¬ okA → t.fabric.weirAi = s.fabric.weirAi) ∧
        (okT → t.fabric.e2eTimeout = bitf v 14 8) ∧ (¬ okT → t.fabric.e2eTimeout = s.fabric.e2eTimeout) ∧
        (okR → t.fabric.e2eRetry = bitf v 2 0) ∧ (¬ okR → t.fabric.e2eRetry = s.fabric.e2eRetry) ∧
        t.fabric.nodes = s.fabric.nodes ∧ t.fabric.ports = s.fabric.ports ∧ t.fabric.dies = s.fabric.dies ∧ samePool s t) ∧
    (accepted s p 0x0805 c (lenIs c 72) ([(0, 4, 0x100FF), (4, 1, 3), (5, 3, 0)] ++
        (List.range 8).flatMap (fun k => [(9 + 8 * k, 1, 0), (12 + 8 * k, 4, 0)])) .pf false →
      arg c 4 1 = 3 →
      (∀ k, k < 8 → 1 ≤ arg c (8 + 8 * k) 1 ∧ 1 ≤ arg c (10 + 8 * k) 2 ∧ arg c (10 + 8 * k) 2 ≤ 4096) →
      ((List.range 8).map (fun k => arg c (8 + 8 * k) 1)).sum ≤ 256 →
      ∃ t, exec (.schedSet p c) s = .next t ∧ answered t p c stOK ∧ t.sched.adapt = tbit (arg c 0 4) 16 ∧
        t.sched.overhead = arg c 0 1 ∧
        t.sched.classes = (List.range 8).map (fun k => (arg c (8 + 8 * k) 1, arg c (10 + 8 * k) 2)) ∧
        t.sched.shapers = s.sched.shapers ∧ t.sched.ports = s.sched.ports ∧ samePool s t) ∧
    (accepted s p 0x0403 c (lenIs c 4) [(0, 4, 0x3FFF03FF)] .pf false →
      let v := arg c 0 4
      let okD := 1 ≤ bitf v 29 16 ∧ bitf v 29 16 ≤ 10000
      let okT := 5 ≤ bitf v 9 0 ∧ bitf v 9 0 ≤ 1000
      ∃ t, exec (.cohSet p c) s = .next t ∧ (okD ∧ okT → answered t p c stOK) ∧ (¬ (okD ∧ okT) → answered t p c stBOUND) ∧
        (okD → t.home.drainUs = bitf v 29 16) ∧ (¬ okD → t.home.drainUs = s.home.drainUs) ∧
        (okT → t.home.snpTimeoutUs = bitf v 9 0) ∧ (¬ okT → t.home.snpTimeoutUs = s.home.snpTimeoutUs) ∧
        t.home.dir = s.home.dir ∧ t.home.agents = s.home.agents ∧ t.home.txns = s.home.txns ∧ samePool s t) ∧
    (accepted s p 0x0601 c (lenIs c 104) [(0, 2, 0xFFF), (2, 2, 0), (4, 4, 0xF03)] .pf false →
      bitf (arg c 4 4) 11 8 ≤ 8 → bitf (arg c 4 4) 1 0 ≤ 1 →
      (∀ e, e < 768 → tbit (arg c 0 2) (e / 64) = true →
        (s.engine e).online = tbit (arg c (8 + e / 8) 1) (e % 8) ∧ (s.engine e).leave = false) →
      ∃ t, exec (.engineSet p c) s = .next t ∧ answered t p c stOK ∧ samePool s t ∧
        (∀ e, e < 768 → t.engine e = s.engine e) ∧ ∀ g, g < 12 →
        if tbit (arg c 0 2) g then
          (t.region g).tileLimit = bitf (arg c 4 4) 11 8 ∧ (t.region g).stealScope = bitf (arg c 4 4) 1 0 ∧
          (t.region g).miss = (s.region g).miss
        else t.region g = s.region g) ∧
    (accepted s p 0x0104 c (lenIs c 1) [] .pf false → arg c 0 1 ≤ 1 →
      ∃ t, exec (.progPolicySet p c) s = .next t ∧ answered t p c stOK ∧
        (t.complex (complexOf p)).policy = arg c 0 1 ∧
        (∀ d, d ≠ complexOf p → t.complex d = s.complex d) ∧ t.progs = s.progs ∧ samePool s t)

/-- LINK_SET, VI_SCHED_SET, WIN_CLASS_SET and CHAIN_ADDR_SET, accepted with fields in range and with no partner:
answered OK; each named port's LINK_CTL holds the new fields and a disabled port is DOWN; the named VI's
scheduling entry is the new one and the classes of its windows are at least CLASS_MIN; the window's class is the
new one; the chain address is held and the node ID is valid, in force at once when every fabric port is DOWN and
pending otherwise. Ports, VIs and windows that are not named keep their entries. (09_link_layer.md,
11_scheduling_and_latency.md, 15_boot_reset_and_chain.md, 14_virtual_interfaces_and_mailboxes.md) -/
def Obligations.TableSettingsTakeTheirFields : Prop :=
  ∀ (s : State) (p : Nat) (c : Cmd),
    (accepted s p 0x0801 c (lenIs c 20) [(0, 16, 2 ^ 66 - 1), (16, 4, 0x3FF0F3)] .pf false →
      bitf (arg c 16 4) 7 4 ≠ 0 →
      ∃ t, exec (.linkSet p c) s = .next t ∧ (tbit (arg c 16 4) 0 = true → answered t p c stOK) ∧
        (∀ n, n < 66 → tbit (arg c 0 16) n = true →
          (tbit (arg c 16 4) 0 = true →
            (t.port n).leakRetrain = bitf (arg c 16 4) 21 12 ∧ (t.port n).replayN = bitf (arg c 16 4) 7 4 ∧
            (t.port n).autoTrain = tbit (arg c 16 4) 1 ∧ (t.port n).enable = true ∧ (t.port n).state = (s.port n).state) ∧
          (tbit (arg c 16 4) 0 = false → (t.port n).state = .down ∧ (t.port n).enable = false)) ∧
        (tbit (arg c 16 4) 0 = true → samePool s t ∧ ∀ n, tbit (arg c 0 16) n = false → t.port n = s.port n)) ∧
    (accepted s p 0x0806 c (lenIs c 16)
        [(0, 2, 0x3FF), (2, 6, 0), (8, 2, 0x3FFF), (10, 2, 0x1FFF), (13, 1, 7), (14, 2, 0)] .pf false → alone s p →
      mayAct p (arg c 0 2) = true → s.viExists (arg c 0 2) = true → arg c 8 2 ≤ 8192 → 1 ≤ arg c 10 2 → arg c 10 2 ≤ 4096 → 1 ≤ arg c 12 1 →
      ∃ t, exec (.viSchedSet p c) s = .next t ∧ answered t p c stOK ∧
        (t.vi (arg c 0 2)).sched = ⟨arg c 8 2, arg c 10 2, arg c 12 1, arg c 13 1⟩ ∧
        (∀ v, v ≠ arg c 0 2 → (t.vi v).sched = (s.vi v).sched) ∧
        (∀ w, w < 1024 → (t.win w).ownerVi = (s.win w).ownerVi ∧
          (t.win w).cls = if (s.win w).ownerVi = arg c 0 2 then max (s.win w).cls (arg c 13 1) else (s.win w).cls) ∧
        samePool s t) ∧
    (accepted s p 0x0302 c (lenIs c 3) [(2, 1, 7)] .any true → alone s p → arg c 0 2 < 1024 →
      mayAct p (s.win (arg c 0 2)).ownerVi = true → (s.vi (s.win (arg c 0 2)).ownerVi).sched.classMin ≤ arg c 2 1 →
      ∃ t, exec (.winClassSet p c) s = .next t ∧ answered t p c stOK ∧
        t.win (arg c 0 2) = { s.win (arg c 0 2) with cls := arg c 2 1 } ∧
        (∀ w, w ≠ arg c 0 2 → t.win w = s.win w) ∧ samePool s t) ∧
    (accepted s p 0x0A03 c (lenIs c 4) [(1, 1, 0), (2, 2, 0xFFF)] .pf false → alone s p → arg c 0 1 ≤ 63 →
      (arg c 2 2 = s.aon.nodeId ∨ s.pair.state = .unpaired) →
      ∃ t, exec (.chainAddrSet p c) s = .next t ∧ answered t p c stOK ∧ t.aon.addressed = true ∧
        t.aon.chainAddr = arg c 0 1 ∧ t.aon.nodeValid = true ∧
        ((∀ n, n < 64 → (s.port n).state = .down) → t.aon.nodeId = arg c 2 2 ∧ t.aon.pendingId = none) ∧
        ((∃ n, n < 64 ∧ (s.port n).state ≠ .down) → t.aon.nodeId = s.aon.nodeId ∧ t.aon.pendingId = some (arg c 2 2)) ∧
        t.aon.roots = s.aon.roots ∧ samePool s t)

/-- LEASE_OPEN, accepted without a running or ending lease and with a length of 100 to 60,000 ms, starts the VI's
lease: renewals from half its length (slow edge) and its end after its length (fast edge). LEASE_RENEW in the
renewal window starts it again with its length; before it the command is answered DUP_IGNORED, counts
LEASE_RENEW_EARLY and leaves the lease. LEASE_CLOSE and LEASE_EXPIRE end it: every ACTIVE extent of the VI is
RECLAIMING with a revocation under way, and every window it owned is disabled; LEASE_CLOSE is answered with
their number. With no partner; closing and expiry while the VI owns no agent and no window of its has an open
miss or a run in a mirror segment. (02_addressing_and_translation.md, 14_virtual_interfaces_and_mailboxes.md) -/
def Obligations.LeasesRunAndEnd : Prop :=
  ∀ (s : State) (p : Nat) (c : Cmd),
    (accepted s p 0x0201 c (lenIs c 4) [] .any false → alone s p → 100 ≤ arg c 0 4 → arg c 0 4 ≤ 60000 →
      s.leaseRuns p = false → (s.vi p).lease.due = false →
      ∃ t, exec (.leaseOpen p c) s = .next t ∧ answered t p c stOK ∧
        (t.vi p).lease = ⟨true, arg c 0 4, s.now + slowEdge s (ms (arg c 0 4) / 2), s.now + fastEdge s (ms (arg c 0 4)),
          false, false⟩ ∧ (∀ v, v ≠ p → t.vi v = s.vi v) ∧ samePool s t) ∧
    (accepted s p 0x0202 c (lenIs c 0) [] .any true → alone s p → (s.vi p).lease.renewAt ≤ s.now →
      ∃ t, exec (.leaseRenew p c) s = .next t ∧ answered t p c stOK ∧
        (t.vi p).lease = ⟨true, (s.vi p).lease.ms, s.now + slowEdge s (ms (s.vi p).lease.ms / 2),
          s.now + fastEdge s (ms (s.vi p).lease.ms), false, false⟩ ∧ (∀ v, v ≠ p → t.vi v = s.vi v) ∧ samePool s t) ∧
    (accepted s p 0x0202 c (lenIs c 0) [] .any true → s.now < (s.vi p).lease.renewAt →
      ∃ t, exec (.leaseRenew p c) s = .next t ∧ answered t p c stDUP ∧ (t.vi p).lease = (s.vi p).lease ∧
        tget 0 (t.vi p).ctr 0x3138 = tget 0 (s.vi p).ctr 0x3138 + 1) ∧
    (accepted s p 0x0203 c (lenIs c 0) [] .any true → alone s p → s.tablesOk → s.home.agents.all (fun a => a.2.vi != p) = true →
      s.regions.all (fun r => r.2.miss.all (fun m => (s.win m.window).ownerVi != p) &&
        r.2.mirror.all (fun x => (s.win x.window).ownerVi != p)) = true →
      ∃ t, exec (.leaseClose p c) s = .next t ∧ answered t p c stOK ∧ (t.vi p).lease.running = false ∧
        (t.vi p).lease.closed = true ∧
        (∀ e, (s.ext e).state = .active → (s.ext e).ownerVi = p →
          (t.ext e).state = .reclaiming ∧ ∃ r, afind t.revokes e = some r ∧ r.status = stREVOKED ∧ r.step = 2) ∧
        (∀ e, (s.ext e).state ≠ .active ∨ (s.ext e).ownerVi ≠ p → t.ext e = s.ext e) ∧
        (∀ w, (s.win w).ownerVi = p → (t.win w).kind = 0) ∧ (∀ w, (s.win w).ownerVi ≠ p → t.win w = s.win w) ∧
        samePool s t) ∧
    (p < 1024 → s.leaseRuns p = true → s.complexUp 0 = true → s.mirrors = false → s.tablesOk →
      s.home.agents.all (fun a => a.2.vi != p) = true →
      s.regions.all (fun r => r.2.miss.all (fun m => (s.win m.window).ownerVi != p) &&
        r.2.mirror.all (fun x => (s.win x.window).ownerVi != p)) = true →
      ∃ t, exec (.leaseExpire p) s = .next t ∧ t.now = max s.now (s.vi p).lease.endAt ∧
        (t.vi p).lease.running = false ∧ (t.vi p).lease.closed = false ∧
        (isTenant p = true → (t.vi p).enabled = false) ∧
        (∀ e, (s.ext e).state = .active → (s.ext e).ownerVi = p →
          (t.ext e).state = .reclaiming ∧ ∃ r, afind t.revokes e = some r ∧ r.status = stLEASE_EXPIRED ∧ r.step = 2) ∧
        (∀ w, (s.win w).ownerVi = p → (t.win w).kind = 0) ∧ samePool s t)

/-- EXT_GRANT and VI_ENABLE, accepted, with an ID that is FREE and not 0, granules of the pool that no other extent
holds, and for EXT_GRANT a holder whose lease runs: answered OK; the extent is ACTIVE with its range, holder and
flags and the next generation; every granule of it has valid bit 0 (so that it reads as zeros); no other extent
changes. VI_ENABLE also enables the tenant with its page node, reset right and page extent and opens its lease
if none runs. VI_DISABLE disables an enabled tenant, clears its counters, EQ_EN and DONE, and keeps its key,
counter, lease and extents. (02_addressing_and_translation.md, 14_virtual_interfaces_and_mailboxes.md) -/
def Obligations.ExtentsAreGranted : Prop :=
  ∀ (s : State) (p : Nat) (c : Cmd),
    (accepted s p 0x0210 c (lenIs c 16) [(2, 2, 3), (12, 2, 0x3FF), (14, 2, 0)] .pf false → alone s p →
      mayAct p (arg c 12 2) = true → s.viExists (arg c 12 2) = true → s.leaseRuns (arg c 12 2) = true →
      s.grantFault (arg c 0 2) (arg c 4 4) (arg c 8 4) = none →
      ∃ t, exec (.extGrant p c) s = .next t ∧ answered t p c stOK ∧
        t.ext (arg c 0 2) = ⟨arg c 4 4, arg c 8 4, arg c 12 2, .active, tbit (arg c 2 2) 0, tbit (arg c 2 2) 1,
          (s.ext (arg c 0 2)).generation + 1⟩ ∧
        (∀ e, e ≠ arg c 0 2 → t.ext e = s.ext e) ∧
        (∀ g, arg c 4 4 ≤ g → g < arg c 4 4 + arg c 8 4 → g ∉ t.dram.valid) ∧
        (∀ g, g < arg c 4 4 ∨ arg c 4 4 + arg c 8 4 ≤ g → (g ∈ t.dram.valid ↔ g ∈ s.dram.valid))) ∧
    (accepted s p 0x0102 c (lenIs c 16) [(0, 2, 0x3FF), (2, 2, 0x8FFF), (6, 2, 0)] .pf false → alone s p →
      isTenant (arg c 0 2) = true → mayAct p (arg c 0 2) = true → (s.vi (arg c 0 2)).enabled = false →
      100 ≤ arg c 12 4 → arg c 12 4 ≤ 60000 → s.grantFault (arg c 4 2) (arg c 8 4) 1 = none →
      ∃ t, exec (.viEnable p c) s = .next t ∧ answered t p c stOK ∧
        (t.vi (arg c 0 2)).enabled = true ∧ (t.vi (arg c 0 2)).pageNode = arg c 2 2 % 4096 ∧
        (t.vi (arg c 0 2)).resetRight = tbit (arg c 2 2) 15 ∧ (t.vi (arg c 0 2)).pageExt = arg c 4 2 ∧
        t.leaseRuns (arg c 0 2) = true ∧
        (s.leaseRuns (arg c 0 2) = true → (t.vi (arg c 0 2)).lease = (s.vi (arg c 0 2)).lease) ∧
        t.ext (arg c 4 2) = ⟨arg c 8 4, 1, arg c 0 2, .active, false, false, (s.ext (arg c 4 2)).generation + 1⟩ ∧
        (∀ e, e ≠ arg c 4 2 → t.ext e = s.ext e) ∧ arg c 8 4 ∉ t.dram.valid) ∧
    (accepted s p 0x0103 c (lenIs c 2) [(0, 2, 0x3FF)] .pf false → alone s p → isTenant (arg c 0 2) = true →
      mayAct p (arg c 0 2) = true → (s.vi (arg c 0 2)).enabled = true →
      ∃ t, exec (.viDisable p c) s = .next t ∧ answered t p c stOK ∧
        (t.vi (arg c 0 2)).enabled = false ∧ (t.page (arg c 0 2)).eqEn = false ∧ (t.page (arg c 0 2)).done = false ∧
        (t.vi (arg c 0 2)).key = (s.vi (arg c 0 2)).key ∧ (t.vi (arg c 0 2)).counter = (s.vi (arg c 0 2)).counter ∧
        (t.vi (arg c 0 2)).lease = (s.vi (arg c 0 2)).lease ∧ t.exts = s.exts ∧ samePool s t)

/-- EXT_REVOKE of an ACTIVE extent, accepted, puts it in REVOKING with a revocation at step 2 and its drain limit
0.5 µs and D after it, and stays in progress. REVOKE_DRAIN_START counts the requests and tiles in flight and
goes on to step 4. REVOKE_DRAIN_END with nothing left, and no commit or stream open, goes to step 6 with
everything counted as drained (for an extent that is mirrored in ACTIVE first to step 5, with the open cycle to
wait for). REVOKE_CLEAR of a non-coherent extent frees it and ends the revocation; of a coherent one it goes to
step 7. REVOKE_SNOOP_WAIT_END frees it. A freed extent has no valid granule, and no raw window on it is enabled.
With complex 0 up, and no request kept in the mesh by a full pending queue. (02_addressing_and_translation.md,
03_coherence.md, 16_mode_combinations.md) -/
def Obligations.RevocationRunsItsSteps : Prop :=
  ∀ (s : State) (e : Nat), s.complexUp 0 = true → e < 65536 → s.tablesOk → (∀ w ∈ s.waiting, ∀ g, w.why ≠ .mesh g) →
    (∀ (p : Nat) (c : Cmd), accepted s p 0x0211 c (lenIs c 2) [] .any false → arg c 0 2 = e →
      (s.ext e).state = .active → mayAct p (s.ext e).ownerVi = true →
      ∃ t, exec (.extRevoke p c) s = .next t ∧ inProgress t p 0x0211 e c ∧
        t.ext e = { s.ext e with state := .revoking } ∧ (∀ x, x ≠ e → t.ext x = s.ext x) ∧
        (∃ r, afind t.revokes e = some r ∧ r.step = 2 ∧ r.status = stREVOKED ∧ r.t0 = s.now ∧
          r.drainEnd = s.now + ns 500 + fastEdge s (us s.home.drainUs)) ∧ samePool s t) ∧
    (∀ r, afind s.revokes e = some r →
      (r.step = 2 →
        ∃ t, exec (.revokeDrainStart e) s = .next t ∧ t.now = max s.now (r.t0 + ns 500) ∧ t.exts = s.exts ∧ samePool s t ∧
          ∃ q, afind t.revokes e = some q ∧ q.step = 4 ∧ q.status = r.status ∧
            (∀ i, i ∈ q.inFlight ↔ ∃ w ∈ s.waiting, w.id = i ∧ w.uses e = true)) ∧
      (r.step = 4 → s.stillOpen r.inFlight r.tiles = ([], []) → s.streams = [] →
        s.regions.all (fun g => g.2.commit.isEmpty) = true →
        ∃ t, exec (.revokeDrainEnd e) s = .next t ∧ t.exts = s.exts ∧ samePool s t ∧
          ∃ q, afind t.revokes e = some q ∧
            ((s.ext e).mirrored = true ∧ s.pair.state = .active → q.step = 5 ∧ q.cycleWait = some s.cyc.cycle) ∧
            (¬ ((s.ext e).mirrored = true ∧ s.pair.state = .active) →
              q.step = 6 ∧ q.aborted = r.aborted ∧ q.drained = r.drained + (r.inFlight.length + r.tiles.length))) ∧
      (r.step = 6 → (s.ext e).coherent = true → s.extTxns e = [] → s.extLines e = [] →
        s.waitersFor (fun y => match y.line? with
          | some l => ((s.extentOf (granuleOf (64 * l))).map (·.1)) == some e
          | none => false) = [] →
        ∃ t, exec (.revokeClear e) s = .next t ∧
          ∃ q, afind t.revokes e = some q ∧ q.step = 7 ∧ q.cohWait = s.now + fastEdge s (ns 1500)) ∧
      ((r.step = 6 ∧ (s.ext e).coherent = false) ∨ r.step = 7 →
        ∀ i, i = (if r.step = 6 then Instr.revokeClear e else Instr.revokeSnoopWaitEnd e) →
        ∃ t, exec i s = .next t ∧ (t.ext e).state = .free ∧ afind t.revokes e = none ∧
          (∀ g, (s.ext e).first ≤ g → g < (s.ext e).first + (s.ext e).count → g ∉ t.dram.valid) ∧
          (∀ w, ¬ ((t.win w).kind = 1 ∧ (t.win w).extentId = e)) ∧ (∀ x, x ≠ e → t.ext x = s.ext x)))

/-- WIN_SET, accepted, of a window that the issuer may write, with a descriptor that R35 to R37 do not refuse, no
request or tile under the old one, no open miss of the window, no waiting operand and no partner: answered OK,
the window holds the descriptor with its class raised to the owner's CLASS_MIN, every other window is unchanged,
and no mirror or cache entry of a window that left translation or changed its page size is left. Of a window
that the issuer may not write it is answered BOUND. With requests under the old descriptor it stays in progress;
WIN_SET_DRAINED and TBL_UPDATE_DRAINED, when these have ended, answer it (for TBL_UPDATE with TBL_SEQ set).
TBL_UPDATE of the next sequence number that inserts one run into a window without runs: answered OK, TBL_SEQ is
the number, and each region to which a chunk of the run hashes has the run in its mirror. Of DRAM these change
mirror segments alone. TBL_MISS_REPLY that names no open miss is answered DUP_IGNORED; one that names a miss
without waiters closes it. (02_addressing_and_translation.md) -/
def Obligations.WindowsTakeTheirDescriptors : Prop :=
  ∀ (s : State) (p : Nat) (c : Cmd), s.tablesOk →
    (accepted s p 0x0301 c (lenIs c 40)
        [(2, 6, 0), (8, 1, 0x1F), (9, 1, 3), (10, 2, 0x3FF), (14, 2, 0), (16, 8, 2 ^ 43 - 1), (24, 8, 2 ^ 40 - 1),
         (38, 2, 0)] .any true → alone s p → arg c 0 2 < 1024 →
      (if isPf p then (s.win (arg c 0 2)).kind = 0 ∨ complexOf (s.win (arg c 0 2)).ownerVi = complexOf p
        else (s.win (arg c 0 2)).ownerVi = p) →
      ∀ d, s.winFault p (arg c 0 2) (slice (cmdBytes c) 8 32) = none → parseWin (slice (cmdBytes c) 8 32) = some d →
      s.regions.all (fun r => r.2.miss.all (fun m => m.window != arg c 0 2)) = true → s.opLooks = [] →
      (s.reqsOn (arg c 0 2) = [] → s.tilesOn (arg c 0 2) (fun _ _ => true) = [] →
        ∃ t, exec (.winSet p c) s = .next t ∧ answered t p c stOK ∧
          t.win (arg c 0 2) = { d with cls := max (s.win (arg c 0 2)).cls (s.vi d.ownerVi).sched.classMin } ∧
          (∀ w, w ≠ arg c 0 2 → t.win w = s.win w) ∧ t.exts = s.exts ∧ sameButMirrors s t ∧
          ((s.win (arg c 0 2)).kind ≠ 2 → samePool s t) ∧
          ((s.win (arg c 0 2)).kind = 2 → (d.kind ≠ 2 ∨ d.pageSize ≠ (s.win (arg c 0 2)).pageSize) →
            ∀ g, (∀ r ∈ (t.region g).mirror, r.window ≠ arg c 0 2) ∧ ∀ r ∈ (t.region g).tcache, r.window ≠ arg c 0 2)) ∧
      (s.reqsOn (arg c 0 2) ≠ [] →
        ∃ t, exec (.winSet p c) s = .next t ∧ inProgress t p 0x0301 (arg c 0 2) c ∧
          t.win (arg c 0 2) = { d with cls := max (s.win (arg c 0 2)).cls (s.vi d.ownerVi).sched.classMin } ∧
          ∃ x ∈ t.drains, x.window = arg c 0 2 ∧ x.vi = p ∧ x.seq = none ∧ x.reqs = s.reqsOn (arg c 0 2))) ∧
    (checksPass s p 0x0301 c (lenIs c 40)
        [(2, 6, 0), (8, 1, 0x1F), (9, 1, 3), (10, 2, 0x3FF), (14, 2, 0), (16, 8, 2 ^ 43 - 1), (24, 8, 2 ^ 40 - 1),
         (38, 2, 0)] .any false → mailboxFree s p → arg c 0 2 < 1024 →
      ¬ (if isPf p then (s.win (arg c 0 2)).kind = 0 ∨ complexOf (s.win (arg c 0 2)).ownerVi = complexOf p
        else (s.win (arg c 0 2)).ownerVi = p) →
      ∃ t, exec (.winSet p c) s = .next t ∧ answered t p c stBOUND ∧ t.wins = s.wins ∧ samePool s t) ∧
    (∀ (w : Nat) (d : Drain) (b : Busy), w < 1024 → d ∈ s.drains → s.stillOpen d.reqs d.tiles = ([], []) →
      alone s d.vi → (s.vi d.vi).cmd = some b → (s.vi d.vi).dropAnswer = false → d.wake = [] →
      (∀ q ∈ s.waiting, ∀ g, q.why ≠ .mesh g) →
      (s.drains.find? (fun x => x.window == w && x.seq.isSome == false) = some d →
        ∃ t, exec (.winSetDrained w) s = .next t ∧ answered t d.vi b.cmd stOK ∧ t.drains = s.drains.erase d ∧
          t.wins = s.wins ∧ samePool s t) ∧
      (∀ n, s.drains.find? (fun x => x.window == w && x.seq.isSome == true) = some d → d.seq = some n →
        ∃ t, exec (.tblUpdateDrained w) s = .next t ∧ answered t d.vi b.cmd stOK ∧ t.drains = s.drains.erase d ∧
          t.win w = { s.win w with tblSeq := n } ∧ samePool s t)) ∧
    (∀ r, accepted s p 0x0303 c (lenIs c (16 + 16 * arg c 2 1)) [(3, 1, 0), (8, 2, 0x8FFF), (10, 6, 0)] .any true →
      alone s p → arg c 0 2 < 1024 → (s.win (arg c 0 2)).kind = 2 → mayAct p (s.win (arg c 0 2)).ownerVi = true →
      arg c 2 1 = 1 → tbit (arg c 8 2) 15 = false →
      BitVec.ofNat 32 (arg c 4 4) = (s.win (arg c 0 2)).tblSeq + 1 → s.runsOf (arg c 0 2) = [] →
      parseRun (slice (cmdBytes c) 16 16) = some (true, r) →
      s.checkEntries (arg c 0 2) (s.win (arg c 0 2)) [some (true, r)] [] = none →
      s.waiting = [] → s.heldTiles = [] → s.opLooks = [] →
      s.regions.all (fun g => g.2.miss.isEmpty && g.2.commit.isEmpty) = true →
      ∃ t, exec (.tblUpdate p c) s = .next t ∧ answered t p c stOK ∧
        t.win (arg c 0 2) = { s.win (arg c 0 2) with tblSeq := BitVec.ofNat 32 (arg c 4 4) } ∧
        (∀ g ∈ r.regions, r ∈ (t.region g).mirror) ∧ (∀ w, w ≠ arg c 0 2 → t.win w = s.win w) ∧ sameButMirrors s t) ∧
    (accepted s p 0x0304 c (lenIs c 4) [(2, 2, 0x0FFF)] .any true → arg c 0 2 < 1024 → (s.win (arg c 0 2)).kind = 2 →
      mayAct p (s.win (arg c 0 2)).ownerVi = true →
      (s.missOf (arg c 0 2) (arg c 2 2) = none →
        ∃ t, exec (.tblMissReply p c) s = .next t ∧ answered t p c stDUP ∧ t.regions = s.regions ∧ samePool s t) ∧
      (∀ g k, s.missOf (arg c 0 2) (arg c 2 2) = some (g, k) → s.waiting = [] → s.streams = [] → s.opLooks = [] →
        (∀ e ∈ s.engines, e.2.claim = none) →
        ∃ t, exec (.tblMissReply p c) s = .next t ∧ answered t p c stOK ∧
          (∀ m ∈ (t.region g).miss, ¬ (m.window = arg c 0 2 ∧ m.chunk = k)) ∧ samePool s t))

/-- NODE_SET of one entry for another node, accepted with at most 512 COL sources and with no message or answer on
its way: answered OK with the COL grant, and the node table holds the entry and no other change. COH_AGENT_ADD
of a node without an agent: the lowest free index from 2 on lists the node and the issuing VI, and the answer
gives it; of a node with an agent of the VI: DUP_IGNORED. COH_AGENT_REMOVE of an agent that holds no line and
has no snoop to answer: it is no agent any more; while it has a snoop to answer the command stays in progress.
With no partner. (10_fabric_transport.md, 03_coherence.md) -/
def Obligations.NodesAndAgentsAreListed : Prop :=
  ∀ (s : State) (p : Nat) (c : Cmd), alone s p →
    (∀ x, accepted s p 0x0305 c (lenIs c (8 + 16 * arg c 2 2)) [(4, 4, 0)] .pf false → arg c 2 2 = 1 →
      arg c 0 2 < 4096 → arg c 0 2 ≠ s.aon.nodeId → parseNode (slice (cmdBytes c) 8 16) = some x →
      colSources (tset NodeEnt.reset s.fabric.nodes (arg c 0 2) x) ≤ 512 →
      (∀ l, l < 4 → (s.die l).sends = []) → s.fabric.rspHold = [] →
      ∃ t, exec (.nodeSet p c) s = .next t ∧ answered t p c stOK ∧ t.node (arg c 0 2) = x ∧
        bodyIs s t p 0x0305 c (toLe 4 (colGrant (colSources (tset NodeEnt.reset s.fabric.nodes (arg c 0 2) x)))) ∧
        (∀ n, n ≠ arg c 0 2 → t.node n = s.node n) ∧ t.fabric.ports = s.fabric.ports ∧ samePool s t) ∧
    (∀ x, accepted s p 0x0401 c (lenIs c 2) [] .any true → arg c 0 2 < 4096 → s.agentOfNode (arg c 0 2) = none →
      (span 2 254).find? (fun i => (s.agent i).isNone) = some x →
      ∃ t, exec (.cohAgentAdd p c) s = .next t ∧ answered t p c stOK ∧ t.agent x = some ⟨arg c 0 2, p, false⟩ ∧
        bodyIs s t p 0x0401 c (toLe 1 x) ∧ (∀ y, y ≠ x → t.agent y = s.agent y) ∧ t.home.dir = s.home.dir ∧ samePool s t) ∧
    (∀ x, accepted s p 0x0401 c (lenIs c 2) [] .any true → arg c 0 2 < 4096 → s.agentOfNode (arg c 0 2) = some x →
      mayAct p (((s.agent x).map (·.vi)).getD 0) = true →
      ∃ t, exec (.cohAgentAdd p c) s = .next t ∧ answered t p c stDUP ∧ t.home.agents = s.home.agents ∧
        t.home.dir = s.home.dir ∧ t.home.txns = s.home.txns) ∧
    (∀ a, accepted s p 0x0402 c (lenIs c 1) [] .any true → s.agent (arg c 0 1) = some a → mayAct p a.vi = true →
      s.linesOf (arg c 0 1) = [] →
      (s.snooped (arg c 0 1) = false →
        ∃ t, exec (.cohAgentRemove p c) s = .next t ∧ answered t p c stOK ∧ t.agent (arg c 0 1) = none ∧
          (∀ y, y ≠ arg c 0 1 → t.agent y = s.agent y) ∧ t.home.dir = s.home.dir ∧ samePool s t) ∧
      (s.snooped (arg c 0 1) = true →
        ∃ t, exec (.cohAgentRemove p c) s = .next t ∧ inProgress t p 0x0402 (arg c 0 1) c ∧ t.home = s.home ∧ samePool s t))

/-- CLUSTER_STATS, MEM_STATS, LINK_STATS, XPORT_STATS and SCHED_STATS, accepted with an operand that takes all
records and whose write succeeds: answered OK with the byte count, the pool is as that write leaves it, and the
fields that a read clears (QUEUE_MAX; the RC fields of a channel; the maxima of a port and a link die; EXCESS of
a scheduled port) are clear, and QUEUED_MAX starts again at the bytes queued. A shorter operand is answered
BOUND and nothing is written. (07_update_engines.md, 12_memory_and_ras.md, 09_link_layer.md,
10_fabric_transport.md, 11_scheduling_and_latency.md, 14_virtual_interfaces_and_mailboxes.md) -/
def Obligations.StatisticsAreWritten : Prop :=
  ∀ (s u : State) (p : Nat) (c : Cmd),
    (accepted s p 0x0603 c (lenIs c 16) (opRsv 0) .pf false →
      ((opArg c 0).len < 6144 → ∃ t, exec (.clusterStats p c) s = .next t ∧ answered t p c stBOUND ∧ samePool s t) ∧
      (6144 ≤ (opArg c 0).len →
        (taken s p 0x0603 c).writeOp (.cmd p) (opArg c 0) ((List.range 96).flatMap (taken s p 0x0603 c).clusterRecord) = (0, u) →
        ∃ t, exec (.clusterStats p c) s = .next t ∧ answered t p c stOK ∧ bodyIs s t p 0x0603 c (toLe 4 6144) ∧
          t.dram = u.dram ∧ ∀ k, k < 96 → t.cluster k = { s.cluster k with queueMax := 0 })) ∧
    (accepted s p 0x0704 c (lenIs c 16) (opRsv 0) .pf false → ∀ r,
      r = (List.range 384).flatMap (fun n => (s.chan n).record s.now) → r.length ≤ (opArg c 0).len →
      (taken s p 0x0704 c).writeOp (.cmd p) (opArg c 0) r = (0, u) →
      ∃ t, exec (.memStats p c) s = .next t ∧ answered t p c stOK ∧ bodyIs s t p 0x0704 c (toLe 4 r.length) ∧
        t.dram = u.dram ∧ ∀ n, n < 384 → t.chan n = { u.chan n with stats := (u.chan n).stats.cleared }) ∧
    (accepted s p 0x0802 c (lenIs c 16) (opRsv 0) .pf false → ∀ r,
      r = (List.range 66).flatMap (fun i => (s.port i).record) → r.length ≤ (opArg c 0).len →
      (taken s p 0x0802 c).writeOp (.cmd p) (opArg c 0) r = (0, u) →
      ∃ t, exec (.linkStats p c) s = .next t ∧ answered t p c stOK ∧ bodyIs s t p 0x0802 c (toLe 4 r.length) ∧
        t.dram = u.dram ∧ ∀ i, i < 66 → (t.port i).state = (s.port i).state ∧ tget 0 (t.port i).stats 0x5E = 0 ∧
          tget 0 (t.port i).stats 0x60 = 0 ∧
          ∀ o, o ≠ 0x5E → o ≠ 0x60 → tget 0 (t.port i).stats o = tget 0 (s.port i).stats o) ∧
    (accepted s p 0x0804 c (lenIs c 16) (opRsv 0) .pf false → ∀ r,
      r = (List.range 4).flatMap (fun l => (s.die l).record) → r.length ≤ (opArg c 0).len →
      (taken s p 0x0804 c).writeOp (.cmd p) (opArg c 0) r = (0, u) →
      ∃ t, exec (.xportStats p c) s = .next t ∧ answered t p c stOK ∧ bodyIs s t p 0x0804 c (toLe 4 r.length) ∧
        t.dram = u.dram ∧ ∀ l, l < 4 → (t.die l).ctxs = (s.die l).ctxs ∧ tget 0 (t.die l).stats 0x50 = 0 ∧
          ∀ o, o ≠ 0x50 → tget 0 (t.die l).stats o = tget 0 (s.die l).stats o) ∧
    (accepted s p 0x0807 c (lenIs c 16) (opRsv 0) .pf false → ∀ r,
      r = (List.range 66).flatMap (fun i => ((taken s p 0x0807 c).schedPort i).record) → r.length ≤ (opArg c 0).len →
      (taken s p 0x0807 c).writeOp (.cmd p) (opArg c 0) r = (0, u) →
      ∃ t, exec (.schedStats p c) s = .next t ∧ answered t p c stOK ∧ bodyIs s t p 0x0807 c (toLe 4 r.length) ∧
        t.dram = u.dram ∧ ∀ i, i < 66 → t.schedPort i = { s.schedPort i with
          excess := [], qmax := (List.range 8).foldl (fun q k => tset 0 q k (s.queuedOf i k)) [] })

/-- MEM_REMAP, accepted with a PA of the pool: a word of the table is answered OK and changes nothing of the
channels; otherwise the first unused entry takes it, and no hard fault of DRAM is under the line any more (the
memory's bytes stay when no word of the line is listed with check bytes); a full table is answered BOUND and
counted. SCRUB_START in range, owned, with free regions: answered OK, every region of the range has a pass from
its first byte on; with a busy region RETRY_LATER. SCRUB_ABORT marks the passes of the issuing VI and no others.
SCRUB_PASS_END of the last part ends the pass where nothing holds the write of its record; an aborted one posts
SCRUB_DONE with CANCELLED after its record, and stays while the record waits for a miss, a fill or a line.
CRC_RUN with a check-value unit free answers the check value of the operand's bytes and whether it equals the
expected one; while the operand waits for a miss, a fill or a coherent line it stays in progress and keeps its
unit; with both units in use it is answered RETRY_LATER, and with an operand in another VI's window, from a VI
that is no PF, BOUND. (12_memory_and_ras.md, 14_virtual_interfaces_and_mailboxes.md) -/
def Obligations.ScrubAndRemapDoTheirWork : Prop :=
  ∀ (s u : State) (p : Nat) (c : Cmd),
    (accepted s p 0x0703 c (lenIs c 8) [] .pf false → arg c 0 8 < poolEnd →
      ((s.chan (packageChannel (arg c 0 8 / 64 * 64))).remap.contains (some (chanWord (arg c 0 8 / 64 * 64))) = true →
        ∃ t, exec (.memRemap p c) s = .next t ∧ answered t p c stOK ∧ t.chans = s.chans ∧ samePool s t) ∧
      ((s.chan (packageChannel (arg c 0 8 / 64 * 64))).remap.contains (some (chanWord (arg c 0 8 / 64 * 64))) = false →
        (∀ i, (s.chan (packageChannel (arg c 0 8 / 64 * 64))).remap.findIdx? (·.isNone) = some i →
          ∃ t, exec (.memRemap p c) s = .next t ∧ answered t p c stOK ∧
            (t.chan (packageChannel (arg c 0 8 / 64 * 64))).remap =
              (s.chan (packageChannel (arg c 0 8 / 64 * 64))).remap.set i (some (chanWord (arg c 0 8 / 64 * 64))) ∧
            (∀ n, n ≠ packageChannel (arg c 0 8 / 64 * 64) → t.chan n = s.chan n) ∧ t.remapped (arg c 0 8 / 64) = true ∧
            t.hardFaultAt (arg c 0 8 / 64) = false ∧
            (afind s.dram.check (2 * (arg c 0 8 / 64)) = none → afind s.dram.check (2 * (arg c 0 8 / 64) + 1) = none →
              t.dram.mem = s.dram.mem ∧ t.dram.check = s.dram.check) ∧ t.dram.valid = s.dram.valid) ∧
        ((s.chan (packageChannel (arg c 0 8 / 64 * 64))).remap.findIdx? (·.isNone) = none →
          ∃ t, exec (.memRemap p c) s = .next t ∧ answered t p c stBOUND ∧ samePool s t ∧
            (t.chan (packageChannel (arg c 0 8 / 64 * 64))).stats.remapRefused =
              (s.chan (packageChannel (arg c 0 8 / 64 * 64))).stats.remapRefused + 1 ∧
            (t.chan (packageChannel (arg c 0 8 / 64 * 64))).remap =
              (s.chan (packageChannel (arg c 0 8 / 64 * 64))).remap))) ∧
    (accepted s p 0x0706 c (lenIs c 40) ([(16, 1, 7), (17, 7, 0)] ++ opRsv 24) .any (!isPf p) →
      arg c 0 8 % granuleBytes = 0 → arg c 8 8 % granuleBytes = 0 → 0 < arg c 8 8 → arg c 0 8 + arg c 8 8 ≤ poolEnd →
      (isPf p = true ∨ s.ownsRange p (arg c 0 8) (arg c 8 8) false = true) → tbit (arg c 16 1) 2 = false →
      64 ≤ (opArg c 24).len → s.foreignOp p (opArg c 24) = false →
      ((∀ g ∈ regionsOf (arg c 0 8) (arg c 8 8), (s.region g).scrub = none ∧ (s.region g).inReset = false) →
        ∃ t, exec (.scrubStart p c) s = .next t ∧ answered t p c stOK ∧ samePool s t ∧ ∀ g,
          (g ∉ regionsOf (arg c 0 8) (arg c 8 8) → t.region g = s.region g) ∧
          (g ∈ regionsOf (arg c 0 8) (arg c 8 8) → ∃ x, (t.region g).scrub = some x ∧ x.vi = p ∧ x.base = arg c 0 8 ∧
            x.len = arg c 8 8 ∧ x.correct = tbit (arg c 16 1) 0 ∧ x.remap = tbit (arg c 16 1) 1 ∧ x.compare = false ∧
            x.result = opArg c 24 ∧ x.pos = max (arg c 0 8) (g * stackBytes) ∧ x.abort = false ∧ x.scanned = 0 ∧
            x.corrected = 0 ∧ x.firstFail = none)) ∧
      ((∃ g ∈ regionsOf (arg c 0 8) (arg c 8 8), (s.region g).scrub ≠ none ∨ (s.region g).inReset = true) →
        ∃ t, exec (.scrubStart p c) s = .next t ∧ answered t p c stRETRY ∧ t.regions = s.regions ∧ samePool s t)) ∧
    (accepted s p 0x0707 c (lenIs c 0) [] .any false →
      ∃ t, exec (.scrubAbort p c) s = .next t ∧ answered t p c stOK ∧ samePool s t ∧ ∀ g,
        (t.region g).scrub = (s.region g).scrub.map (fun y => if y.vi = p then { y with abort := true } else y) ∧
        (t.region g).tcache = (s.region g).tcache) ∧
    (∀ g x, g < 12 → s.tablesOk → (s.region g).scrub = some x →
      (∀ h, h ≠ g → ∀ y, (s.region h).scrub = some y → y.id ≠ x.id) →
      ((s.win x.result.window).kind ≠ 2 → s.opLooks = [] → (∀ l, s.heldLines l = []) → (∀ l, s.fullLine l = none) →
        (∀ h, (s.region h).fills = []) → (∀ l, s.needsEntry l = false) →
        ∃ t, exec (.scrubPassEnd g) s = .next t ∧ (t.region g).scrub = none) ∧
      (x.abort = true → x.reset = false → x.resume = none → x.pos < x.hi g → ∀ st,
        (s.modRegion g (fun r => { r with scrub := none })).writeOp (.scrub x.id) x.result
          ({ x with resume := some x.pos } : Scrub).record = (st, u) →
        (isWait st = false → exec (.scrubPassEnd g) s = .next ((u.endOp (.scrub x.id)).post x.vi evSCRUB_DONE stCANCELLED
          (toLe 2 x.result.window ++ toLe 6 x.result.off))) ∧
        (isWait st = true → ∃ t, exec (.scrubPassEnd g) s = .next t ∧ t.dram = u.dram ∧
          (t.region g).scrub = some { x with resume := some x.pos }))) ∧
    (accepted s p 0x0003 c (lenIs c 32) (opRsv 0 ++ [(17, 7, 0)]) .any false →
      (s.foreignOp p (opArg c 0) = true →
        ∃ t, exec (.crcRun p c) s = .next t ∧ answered t p c stBOUND ∧ samePool s t) ∧
      (s.foreignOp p (opArg c 0) = false → 1 ≤ (opArg c 0).len → (opArg c 0).len ≤ 1048576 → arg c 16 1 ≤ 3 →
        ((s.complex (complexOf p)).crcUnit p = none →
          ∃ t, exec (.crcRun p c) s = .next t ∧ answered t p c stRETRY ∧ samePool s t) ∧
        (∀ k, (s.complex (complexOf p)).crcUnit p = some k →
          (∀ b n, (taken s p 0x0003 c).readOp (.cmd p) p (opArg c 0) = (n, b, u) → isWait n = true →
            ∃ t, exec (.crcRun p c) s = .next t ∧ inProgress t p 0x0003 n c ∧ t.home = u.home ∧ t.dram = u.dram ∧
              (t.complex (complexOf p)).crcUnit p = some k) ∧
          (∀ b, (taken s p 0x0003 c).readOp (.cmd p) p (opArg c 0) = (0, b, u) →
            ∃ t, exec (.crcRun p c) s = .next t ∧ answered t p c stOK ∧ t.dram = u.dram ∧
              bodyIs s t p 0x0003 c (toLe 8 (crcOf (arg c 16 1) b) ++
                toLe 1 (b2n (crcOf (arg c 16 1) b == arg c 24 8)))))))

/-- A check-value unit (complex 0 or 1, unit 0 to 3). CVU_INIT without CHECK: the queue is taken in, POLY and IE are
the written ones, and the register holds the polynomial's initial value. CVU_DATA8, CVU_DATA16 and CVU_DATA32
append 1, 2 and 4 bytes, lowest first, so that the register with everything queued taken in runs over them; the
queue keeps at most 8 writes. CVU_CHECK without INIT takes the queue in, and MATCH says whether the register
after the final XOR equals CVU_EXPECT, MISMATCH the opposite, which with IE raises the interrupt.
CVU_STATUS_CLEAR clears MISMATCH with bit 1 and MATCH with bit 2. A write of the peripheral space at CVU_EXPECT
(the model's address of it: log entry 199) sets EXPECT. Each leaves everything but its unit unchanged.
(14_virtual_interfaces_and_mailboxes.md) -/
def Obligations.CheckValueUnitsRunTheirPolynomial : Prop :=
  ∀ (s : State) (k n : Nat), k < 2 → n < 4 →
    (∀ w : Word32, tbit w.toNat 5 = false →
      ∃ t, exec (.cvuInit k n w) s = .next t ∧ t = { s with complexes := t.complexes } ∧
        t.cvu k n = { s.cvu k n with
          poly := w.toNat % 4, active := w.toNat % 4, ie := tbit w.toNat 4, queue := [],
          cur := BitVec.ofNat 64 (crcParams (w.toNat % 4)).2.2.1 } ∧
        (∀ a b, (a, b) ≠ (k, n) → t.cvu a b = s.cvu a b)) ∧
    (∀ (i : Instr) (bs : Bytes), (∃ v : Byte, i = .cvuData8 k n v ∧ bs = [v]) ∨
        (∃ v : Word16, i = .cvuData16 k n v ∧ bs = [v.extractLsb' 0 8, v.extractLsb' 8 8]) ∨
        (∃ v : Word32, i = .cvuData32 k n v ∧
          bs = [v.extractLsb' 0 8, v.extractLsb' 8 8, v.extractLsb' 16 8, v.extractLsb' 24 8]) →
      ∃ t, exec i s = .next t ∧ t = { s with complexes := t.complexes } ∧
        ((s.cvu k n).queue.length < 8 → (t.cvu k n).queue = (s.cvu k n).queue ++ [bs] ∧ (t.cvu k n).cur = (s.cvu k n).cur) ∧
        (∀ x r, (s.cvu k n).queue = x :: r → 7 ≤ r.length → (t.cvu k n).queue = r ++ [bs] ∧
          (t.cvu k n).cur = BitVec.ofNat 64 (crcRun (s.cvu k n).active (s.cvu k n).cur.toNat x)) ∧
        (t.cvu k n).active = (s.cvu k n).active ∧ (t.cvu k n).expect = (s.cvu k n).expect ∧
        (∀ a b, (a, b) ≠ (k, n) → t.cvu a b = s.cvu a b)) ∧
    (∀ w : Word32, tbit w.toNat 3 = false →
      ∃ t, exec (.cvuCheck k n w) s = .next t ∧ t = { s with complexes := t.complexes } ∧
        (t.cvu k n).cur = BitVec.ofNat 64 (crcRun (s.cvu k n).active (s.cvu k n).cur.toNat (s.cvu k n).queue.flatten) ∧
        (t.cvu k n).queue = [] ∧ (t.cvu k n).mismatch = !(t.cvu k n).isMatch ∧
        ((t.cvu k n).isMatch = true ↔
          (t.cvu k n).cur.toNat ^^^ (crcParams (s.cvu k n).active).2.2.2.2 = (s.cvu k n).expect.toNat) ∧
        (t.cvu k n).irq = ((s.cvu k n).irq || (!(t.cvu k n).isMatch && tbit w.toNat 4)) ∧
        (∀ a b, (a, b) ≠ (k, n) → t.cvu a b = s.cvu a b)) ∧
    (∀ w : Word32, ∃ t, exec (.cvuStatusClear k n w) s = .next t ∧ t = { s with complexes := t.complexes } ∧
        t.cvu k n = { s.cvu k n with
          isMatch := (s.cvu k n).isMatch && !tbit w.toNat 2,
          mismatch := (s.cvu k n).mismatch && !tbit w.toNat 1 } ∧
        (∀ a b, (a, b) ≠ (k, n) → t.cvu a b = s.cvu a b)) ∧
    (s.complexUp k = true → ∀ v : Word64,
      ∃ t, exec (.registerWrite (1024 + k) (0x4000000 + 0x40 * n + 0x20) 8 v) s = .next t ∧
        t = { s with complexes := t.complexes } ∧ t.cvu k n = { s.cvu k n with expect := v } ∧
        (∀ a b, (a, b) ≠ (k, n) → t.cvu a b = s.cvu a b))

/-- STEP_SUBMIT at a package that serves pool data, of a descriptor without a fault, whose stream is not open,
without SELECT, GROUPS and gather-only release, with every unit in one piece: answered OK, the stream is open as
a fresh one with the descriptor and its owner. The same descriptor for an open stream is answered DUP_IGNORED,
another one BOUND; a package that does not serve takes none, with the status of its pair state. STEP_CANCEL of
an open stream that the issuer may act on: OK and the stream is cancelled; of one that has ended DUP_IGNORED.
STEP_SCAN: OK with the numbers of tiles whose stamp is at distance 0, 1, 2 to 0x7FFF and beyond, and the bitmap
written. STEP_STAMP_SET with no commit pending, of an operand whose regions serve and whose granules can be
tracked: OK, and every granule of the operand has the stamp. (06_fused_step.md, 05_confluence_reduction.md) -/
def Obligations.StepCommandsOpenAndScanStreams : Prop :=
  ∀ (s u w : State) (p : Nat) (c : Cmd),
    (∀ st, accepted s p 0x0501 c (lenIs c 592) (descRsv (cmdBytes c)) .any true → s.pair.state.refusal = some st →
      ∃ t, exec (.stepSubmit p c) s = .next t ∧ answered t p c st ∧ t.streams = s.streams ∧ samePool s t) ∧
    (∀ d, accepted s p 0x0501 c (lenIs c 592) (descRsv (cmdBytes c)) .any true → s.pair.state.refusal = none →
      parseDesc (slice (cmdBytes c) 0 592) = some d →
      ((∀ x, s.stream d.cstream = some x → x.openNow = false) →
        d.fieldFault (slice (cmdBytes c) 0 592)
          (match afind s.progs d.progId with | some q => (parseProg q.image).commit | none => 0) = none →
        (taken s p 0x0501 c).operandsFault p d = none → d.select.present = false → d.isLamb = false → d.gatherOnly = false →
        (∀ k, k < d.tiles → (taken s p 0x0501 c).tileSpread d k = false ∧
          (d.units k).any (taken s p 0x0501 c).unitSplit = false) →
        (∀ g, g < 12 → (taken s p 0x0501 c).wsBad (Stream.start p d none []) g = false) → d.recipe ≠ 6 →
        ∃ t, exec (.stepSubmit p c) s = .next t ∧ answered t p c stOK ∧
          t.stream d.cstream = some (Stream.start p d none []) ∧ (∀ m, m ≠ d.cstream → t.stream m = s.stream m) ∧
          samePool s t) ∧
      (∀ x, s.stream d.cstream = some x → x.openNow = true →
        ∃ t, exec (.stepSubmit p c) s = .next t ∧ t.streams = s.streams ∧ samePool s t ∧
          (x.desc.raw = slice (cmdBytes c) 0 592 → answered t p c stDUP) ∧
          (x.desc.raw ≠ slice (cmdBytes c) 0 592 → answered t p c stBOUND))) ∧
    (∀ x, accepted s p 0x0502 c (lenIs c 2) [(0, 2, 0x3FFF)] .any true → s.stream (arg c 0 2) = some x →
      mayAct p x.owner = true →
      (x.openNow = true → ∃ t y, exec (.stepCancel p c) s = .next t ∧ answered t p c stOK ∧
        t.stream (arg c 0 2) = some y ∧ y.cancelled = true ∧ y.owner = x.owner ∧ y.desc = x.desc) ∧
      (x.openNow = false → ∃ t, exec (.stepCancel p c) s = .next t ∧ answered t p c stDUP ∧ t.streams = s.streams ∧
        samePool s t)) ∧
    (∀ segs, accepted s p 0x0503 c (lenIs c 36) (opRsv 0 ++ opRsv 16) .any true →
      s.foreignOp p (opArg c 0) = false → s.foreignOp p (opArg c 16) = false →
      (taken s p 0x0503 c).opSegs (.cmd p) (opArg c 0) false = (0, segs, u) → u.rangesServe (segRanges segs) = true →
      cdiv ((opArg c 0).len / granuleBytes) 8 ≤ (opArg c 16).len → ∀ ds v,
      u.scanDists (opArg c 0) (BitVec.ofNat 32 (arg c 32 4)) segs = (ds, v) →
      v.writeOp (.cmd p) (opArg c 16) (bitmap (cdiv ((opArg c 0).len / granuleBytes) 8)
        ((List.range ((opArg c 0).len / granuleBytes)).filter (fun k => lget none ds k == some 1))) = (0, w) →
      ∃ t, exec (.stepScan p c) s = .next t ∧ answered t p c stOK ∧ t.dram = w.dram ∧ t.streams = s.streams ∧
        bodyIs s t p 0x0503 c (toLe 4 (ds.count (some 0)) ++ toLe 4 (ds.count (some 1)) ++
          toLe 4 (ds.filter (fun d => match d with | some k => decide (2 ≤ k ∧ k < 0x8000) | none => false)).length ++
          toLe 4 (ds.filter (fun d => match d with | some k => decide (0x8000 ≤ k) | none => false)).length)) ∧
    (∀ segs, accepted s p 0x0504 c (lenIs c 18) (opRsv 0) .any true →
      s.memOk → s.foreignOp p (opArg c 0) = false →
      (taken s p 0x0504 c).opSegs (.cmd p) (opArg c 0) true = (0, segs, u) →
      u.rangesServe (segRanges segs) = true → u.lacksEntries (granulesOf segs) = false →
      (∀ g ∈ granulesOf segs, g < 12 * stackGranules ∧ u.reservation g ≠ some false ∧
        afind u.dram.check (stampAddr g / 32) = none) →
      ∃ t, exec (.stepStampSet p c) s = .next t ∧ answered t p c stOK ∧
        (∀ g ∈ granulesOf segs, t.stampNow g = some (arg c 16 2)) ∧
        (∀ a, (∀ g ∈ granulesOf segs, a < stampAddr g ∨ stampAddr g + 2 ≤ a) →
          memByte t.dram.mem a = memByte u.dram.mem a))

/-- PROG_LOAD into a free slot 0 to 255, which no other load is filling, of an image that its operand holds and the
checks of R213 and R214 pass, with no partner: answered OK with its two run times, the slot holds the image and
its owner, and the program area of every region is written with it; an image that a check refuses is answered
with that check's status and loads nothing. PROG_UNLOAD of a slot that the issuer may act on and no open stream
names: OK and the slot is free; while an open stream names it RETRY_LATER. Other slots stay.
(08_tack_programs.md) -/
def Obligations.ProgramsAreLoadedAndFreed : Prop :=
  ∀ (s u : State) (p : Nat) (c : Cmd),
    (∀ b, accepted s p 0x0505 c (lenIs c 24) ((2, 6, 0) :: opRsv 8) .any true → arg c 0 2 ≤ 255 →
      s.slotTaken p (arg c 0 2) = false → s.foreignOp p (opArg c 8) = false →
      (taken s p 0x0505 c).readImage p (opArg c 8) = (0, b, u) → alone s p →
      (imageFault (s.complex (complexOf p)) b = none →
        ∃ t, exec (.progLoad p c) s = .next t ∧ answered t p c stOK ∧
          bodyIs s t p 0x0505 c (toLe 4 ((parseProg b).cycles true) ++ toLe 4 ((parseProg b).cycles false)) ∧
          afind t.progs (arg c 0 2) = some ⟨b, p, false⟩ ∧
          (∀ m, m ≠ arg c 0 2 → afind t.progs m = afind s.progs m) ∧
          (s.dram.check = [] →
            (∀ g i x, g < 12 → b[i]? = some x → memByte t.dram.mem (progAddr g (arg c 0 2) + i) = x) ∧
            (∀ a, (∀ g, g < 12 → a < progAddr g (arg c 0 2) ∨ progAddr g (arg c 0 2) + b.length ≤ a) →
              memByte t.dram.mem a = memByte s.dram.mem a))) ∧
      (∀ st, imageFault (s.complex (complexOf p)) b = some st →
        ∃ t, exec (.progLoad p c) s = .next t ∧ answered t p c st ∧ t.progs = s.progs ∧ t.dram = u.dram)) ∧
    (∀ q, accepted s p 0x0506 c (lenIs c 2) [] .any true → afind s.progs (arg c 0 2) = some q → mayAct p q.owner = true →
      (s.progBusy (arg c 0 2) = false → alone s p →
        ∃ t, exec (.progUnload p c) s = .next t ∧ answered t p c stOK ∧ afind t.progs (arg c 0 2) = none ∧
          (∀ m, m ≠ arg c 0 2 → afind t.progs m = afind s.progs m) ∧ samePool s t) ∧
      (s.progBusy (arg c 0 2) = true →
        ∃ t, exec (.progUnload p c) s = .next t ∧ answered t p c stRETRY ∧ t.progs = s.progs ∧ samePool s t))

/-- ENGINE_TAKE_TILE: an idle, online engine of a cluster and region out of reset claims the head of its queue;
where its pages are translated, the first read of the state granule lets it run and its other reads are done,
the engine holds the entry with the tile limit in force, the preset registers of R197, the granule in STATE, and
cleared vector, predicate and accumulator registers. STEAL_RECORD_ARRIVE of an entry that no engine has claimed
writes its sums into a free steal buffer and queues it. PROG_RELOAD_DONE lets the engine issue. TILE_PROGRAM_END
of a tile without gather entries whose program has no phase left, with no scratch byte of wrong parity: the tile
is finished with a batch of its stream, tile and step. STREAM_END of a stream that is over: it is not open, and
STEP_DONE with its final status is posted to its owner; while its completion record waits for a miss, a fill or
a line, or its page is to be looked up again, it stays open. A stream that is not over stays.
(07_update_engines.md, 06_fused_step.md, 08_tack_programs.md) -/
def Obligations.EnginesTakeAndFinishTiles : Prop :=
  ∀ (s : State),
    (∀ e q r x l stale img ext res, ∀ u1 u2 u3 u4 : State, e < 768 → (s.engine e).tile = none → (s.engine e).claim = none →
      (s.engine e).online = true → (s.engine e).leave = false → (s.engine e).testing = false → (s.engine e).keep = none →
      (s.cluster (e / 8)).inReset = false → (s.region (e / 64)).inReset = false →
      s.boot.unlocked.contains (.a (e / 384)) = false → (s.cluster (e / 8)).queue = q :: r →
      (s.claimEntry e q).stream q.stream = some x → (q.nonFin = false ∨ x.desc.recipe = 6) →
      (s.claimEntry e q).claimPages e x ⟨q, s.entrySums (e / 8) q, [], true⟩ = (l, u1) → u1.judge l = .ok →
      u1.firstRead e x q l = (.run stale, img, u2) → (stale = false ∨ q.kind ≠ .lamb1) →
      u2.readSums e x q l = (.data ext, u3) → u3.readResiduals e x l = (.data res, u4) → img.length = 0x10000 →
      ∃ t y, exec (.engineTakeTile e) s = .next t ∧ (t.engine e).tile = some y ∧ y.entry = q ∧ y.stale = stale ∧
        y.started = u4.aWork (e / 384) ∧ y.limit = (u4.region (e / 64)).tileLimit ∧ y.pa = rangePa l 0 ∧ y.strip = 0 ∧ y.index = 0 ∧
        y.finished = false ∧ y.sending = false ∧ y.batch = none ∧ (t.engine e).claim = none ∧
        (t.engine e).sc = presetS x q (x.ratioOf q.tile) ∧ (t.engine e).v = [] ∧ (t.engine e).p = [] ∧ (t.engine e).a = [] ∧
        (t.engine e).q = [] ∧ (t.engine e).lastVi = some x.owner ∧ (res.length ≤ 8 → (t.engine e).sbytes 0x4000 0x10000 = img)) ∧
    (∀ k q r, k < 96 → (s.cluster k).transit = q :: r → q.loc = .slot → (s.cluster k).bufs.length < 8 →
      (∀ e, e / 8 = k → (s.engine e).claim = none) →
      ∃ t b, exec (.stealRecordArrive k) s = .next t ∧ b < 8 ∧ afind (s.cluster k).bufs b = none ∧
        afind (t.cluster k).bufs b =
          some ((afind (s.cluster (8 * (k / 8) + q.cluster)).sums q.slot).getD ⟨[], []⟩) ∧
        (t.cluster k).transit = r ∧
        (t.cluster k).queue = (s.cluster k).queue ++ [{ q with loc := .buffer, cluster := k % 8, slot := b }] ∧
        samePool s t) ∧
    (∀ e, e < 768 → exec (.progReloadDone e) s = .next (s.modEngine e (fun g => { g with reload := false }))) ∧
    (∀ e r x, e < 768 → (s.engine e).tile = some r → r.finished = false → (s.engine e).reload = false → r.stale = false →
      r.entry.kind ≠ .lamb1 → s.stream r.entry.stream = some x → x.desc.gather = [] → s.tackCtx e = none → (s.engine e).badBytes = [] →
      ∃ t y b, exec (.tileProgramEnd e) s = .next t ∧ (t.engine e).tile = some y ∧ y.entry = r.entry ∧ y.finished = true ∧
        y.batch = some b ∧ b.stream = r.entry.stream ∧ b.tile = r.entry.tile ∧
        b.stamp = BitVec.ofNat 16 x.desc.step.toNat ∧ samePool s t) ∧
    (∀ n x, n < 16384 → s.stream n = some x →
      (∀ st u, x.over = true → x.desc.complete.present = true → s.writeOp (.complete n) x.desc.complete x.completion = (st, u) →
        (isWait st = true → exec (.streamEnd n) s = .next u) ∧
        (st = stRETRY → exec (.streamEnd n) s = .next (u.endOp (.complete n)))) ∧
      (x.over = true → (x.desc.complete.present = true →
          isWait (s.writeOp (.complete n) x.desc.complete x.completion).1 = false ∧
          (s.writeOp (.complete n) x.desc.complete x.completion).1 ≠ stRETRY) →
        ∃ t y, exec (.streamEnd n) s = .next t ∧ t.stream n = some y ∧ y.openNow = false ∧
        y.outcomes = x.outcomes ∧ (∀ m, m ≠ n → t.stream m = s.stream m) ∧
        ((s.page x.owner).eqEn = true →
          (t.page x.owner).evq.getLast? = some ⟨evSTEP_DONE, x.finalStatus, evStream n⟩)) ∧
      (x.over = false → exec (.streamEnd n) s = .next s))

/-- COMMIT_BATCH_ACCEPT of a finished tile whose granule's stamp is the one before its step, with room in the commit
buffer and in the dirty tables and no STEP_STAMP_SET waiting: the batch is in the commit buffer of its region,
under the number of the open cycle where its granule is mirrored, the reservation is accepted, the tile is
accepted in its stream, and the pool is unchanged. With nothing to send the engine is free; with gather writes
to other nodes they wait in the region and the engine keeps the tile. A full commit buffer or dirty table
changes nothing; with another stamp the batch is discarded and the tile goes on as a stale one. A stale tile
without anything to write or send ends STALE and frees the engine. STAMP_WRITE of a granule with an accepted
batch, that can be tracked, whose lines nobody holds and whose writes nothing holds: its writes are performed,
then its stamp reads as the batch's, and the batch and the accepted reservation are gone; while a write is held
nothing happens, and while agents hold lines these are snooped and nothing else happens. LAMB_RATIO_COMPUTE of a
reached group whose pass 1 is over: without a failure the group holds the trust ratio of its sums and the
stream's step once the table takes them, and stays not computed while the write waits or is to be tried again;
with a failure other than STALE each member without an outcome fails with its status. (06_fused_step.md,
07_update_engines.md, 16_mode_combinations.md) -/
def Obligations.CommitsAreAcceptedAndWritten : Prop :=
  ∀ (s : State),
    (∀ e r x b, e < 768 → s.tablesOk → (s.engine e).tile = some r → r.finished = true → r.sending = false →
      s.stream r.entry.stream = some x → r.batch = some b →
      (r.stale = false → x.desc.gatherOnly = false →
        (4 ≤ (s.region (regionOfGranule b.granule)).commit.length → exec (.commitBatchAccept e) s = .next s) ∧
        (s.needsEntry b.ranges = true → exec (.commitBatchAccept e) s = .next s) ∧
        ((s.region (regionOfGranule b.granule)).commit.length < 4 → s.needsEntry b.ranges = false → ∀ a,
          a = { b with cycle := if s.mirroredAt b.granule && s.pair.state == PairState.active then some s.cyc.cycle else none } →
          (∀ st, s.stampNow b.granule = some st → stampDist x.desc.step st ≠ 1 →
            ∃ t, exec (.commitBatchAccept e) s = .next t ∧
              (t.engine e).tile = some { r with stale := true, finished := false, batch := none } ∧ (t.engine e).gbuf = [] ∧
              (∀ z, (b.granule, e, z) ∈ t.home.reserved → z = true)) ∧
          (∀ st, s.stampNow b.granule = some st → stampDist x.desc.step st = 1 →
            (∀ y ∈ s.vis, ∀ k, y.2.cmd = some k → k.opcode ≠ 0x0504) →
            ((s.engine e).gbuf = [] → (s.region (e / 64)).paced = [] →
              (∀ k y, (s.engine k).tile = some y → y.sending = false) →
              ∃ t, exec (.commitBatchAccept e) s = .next t ∧ (t.engine e).tile = none ∧
                (t.region (regionOfGranule b.granule)).commit = (s.region (regionOfGranule b.granule)).commit ++ [a] ∧
                (∀ z, (b.granule, e, z) ∈ t.home.reserved → z = true) ∧ samePool s t ∧
                ∃ y, t.stream r.entry.stream = some y ∧ r.entry.tile ∈ y.accepted) ∧
            ((s.engine e).gbuf ≠ [] → (∀ q ∈ (s.engine e).gbuf, ∃ ge, (x.desc.gather)[q.1]? = some ge ∧
                addrNode (ge.dest + BitVec.ofNat 64 (r.entry.tile * fmtBytes ge.fmt 4096)) ≠ s.aon.nodeId) →
              ∃ t, exec (.commitBatchAccept e) s = .next t ∧ (t.engine e).tile = some { r with sending := true } ∧
                (t.region (regionOfGranule b.granule)).commit = (s.region (regionOfGranule b.granule)).commit ++ [a] ∧
                (t.region (e / 64)).paced.length = (s.region (e / 64)).paced.length + (s.engine e).gbuf.length ∧
                (∀ z, (b.granule, e, z) ∈ t.home.reserved → z = true) ∧ samePool s t ∧
                ∃ y, t.stream r.entry.stream = some y ∧ r.entry.tile ∈ y.accepted ∧
                  ∀ q ∈ (s.engine e).gbuf, (r.entry.tile, q.1) ∈ y.unanswered)))) ∧
      (r.stale = true → b.writes = [] → (s.engine e).gbuf = [] → (s.region (e / 64)).paced = [] →
        (∀ k y, (s.engine k).tile = some y → y.sending = false) → afind x.outcomes r.entry.tile = none →
        ∃ t y o, exec (.commitBatchAccept e) s = .next t ∧ (t.engine e).tile = none ∧ samePool s t ∧
          t.stream r.entry.stream = some y ∧ afind y.outcomes r.entry.tile = some o ∧ o.ended = .stale ∧ o.status = stSTALE)) ∧
    (∀ g b, g < 12 * stackGranules → s.memOk → (s.region (regionOfGranule g)).commit.find? (fun b => b.granule == g) = some b →
      (s.rangesServe b.ranges = false ∨ s.fillHolds (writeRanges b.writes) true = true ∨ s.needsEntry b.ranges = true →
        exec (.stampWrite g) s = .next s) ∧
      (s.rangesServe b.ranges = true → s.fillHolds (writeRanges b.writes) true = false → s.needsEntry b.ranges = false →
        ∀ n u, s.ownAccess (.batch g) .wr b.ranges = (some n, u) → exec (.stampWrite g) s = .next u) ∧
      (s.rangesServe b.ranges = true → s.fillHolds (writeRanges b.writes) true = false → s.needsEntry b.ranges = false →
        s.heldLines b.ranges = [] → s.fullLine b.ranges = none → s.home.places = [] →
        afind s.dram.check (stampAddr g / 32) = none → s.waiting = [] → s.home.heldWb = [] →
        ∃ t, exec (.stampWrite g) s = .next t ∧ t.stamp g = some b.stamp.toNat ∧
          (t.region (regionOfGranule g)).commit = (s.region (regionOfGranule g)).commit.erase b ∧
          (∀ e, (g, e, true) ∉ t.home.reserved) ∧
          (b.writes = [] → ∀ a, a < stampAddr g ∨ stampAddr g + 2 ≤ a → memByte t.dram.mem a = memByte s.dram.mem a))) ∧
    (∀ n i x g, n < 16384 → s.stream n = some x → x.groups[i]? = some g → g.computed = false → g.skip = false →
      g.reached = true → x.members g ≠ [] → x.pass1Over g = true →
      (∀ st u, x.groupFailure g = none →
        (s.modStream n (fun x => x.modGroup i (fun g => { g with computed := true }))).writeOp (.ratio n i)
          { x.desc.groups with off := x.desc.groups.off + 16 * i + 8, len := 8 }
          (toLe 4 (trustRatio (g.pass1.map (·.2.1)) (g.pass1.map (·.2.2))).1.toNat ++ toLe 4 x.desc.step.toNat) = (st, u) →
        (isWait st = true ∨ st = stRETRY → ∃ t y h, exec (.lambRatioCompute n i) s = .next t ∧ t.stream n = some y ∧ y.groups[i]? = some h ∧
          h.computed = false ∧ h.ratio = g.ratio ∧ t.dram = u.dram) ∧
        (isWait st = false → st ≠ stRETRY → ∃ t y h, exec (.lambRatioCompute n i) s = .next t ∧ t.stream n = some y ∧
          y.groups[i]? = some h ∧ h.ratio = (trustRatio (g.pass1.map (·.2.1)) (g.pass1.map (·.2.2))).1 ∧
          h.ratioStep = x.desc.step ∧ h.computed = true)) ∧
      (∀ st, x.groupFailure g = some st → st ≠ stSTALE →
        ∃ t y, exec (.lambRatioCompute n i) s = .next t ∧ t.stream n = some y ∧
          ∀ k ∈ x.members g, afind x.outcomes k = none → ∃ o, afind y.outcomes k = some o ∧ o.ended = .failed ∧ o.status = st))

/-- ENGINE_FAULT counts a hardware or a program fault of the cluster, and TILE_WATCHDOG a program fault at 2^(16 +
TILE_LIMIT) A-cycles of the tile at the earliest, counted at the rate of the die's throttle step, with the limit
under which the tile was started; the engine has no tile after either. While the die has no A-clock
TILE_WATCHDOG changes nothing. SELF_TEST_DONE of an engine under test puts it online when it passed and offline
when not. CLUSTER_RESET_FAULT and an accepted CLUSTER_RESET of a cluster of a region out of reset put the
cluster in reset, with no sums and buffers, its engines without tile, program and registers; CLUSTER_RESET stays
in progress. CLUSTER_RESET_END, once the self-tests have ended, takes it out of reset with no open tile.
(07_update_engines.md, 05_confluence_reduction.md) -/
def Obligations.EnginesFaultAndReset : Prop :=
  ∀ (s : State),
    (∀ e k, e < 768 → ∃ t, exec (.engineFault e k) s = .next t ∧ (t.engine e).tile = none ∧
      (causeHard k = true → (t.cluster (e / 8)).faultsHw = (s.cluster (e / 8)).faultsHw + 1 ∧
        (t.cluster (e / 8)).faultsProg = (s.cluster (e / 8)).faultsProg) ∧
      (causeHard k = false → (t.cluster (e / 8)).faultsProg = (s.cluster (e / 8)).faultsProg + 1 ∧
        (t.cluster (e / 8)).faultsHw = (s.cluster (e / 8)).faultsHw ∧
        ((s.engine e).leave = false → (t.engine e).online = (s.engine e).online))) ∧
    (∀ e r, e < 768 → (s.engine e).tile = some r → s.boot.unlocked.contains (.a (e / 384)) = true →
      exec (.tileWatchdog e) s = .next s) ∧
    (∀ e r, e < 768 → (s.engine e).tile = some r → s.boot.unlocked.contains (.a (e / 384)) = false →
      (s.diePower (e / 384)).aAt ≤ s.now →
      ∃ t, exec (.tileWatchdog e) s = .next t ∧ (t.engine e).tile = none ∧
        2 ^ (16 + r.limit) ≤ t.aCyclesSince (e / 384) r.started ∧
        (t.cluster (e / 8)).faultsProg = (s.cluster (e / 8)).faultsProg + 1) ∧
    (∀ e ok, e < 768 → (s.engine e).testing = true →
      ∃ t, exec (.selfTestDone e ok) s = .next t ∧ (t.engine e).testing = false ∧ (t.engine e).online = ok ∧
        (t.engine e).offline = !ok ∧ (∀ f, f ≠ e → t.engine f = s.engine f) ∧ samePool s t) ∧
    (∀ k, k < 96 → (s.cluster k).inReset = false →
      ∃ t, exec (.clusterResetFault k) s = .next t ∧ (t.cluster k).inReset = true ∧ (t.cluster k).sums = [] ∧
        (t.cluster k).bufs = [] ∧ ∀ e, e / 8 = k → (t.engine e).tile = none ∧ (t.engine e).prog = none ∧
          (t.engine e).scratch = [] ∧ (t.engine e).v = [] ∧ (t.engine e).sc = [] ∧ (t.engine e).keep = none) ∧
    (∀ (p : Nat) (c : Cmd), accepted s p 0x0B01 c (lenIs c 1) [] .pf false → arg c 0 1 < 96 →
      (s.region (arg c 0 1 / 8)).inReset = false → (s.cluster (arg c 0 1)).inReset = false →
      ∃ t, exec (.clusterReset p c) s = .next t ∧ inProgress t p 0x0B01 (arg c 0 1) c ∧
        (t.cluster (arg c 0 1)).inReset = true ∧ (t.cluster (arg c 0 1)).sums = [] ∧
        ∀ e, e / 8 = arg c 0 1 → (t.engine e).tile = none) ∧
    (∀ k, k < 96 → (s.region (k / 8)).inReset = false → (s.cluster k).inReset = true →
      (∀ e, e / 8 = k → (s.engine e).testing = false) →
      ∃ t, exec (.clusterResetEnd k) s = .next t ∧ (t.cluster k).inReset = false ∧ (t.cluster k).tiles = [])

/-- For every state in which the next request number is larger than the number of every request in the part, a step
that answers a next state leaves such a state; and so for every state in which the account of each core die's
A-clock was last settled no later than now. (Invariants of the model's own numbering and accounts, premises of
the statements about requests and about TILE_WATCHDOG.) (02_addressing_and_translation.md) -/
def Obligations.NumbersAndClocksStayFresh : Prop :=
  ∀ (s t : State), step s = .next t → (s.numbersFresh → t.numbersFresh) ∧
    ((∀ d, (s.diePower d).aAt ≤ s.now) → ∀ d, (t.diePower d).aAt ≤ t.now)

/-- A request of the fabric that its link die admits, to this node, through a raw window that passes the checks, to
open bytes of a non-coherent extent. RD_UNC is answered OK with the bytes (SUBOP 2); RD_SHARED, RD_OWN and CLAIM
with the 64 bytes of the line as non-coherent data (SUBOP 2); each leaves the pool alone. WR_UNC, and GATHER_WR
of a node with COL_SRC, write the payload and are answered OK (SUBOP 4); GATHER_WR of another node, or with a
reserved FMT, is answered BOUND and writes nothing. COPY writes the source's bytes. HOST_MEM_READ and
HOST_MEM_WRITE do the same for a function of a live host port, the write without an answer. Every byte of the
pool outside the stored ones reads as before. (Under the invariants of the memory's form and of request
numbers.) (02_addressing_and_translation.md, 03_coherence.md, 10_fabric_transport.md) -/
def Obligations.PlainRequestsReachThePool : Prop :=
  ∀ (s : State) (p : Pkt) (w o a : Nat), a = (s.win w).basePa + o →
    (s.admits p = true → addrNode p.addr = s.aon.nodeId → addrWindow p.addr = w → addrOffset p.addr = o →
      (1 ≤ p.opLen → p.opLen ≤ 4096 → plainAccess s w o p.opLen →
        ∃ t, exec (.rdUnc p) s = .next t ∧ repliedTo s t p stOK 2 0 (poolBytes s a p.opLen) ∧ samePool s t ∧
          t.home = s.home) ∧
      (∀ i, i = .rdShared p ∨ i = .rdOwn p ∨ i = .claim p → p.opLen = 64 → o + 64 ≤ (s.win w).limit →
        plainAccess s w (o / 64 * 64) 64 → ((s.win w).basePa + o / 64 * 64) % 64 = 0 →
        ∃ t, exec i s = .next t ∧ samePool s t ∧ t.home = s.home ∧
          repliedTo s t p stOK 2 (BitVec.ofNat 64 ((s.win w).basePa + o / 64 * 64))
            (poolBytes s ((s.win w).basePa + o / 64 * 64) 64)) ∧
      ((s.win w).writeEn = true → plainAccess s w o p.payload.length →
        (∃ t, exec (.wrUnc p) s = .next t ∧ repliedTo s t p stOK 4 0 [] ∧ poolBytes t a p.payload.length = p.payload ∧
          samePoolBut s t a p.payload.length ∧ t.dram.valid = s.dram.valid ∧ t.home = s.home) ∧
        ((s.node p.srcNode).colSrc = true → p.fmt ≤ 7 →
          ∃ t, exec (.gatherWr p) s = .next t ∧ repliedTo s t p stOK 4 0 [] ∧
            poolBytes t a p.payload.length = p.payload ∧ samePoolBut s t a p.payload.length ∧
            t.dram.valid = s.dram.valid ∧ t.home = s.home) ∧
        ((s.node p.srcNode).colSrc = true → 7 < p.fmt →
          ∃ t, exec (.gatherWr p) s = .next t ∧ repliedTo s t p stBOUND 4 0 [] ∧ samePool s t ∧ t.waiting = s.waiting)) ∧
      ((s.node p.srcNode).colSrc = false →
        ∃ t, exec (.gatherWr p) s = .next t ∧ repliedTo s t p stBOUND 4 0 [] ∧ samePool s t ∧ t.waiting = s.waiting) ∧
      (∀ (q : Word64) (v x : Nat), q = BitVec.ofNat 64 (fld p.payload 0 8) → addrNode q = s.aon.nodeId → v = addrWindow q →
        x = (s.win v).basePa + addrOffset q → 1 ≤ p.opLen → (s.win w).writeEn = true → plainAccess s w o p.opLen →
        plainAccess s v (addrOffset q) p.opLen →
        ∃ t, exec (.copy p) s = .next t ∧ repliedTo s t p stOK 4 0 [] ∧
          poolBytes t a p.opLen = poolBytes s x p.opLen ∧ samePoolBut s t a p.opLen ∧ t.home = s.home)) ∧
    (∀ (v len tag : Nat) (data : Bytes), v < 512 → w < 1024 → o < 2 ^ 42 → s.aon.nodeId < 4096 → s.viExists v = true →
      s.hostLive (complexOf v) = true →
      (1 ≤ len → len ≤ 4096 → plainAccess s w o len →
        ∃ t, exec (.hostMemRead v w o len tag) s = .next t ∧ samePool s t ∧ t.home = s.home ∧
          repliedToHost s t (complexOf v) stOK (poolBytes s a len)) ∧
      ((s.win w).writeEn = true → plainAccess s w o data.length →
        ∃ t, exec (.hostMemWrite v w o data) s = .next t ∧ t.outbox = s.outbox ∧ poolBytes t a data.length = data ∧
          samePoolBut s t a data.length ∧ t.dram.valid = s.dram.valid ∧ t.home = s.home))

/-- An atomic of the fabric that its link die admits, of 8 bytes at an 8-byte aligned offset of a raw window with
writes and atomics enabled, to open bytes of a non-coherent extent: it is answered OK with the old 8 bytes in
INFO (a delivered packet with a reserved AOP, 0 or above 5, aside). FETCH_ADD stores the sum with the operand
modulo 2^64, SWAP the operand, CAS the second operand where the first equals the old value (else the old value
stays), FP32_ADD the FP32 sum of the low 4 bytes with the high 4 bytes kept, FETCH_MAX the larger as signed
64-bit integers. Every byte outside the 8 reads as before. (10_fabric_transport.md,
02_addressing_and_translation.md) -/
def Obligations.AtomicsUpdateEightBytes : Prop :=
  ∀ (s : State) (p : Pkt) (w o a : Nat), a = (s.win w).basePa + o → s.admits p = true → addrNode p.addr = s.aon.nodeId →
    addrWindow p.addr = w → addrOffset p.addr = o → p.opLen = 8 → o % 8 = 0 → (s.win w).writeEn = true →
    (s.win w).atomicEn = true → plainAccess s w o 8 →
    ¬ ((p.aop = 0 ∨ p.aop > 5) ∧ p.ptype = 3 ∧ (s.die p.dpg).inbox.contains p = true) →
    ∀ (old x y : Nat), old = leNat (poolBytes s a 8) → x = fld p.payload 0 8 → y = fld p.payload 8 8 →
      ∀ (i : Instr) (new : Nat),
        (i = .atomicFetchAdd p ∧ new = (old + x) % 2 ^ 64) ∨ (i = .atomicSwap p ∧ new = x) ∨
        (i = .atomicCas p ∧ new = if old = x then y else old) ∨
        (i = .atomicFp32Add p ∧
          new = (fAdd (BitVec.ofNat 32 old) (BitVec.ofNat 32 x)).toNat + old / 2 ^ 32 * 2 ^ 32) ∨
        (i = .atomicFetchMax p ∧ new = if (BitVec.ofNat 64 old).slt (BitVec.ofNat 64 x) then x else old) →
        ∃ t, exec i s = .next t ∧ repliedTo s t p stOK 4 (BitVec.ofNat 64 old) [] ∧ leNat (poolBytes t a 8) = new ∧
          samePoolBut s t a 8 ∧ t.dram.valid = s.dram.valid ∧ t.home = s.home

/-- A cacheable request of an agent through a raw window for a line of a coherent extent in an idle home with room
in its transaction table, where nothing waits for the line. In state I with room in the set: RD_SHARED makes it
S{X} and is answered DATA_S (SUBOP 0), RD_OWN O{X} and DATA_O (SUBOP 1); both carry the memory's bytes. CLAIM of
the only sharer makes it O{X} and is answered GNT_O without data (SUBOP 3). RD_OWN of a line in S with sharers,
all others, opens a transaction that waits for an invalidating snoop of each and is not answered yet. The pool
is unchanged, and so is every other line's state. (03_coherence.md) -/
def Obligations.CoherentLinesFollowTheTable : Prop :=
  ∀ (s : State) (p : Pkt) (w o line x : Nat), s.admits p = true → addrNode p.addr = s.aon.nodeId → addrWindow p.addr = w →
    addrOffset p.addr = o → p.opLen = 64 → (s.win w).kind = 1 → o + 64 ≤ (s.win w).limit →
    (s.win w).basePa + o / 64 * 64 = 64 * line → s.checkData (s.win w).extentId (64 * line) 64 = none →
    (s.ext (s.win w).extentId).coherent = true → s.agentOfNode p.srcNode = some x → homeIdle s line →
    s.parkedAt line = [] → (∀ q ∈ s.home.places, q.line ≠ line) → s.homeFull line = false →
    s.queueFull (homeOf line) = false →
    (s.dirEnt line = none → (s.waysOf line).length < 16 →
      (∃ t d, exec (.rdShared p) s = .next t ∧ repliedTo s t p stOK 0 (BitVec.ofNat 64 (64 * line)) (poolBytes s (64 * line) 64) ∧
        t.dirEnt line = some d ∧ d.state = .S ∧ d.ags = [x] ∧ (∀ l, l ≠ line → t.dirEnt l = s.dirEnt l) ∧ samePool s t) ∧
      (∃ t d, exec (.rdOwn p) s = .next t ∧ repliedTo s t p stOK 1 (BitVec.ofNat 64 (64 * line)) (poolBytes s (64 * line) 64) ∧
        t.dirEnt line = some d ∧ d.state = .O ∧ d.ags = [x] ∧ (∀ l, l ≠ line → t.dirEnt l = s.dirEnt l) ∧ samePool s t)) ∧
    (∀ d, s.dirEnt line = some d → d.state = .S → d.ags = [x] → 2 ≤ x →
      ∃ t e, exec (.claim p) s = .next t ∧ repliedTo s t p stOK 3 (BitVec.ofNat 64 (64 * line)) [] ∧
        t.dirEnt line = some e ∧ e.state = .O ∧ e.ags = [x] ∧ (∀ l, l ≠ line → t.dirEnt l = s.dirEnt l) ∧ samePool s t) ∧
    (∀ d, s.dirEnt line = some d → d.state = .S → d.ags ≠ [] → x ∉ d.ags →
      ∃ t n, exec (.rdOwn p) s = .next t ∧ t.txn line = some n ∧ n.forWhat = .request s.reqNo ∧
        n.snoops.map (fun y => (y.agent, y.kind)) = d.ags.map (fun y => (y, SnoopKind.inv)) ∧ n.stuck = false ∧
        samePool s t ∧ ∃ q ∈ t.waiting, q.id = s.reqNo ∧ q.why = .txn line)

/-- RSP_I, RSP_S and RSP_EVICTED of an agent, found by their tag, whose snoop is the last of an open transaction
whose line is evicted or whose request is gone, with the region out of reset and no message of the agent for the
line held back: the transaction is over, and the agent is off the line after RSP_I and RSP_EVICTED without data,
a sharer after RSP_S to SNP_SHARE and off the line after RSP_S to SNP_INV (the model's reading, assumption 159);
data that comes with them is in the pool. RSP_EVICTED with D = 1 of a listed agent holds the snoop for the
notice. WR_BACK of the owner of a coherent line writes the line and frees the entry; EVICT_CLEAN of a sharer
takes it off the line; both occupy a writeback buffer of the region. (03_coherence.md, 10_fabric_transport.md) -/
def Obligations.SnoopAnswersAndNotices : Prop :=
  ∀ (s : State) (p : Pkt) (x line : Nat), s.agentOfNode p.srcNode = some x → s.tablesOk → s.memOk → s.leavingAgents = [] →
    (s.region (stackOf (64 * line))).inReset = false → s.mirroredAt (granuleOf (64 * line)) = false →
    s.isValid (granuleOf (64 * line)) = true → s.fillHolds [(64 * line, 64)] true = false →
    (∀ b ∈ s.home.heldWb, ¬ (b.agent = x ∧ b.pa / 64 = line)) →
    (∀ q n y d, (s.takeIn p).sendOf p = some q → q.msg.ptype = 5 → q.late = false → q.msg.addr.toNat % 2 ^ 40 / 64 = line →
      s.txn line = some n → n.snoops = [y] → y.agent = x → y.held = false → n.keeps = [] →
      (n.forWhat = .evict ∨ ∃ i, n.forWhat = .request i ∧ s.waitOf i = none) → n.conflicts = [] →
      s.dirEnt line = some d → x ∈ d.ags → d.state ≠ .L →
      (p.payload = [] →
        (∃ t, exec (.rspI p) s = .next t ∧ t.txn line = none ∧ samePool s t ∧ ∀ e, t.dirEnt line = some e → x ∉ e.ags) ∧
        (y.kind = .share →
          ∃ t e, exec (.rspS p) s = .next t ∧ t.txn line = none ∧ samePool s t ∧ t.dirEnt line = some e ∧ e.state = .S ∧
            e.ags = d.ags ∧ e.pin = false) ∧
        (y.kind = .inv →
          ∃ t, exec (.rspS p) s = .next t ∧ t.txn line = none ∧ samePool s t ∧ ∀ e, t.dirEnt line = some e → x ∉ e.ags)) ∧
      (s.dram.listed (64 * line) 64 = [] → p.payload.length = 64 →
        (∃ t, exec (.rspI p) s = .next t ∧ t.txn line = none ∧ poolBytes t (64 * line) 64 = p.payload ∧
          samePoolBut s t (64 * line) 64) ∧
        (∃ t, exec (.rspS p) s = .next t ∧ t.txn line = none ∧ poolBytes t (64 * line) 64 = p.payload ∧
          samePoolBut s t (64 * line) 64)) ∧
      (p.info.getLsbD 0 = false →
        ∃ t, exec (.rspEvicted p) s = .next t ∧ t.txn line = none ∧ samePool s t ∧
          ∀ e, t.dirEnt line = some e → x ∉ e.ags) ∧
      (p.info.getLsbD 0 = true →
        ∃ t m, exec (.rspEvicted p) s = .next t ∧ t.txn line = some m ∧ m.snoops = [{ y with held := true }] ∧
          t.dirEnt line = some d ∧ samePool s t)) ∧
    (∀ d, p.addr.toNat % 2 ^ 40 / 64 = line → addrNode p.addr = s.aon.nodeId → s.coherentAt (granuleOf (64 * line)) = true →
      s.reservation (granuleOf (64 * line)) = none → s.txn line = none → s.dirEnt line = some d →
      (d.state = .O → d.ags = [x] → s.dram.listed (64 * line) 64 = [] → p.payload.length = 64 →
        ∃ t, exec (.wrBack p) s = .next t ∧ t.dirEnt line = none ∧ poolBytes t (64 * line) 64 = p.payload ∧
          samePoolBut s t (64 * line) 64 ∧ (∀ l, l ≠ line → t.dirEnt l = s.dirEnt l) ∧
          tget 0 (t.region (stackOf (64 * line))).wbUsed x = tget 0 (s.region (stackOf (64 * line))).wbUsed x + 1) ∧
      (d.state = .S → x ∈ d.ags →
        ∃ t, exec (.evictClean p) s = .next t ∧ samePool s t ∧ (∀ l, l ≠ line → t.dirEnt l = s.dirEnt l) ∧
          (∀ e, t.dirEnt line = some e → e.ags = d.ags.filter (· != x) ∧ e.state = .S) ∧
          tget 0 (t.region (stackOf (64 * line))).wbUsed x = tget 0 (s.region (stackOf (64 * line))).wbUsed x + 1))

/-- For host port 0 or 1 whose HDM-DB is not enabled, to open bytes of an ACTIVE, non-coherent extent under a
running lease: MEM_RD is answered with the 64 bytes of the line, MEM_WR writes the first 64 bytes of its data
there and is answered, and every other byte of the pool stays. For a host agent: MEM_CLN_EVCT of a line it
shares takes it off, BI_RSP_S and BI_RSP_I end the last snoop of an eviction or of a request that is gone:
BI_RSP_S to BISnpData leaves it a sharer, to BISnpInv takes it off (the model's reading, assumption 159),
BI_RSP_I takes it off; an answer that the port still owes for a copy of an earlier snoop is ignored. BI_CONFLICT
is acknowledged at once when no transaction is open on the line, else remembered by it. HDM_DB_ENABLE of a live
port makes the port an agent of its physical function; HDM_DB_DISABLE and HOST_LINK_DOWN end the agent.
(03_coherence.md) -/
def Obligations.HostsReachThePoolOverCxl : Prop :=
  ∀ (s : State) (d pa line : Nat), d < 2 → line = pa / 64 →
    (∀ e x tag m, s.memOk → s.numbersFresh → s.cyc.roleStep = 0 → s.pair.state.refusal = none → s.agent d = none →
      s.extentOf (granuleOf (64 * line)) = some (e, x) → s.checkData e (64 * line) 64 = none → (s.ext e).coherent = false →
      (s.ext e).mirrored = false → openAt s (64 * line) 64 →
      (∃ t, exec (.memRd d tag m pa) s = .next t ∧ repliedToHost s t d stOK (poolBytes s (64 * line) 64) ∧ samePool s t ∧
        t.home = s.home) ∧
      (∀ data, ∃ t, exec (.memWr d tag pa data) s = .next t ∧ repliedToHost s t d stOK [] ∧
        poolBytes t (64 * line) 64 = slice data 0 64 ∧ samePoolBut s t (64 * line) 64 ∧ t.home = s.home)) ∧
    (∀ a e, s.tablesOk → s.agent d = some a → (s.region (stackOf (64 * line))).inReset = false → s.leavingAgents = [] →
      s.dirEnt line = some e → d ∈ e.ags → e.state = .S →
      (∀ b ∈ s.home.heldWb, ¬ (b.agent = d ∧ b.pa / 64 = line)) →
      (s.txn line = none →
        ∃ t, exec (.memClnEvct d pa) s = .next t ∧ samePool s t ∧ ∀ y, t.dirEnt line = some y → y.ags = e.ags.filter (· != d)) ∧
      (∀ o ∈ s.home.owed, o.1 = d → o.2.1 = line →
        ∃ t, exec (.biRspI d pa) s = .next t ∧ t.home.txns = s.home.txns ∧ t.home.dir = s.home.dir ∧ samePool s t) ∧
      (∀ n y, s.txn line = some n → n.snoops = [y] → y.agent = d → y.held = false → n.keeps = [] →
        (∀ o ∈ s.home.owed, ¬ (o.1 = d ∧ o.2.1 = line)) →
        (n.forWhat = .evict ∨ ∃ i, n.forWhat = .request i ∧ s.waitOf i = none) → n.conflicts = [] →
        (y.kind = .share →
          ∃ t z, exec (.biRspS d pa) s = .next t ∧ t.txn line = none ∧ t.dirEnt line = some z ∧ z.ags = e.ags ∧ z.state = .S ∧
            samePool s t) ∧
        (y.kind = .inv →
          ∃ t, exec (.biRspS d pa) s = .next t ∧ t.txn line = none ∧ samePool s t ∧
            ∀ z, t.dirEnt line = some z → d ∉ z.ags) ∧
        (∃ t, exec (.biRspI d pa) s = .next t ∧ t.txn line = none ∧ samePool s t ∧
          ∀ y, t.dirEnt line = some y → d ∉ y.ags))) ∧
    (s.txn line = none → exec (.biConflict d pa) s = .next (s.conflictAck d line)) ∧
    (∀ n, s.txn line = some n → ∃ t, exec (.biConflict d pa) s = .next t ∧
      t.txn line = some { n with conflicts := n.conflicts ++ [d] } ∧ t.outbox = s.outbox) ∧
    (s.hostLive d = true → ∃ t, exec (.hdmDbEnable d) s = .next t ∧ t.agent d = some ⟨s.aon.nodeId, pfOf d, true⟩ ∧
      (t.hostPort d).hdmDb = true ∧ (∀ x, x ≠ d → t.agent x = s.agent x) ∧ samePool s t) ∧
    (∀ i, i = .hdmDbDisable d ∨ i = .hostLinkDown d →
      ∃ t, exec i s = .next t ∧ t.agent d = none ∧ (t.hostPort d).hdmDb = false)

/-- PARKED_REQUEST_SERVE of a line without a transaction, whose home has room, serves the request parked on it that
came before all else that waits for the line: a plain read of an uncached line is answered with the memory's
bytes and leaves the part. SNOOP_TIMEOUT of a snoop resends it, not before it was due, with the timeout under
which it was first sent: the first time the transaction goes on, the second time it is stuck; a snoop that is
held for its agent's notice is not resent. LOST_DIRTY_MARK_DONE of a line in state L without a snoop frees the
entry and logs the line; where the line's extent leaves, it only frees the entry. FILL_DONE of an invalid
granule, which can be tracked and that nothing waits for: the granule is valid, reads as zeros, and its fill is
over. (03_coherence.md, 02_addressing_and_translation.md) -/
def Obligations.WaitsOfTheHomesEnd : Prop :=
  ∀ (s : State) (line : Nat), 64 * line < poolEnd →
    (∀ q pl x, s.waiting.find? (fun w => w.why == .parked line) = some q → s.waiting.find? (fun w => w.id == q.id) = some q →
      q.plan = some pl → q.pkt.ptype = 1 → q.pkt.subop = 0 → q.origin = .fabric x → pl.dst = [] → pl.cut = none →
      (∃ e, pl.src = [⟨64 * line, 64, e⟩]) → homeIdle s line → s.dirEnt line = none → s.homeFull line = false →
      (∀ w ∈ s.waiting, w.why = .parked line → q.ord ≤ w.ord) → (∀ y ∈ s.home.places, y.line = line → q.ord ≤ y.ord) →
      (∀ y, s.lineCommand line = some y → q.ord ≤ s.placeOf (.op (.cmd y.1)) line) →
      (∀ w ∈ s.waiting, w.why ≠ .mesh (homeOf line)) →
      ∃ t, exec (.parkedRequestServe line) s = .next t ∧ repliedTo s t q.pkt stOK 2 0 (poolBytes s (64 * line) 64) ∧
        (∀ w ∈ t.waiting, w.id ≠ q.id) ∧ samePool s t) ∧
    (∀ x y n, s.txn line = some n → n.snoops = [y] → y.agent = x → y.held = true → exec (.snoopTimeout line x) s = .next s) ∧
    (∀ x y n, s.txn line = some n → n.snoops = [y] → y.agent = x → y.held = false →
      (y.timeouts = 1 → ∀ w ∈ s.waiting, w.why ≠ .mesh (homeOf line)) →
      ∃ t m, exec (.snoopTimeout line x) s = .next t ∧ y.due ≤ t.now ∧ t.txn line = some m ∧
        m.snoops = [{ y with due := t.now + fastEdge s (us y.limit), timeouts := y.timeouts + 1 }] ∧
        m.stuck = (n.stuck || decide (1 ≤ y.timeouts))) ∧
    (∀ e, s.dirEnt line = some e → e.state = .L → s.leaving line = true → s.snoopOf (e.ags.headD 0) line = none →
      ∃ t, exec (.lostDirtyMarkDone line) s = .next t ∧ t.dirEnt line = none ∧ samePool s t ∧
        (t.region (stackOf (64 * line))).lostLog = (s.region (stackOf (64 * line))).lostLog) ∧
    (∀ e, s.dirEnt line = some e → e.state = .L → s.leaving line = false → s.fillHolds [(64 * line, 64)] true = false →
      s.tableFull (granuleOf (64 * line)) = false →
      s.snoopOf (e.ags.headD 0) line = none →
      ∃ t r, exec (.lostDirtyMarkDone line) s = .next t ∧ t.dirEnt line = none ∧
        (t.region (stackOf (64 * line))).lostLog = (s.region (stackOf (64 * line))).lostLog ++ [r] ∧ r.pa = 64 * line ∧
        r.agent = e.ags.headD 0) ∧
    (∀ g, g < 12 * stackGranules → g ∈ (s.region (regionOfGranule g)).fills → s.memOk →
      outOfPool (g * granuleBytes) granuleBytes = false → s.isValid g = false → s.tableFull g = false →
      (∀ w ∈ s.waiting, w.why ≠ .fill g ∧ w.why ≠ .fillRoom (regionOfGranule g)) →
      (∀ b ∈ s.home.heldWb, stackOf b.pa ≠ regionOfGranule g) →
      ∃ t, exec (.fillDone g) s = .next t ∧ g ∈ t.dram.valid ∧ poolBytes t (g * granuleBytes) granuleBytes = zeros granuleBytes ∧
        g ∉ (t.region (regionOfGranule g)).fills ∧ t.waiting = s.waiting)

/-- A contribution of a COL source to an untouched or open SRAM tile of an open, reducing stream that has its anchor
in the region; an untouched one opens the lowest free slot of its cluster. A new index, not the last one: every
element k with a finite value adds the quantised value to accumulator k, index and count are noted, the answer
is OK, or SATURATED when an element saturated or was not finite. The last index of a fused tile outside norm
groups closes the slot, sets the completion bit and queues the sums at the cluster. An index noted before and a
completed tile are answered DUP_IGNORED; no slot anywhere, and no anchor yet, RETRY_LATER, each counted. A
report (R123) of a new index is noted; with the last one the anchor is the largest exponent less 15, clamped to
-128 to 127, or the descriptor's when no report has one. ANCHOR_RECEIVE makes the stream's anchor known in a
region. (05_confluence_reduction.md) -/
def Obligations.ContributionsAccumulate : Prop :=
  (∀ (s : State) (p : Pkt) (x : Stream) (w o g k : Nat) (a : Int), s.admits p = true → s.numbersFresh →
    s.cyc.roleStep = 0 → s.pair.state.refusal = none → addrNode p.addr = s.aon.nodeId → (s.node p.srcNode).colSrc = true →
    addrWindow p.addr = w → addrOffset p.addr = o → (s.win w).kind = 1 → (s.win w).writeEn = true →
    g = stackOf ((s.win w).basePa + o) → s.stackServes g = true → s.stream p.cstream = some x → x.closedStatus = none →
    p.contrib < x.desc.nContrib → x.tileOf p.addr = some k → p.fmt ≤ 7 →
    o + max 1 (s.targetSpan p) ≤ (s.win w).limit →
    s.checkData (s.win w).extentId ((s.win w).basePa + o) (max 1 (s.targetSpan p)) = none →
    (p.payload.length = fmtBytes p.fmt (x.desc.tileElems k) → p.poison = false →
      (x.anchorAt.contains g = false →
        ∃ t, exec (.contribution p) s = .next t ∧ repliedTo s t p stRETRY 4 0 [] ∧ t.clusters = s.clusters ∧ samePool s t ∧
          tget 0 (t.vi x.owner).ctr 0x31F0 = tget 0 (s.vi x.owner).ctr 0x31F0 + 1) ∧
      (x.anchorAt.contains g = true → x.anchor = some a → x.completed.contains k = true →
        ∃ t, exec (.contribution p) s = .next t ∧ repliedTo s t p stDUP 4 0 [] ∧ t.clusters = s.clusters ∧ samePool s t ∧
          tget 0 (t.vi x.owner).ctr 0x31B8 = tget 0 (s.vi x.owner).ctr 0x31B8 + 1) ∧
      (∀ d, x.anchorAt.contains g = true → x.anchor = some a →
        x.completed.contains k = false → rankIn (s.regionTiles x g) k < x.base (s.regionTiles x g) + x.desc.skew →
        (s.cluster d).inReset = false → s.boot.unlocked.contains (.a (d / 48)) = false →
        (∀ m y, (s.sramPlace p.cstream k g = some (d, m) ∧ afind (s.cluster d).tiles m = some y) ∨
            (s.sramPlace p.cstream k g = none ∧ x.spillSlot k = none ∧ d = clusterOf x g (rankIn (s.regionTiles x g) k) ∧
              (s.cluster d).freeSlot = some m ∧ y = Tile.fresh p.cstream k) →
          (y.dup.contains p.contrib = true →
            ∃ t, exec (.contribution p) s = .next t ∧ repliedTo s t p stDUP 4 0 [] ∧ t.clusters = s.clusters ∧ samePool s t) ∧
          (y.dup.contains p.contrib = false → y.count + 1 ≠ x.desc.nContrib →
            ∃ t z st, exec (.contribution p) s = .next t ∧ repliedTo s t p st 4 0 [] ∧ (st = stOK ∨ st = stSATURATED) ∧
              afind (t.cluster d).tiles m = some z ∧ z.count = y.count + 1 ∧
              z.dup = insSet y.dup p.contrib ∧ z.stream = y.stream ∧ z.tile = y.tile ∧ samePool s t ∧
              ∀ i v, (decodeArray p.fmt (x.desc.tileElems k) p.payload)[i]? = some v →
                (∀ q f, quantise a v = some (q, f) → tget 0 z.acc i = tget 0 y.acc i + q ∧
                  (f = true → st = stSATURATED ∧ z.sat = true)) ∧
                (quantise a v = none → tget 0 z.acc i = tget 0 y.acc i ∧ i ∈ z.nf ∧ st = stSATURATED)) ∧
          (y.dup.contains p.contrib = false → y.count + 1 = x.desc.nContrib → x.desc.fused = true → x.groupOf k = none →
            y.poison = false → x.desc.satDiscard = false → s.deadEnd d = false → (s.cluster d).room ≠ 0 →
            ∃ t z q st, exec (.contribution p) s = .next t ∧ repliedTo s t p st 4 0 [] ∧ (st = stOK ∨ st = stSATURATED) ∧
              t.stream p.cstream = some z ∧ k ∈ z.completed ∧ afind (t.cluster d).tiles m = none ∧
              (t.cluster d).queue = (s.cluster d).queue ++ [q] ∧ q.stream = p.cstream ∧ q.tile = k ∧ q.loc = .slot ∧
              q.slot = m ∧ (afind (t.cluster d).sums m).isSome = true ∧ samePool s t)) ∧
        (s.sramPlace p.cstream k g = none → x.spillSlot k = none → d = clusterOf x g (rankIn (s.regionTiles x g) k) →
          (s.cluster d).freeSlot = none → x.freeWs g = none →
          ∃ t, exec (.contribution p) s = .next t ∧ repliedTo s t p stRETRY 4 0 [] ∧ t.clusters = s.clusters ∧ samePool s t ∧
            tget 0 (t.vi x.owner).ctr 0x31D8 = tget 0 (s.vi x.owner).ctr 0x31D8 + 1))) ∧
    (x.desc.prePass = true → x.selTiles.head? = some k → (∀ r ∈ x.reports, r.1 ≠ p.contrib) →
      ∃ t y, exec (.maxExpReport p) s = .next t ∧ repliedTo s t p stOK 4 0 [] ∧ t.stream p.cstream = some y ∧
        y.reports = x.reports ++ [(p.contrib, if p.maxExp = -32768 then none else some p.maxExp)] ∧
        (y.reports.length ≠ x.desc.nContrib → y.anchor = x.anchor ∧ y.anchorAt = x.anchorAt) ∧
        (y.reports.length = x.desc.nContrib → g ∈ y.anchorAt ∧
          y.anchor = some (match (y.reports.filterMap (·.2)).max? with
            | some e => max (-128) (min 127 (e - 15))
            | none => x.desc.anchor)) ∧ samePool s t)) ∧
  (∀ (s : State) (n h : Nat) (x : Stream) (a : Int), s.stream n = some x → h < 12 → x.anchor = some a →
    ∃ t y, exec (.anchorReceive h n a) s = .next t ∧ t.stream n = some y ∧ h ∈ y.anchorAt ∧ y.anchor = some a ∧
      t.clusters = s.clusters ∧ samePool s t)

/-- ANSWER for a send context of a gather write: the context is closed and the write is answered for its stream,
tile and destination (DUP_IGNORED stands for completion); one that names no context changes nothing but the
ingress of its link die. MISS_LIMIT_EXPIRE of a miss with a limit and no waiter: not before its limit, and the
miss entry is closed; of a window without a limit nothing happens. (10_fabric_transport.md,
02_addressing_and_translation.md, 04_number_formats.md) -/
def Obligations.AnswersCloseWhatWaits : Prop :=
  ∀ (s : State) (p : Pkt), p.srcNode ≠ 4096 →
    (∀ q n k d x, (s.takeIn p).sendOf p = some q → q.msg.ptype ≠ 5 → q.ref = some (n, k, d) → s.stream n = some x → d < 8 →
      (k, d) ∈ x.unanswered →
      ∃ t y, exec (.answer p) s = .next t ∧ (∀ z ∈ (t.die p.dpg).sends, z.tag ≠ q.tag) ∧ t.stream n = some y ∧
        y.unanswered = x.unanswered.erase (k, d) ∧ samePool s t ∧
        (p.status = stOK ∨ p.status = stDUP → y.delivered[d]? = some (lget 0 x.delivered d + 1) ∧ y.firstFail = x.firstFail) ∧
        (p.status ≠ stOK → p.status ≠ stDUP → lget 0 x.firstFail d = 0 → y.firstFail[d]? = some p.status ∧
          y.delivered = x.delivered)) ∧
    ((s.takeIn p).sendOf p = none → exec (.answer p) s = .next (s.takeIn p)) ∧
    (∀ g w c m, g < 12 → w < 1024 → (s.region g).miss.find? (fun m => m.window == w && m.chunk == c) = some m →
      (m.dueAt = none → exec (.missLimitExpire g w c) s = .next s) ∧
      (∀ due, m.dueAt = some due → s.waiting = [] → s.opLooks = [] → (∀ x ∈ s.streams, x.2.relLooks = []) →
        (∀ e ∈ s.engines, e.2.claim = none) →
        ∃ t, exec (.missLimitExpire g w c) s = .next t ∧ t.now = max s.now due ∧
          (∀ e ∈ (t.region g).miss, ¬ (e.window = w ∧ e.chunk = c)) ∧ samePool s t))

/-- For a VI whose page answers. REGISTER_WRITE: of the command buffer it stores its bytes there; of DOORBELL with
GO, when the part is ready and no command is in progress, it runs the command that the buffer holds (shown for
CMD_NOP); a misaligned write below or above the buffer changes nothing. EQ_ENABLE with no partner: EQ_EN rises
only with a ring that lies inside one extent and window of the VI, and then TAIL becomes HEAD; EQ_IE and DONE_IE
are the written ones. EQ_HEAD_WRITE moves HEAD unless the value is beyond TAIL. COUNTER_READ_CLEAR of a
function's counter answers its 8 bytes to the host port, and clears it when it is one that a read clears.
(14_virtual_interfaces_and_mailboxes.md) -/
def Obligations.PagesTakeRegisterWrites : Prop :=
  ∀ (s : State) (p : Nat), p < 1024 → s.viExists p = true →
    (s.pageLive p = true →
      (∀ off width v, 0x1000 ≤ off → off + width ≤ 0x2000 →
        exec (.registerWrite p off width v) s =
          .next (s.modPage p (fun g => { g with cmdBuf := patch g.cmdBuf (off - 0x1000) (toLe width v.toNat) }))) ∧
      (∀ v c, tbit v.toNat 0 = true → s.ready = true → (s.page p).busy = false → parseCmd (s.page p).cmdBuf = (0x0001, c) →
        exec (.registerWrite p 0x10 8 v) s = exec (.cmdNop p c) s) ∧
      (∀ off width v, off ≠ 0x10 → (off ≠ 0x48 ∨ s.ready = true) → (off + width ≤ 0x1000 ∨ 0x2000 ≤ off) → 0 < width →
        off % width ≠ 0 → exec (.registerWrite p off width v) s = .next s)) ∧
    (∀ v : Word64, s.mirrors = false →
      ∃ t, exec (.eqEnable p v) s = .next t ∧ (t.page p).doneIe = tbit v.toNat 2 ∧ (t.page p).eqIe = tbit v.toNat 1 ∧
        ((s.page p).eqEn = true → (t.page p).eqEn = tbit v.toNat 0 ∧ (t.page p).eqSize = (s.page p).eqSize ∧
          (t.page p).tail = (s.page p).tail) ∧
        ((s.page p).eqEn = false → bitf v.toNat 19 16 ≤ 10 → (t.page p).eqSize = bitf v.toNat 19 16 ∧
          (t.page p).eqEn = (tbit v.toNat 0 && s.ringOk p (s.page p).eqBase (bitf v.toNat 19 16)) ∧
          ((t.page p).eqEn = true → (t.page p).tail = (s.page p).head) ∧
          ((t.page p).eqEn = false → (t.page p).tail = (s.page p).tail)) ∧
        (t.page p).head = (s.page p).head ∧ (t.page p).eqBase = (s.page p).eqBase ∧ samePool s t ∧
        ∀ q, q ≠ p → t.vi q = s.vi q) ∧
    (∀ v : Word64, exec (.eqHeadWrite p v) s = .next (s.modPage p (fun g =>
      { g with head := if later 32 (v.toNat % 2 ^ 32) g.tail.toNat then g.head else v.setWidth 32 }))) ∧
    (∀ off, isTenant p = false → 0x3000 ≤ off → off < 0x4000 → off % 8 = 0 →
      ∃ t o, exec (.counterReadClear p off) s = .next t ∧ t.outbox = s.outbox ++ [o] ∧ o.dest = .host (complexOf p) ∧
        o.pkt.payload = toLe 8 (s.counterNow p off).toNat ∧
        tget 0 (t.vi p).ctr off = (if off = 0x3120 ∨ off = 0x3160 then 0 else tget 0 (s.vi p).ctr off) ∧
        (∀ x, x ≠ off → tget 0 (t.vi p).ctr x = tget 0 (s.vi p).ctr x) ∧ samePool s t)

/-- EVENT_RECORD_WRITE of a VI whose complex is up: with EQ_EN = 0 what the queue holds is dropped and counted; with
EQ_EN = 1, records waiting, none lost before and room in the ring, the first is written at TAIL through the VI's
window and TAIL moves on by 1. PAGE_ACCESS from the page node of an enabled tenant to its page granule: a read
is answered with the register's bytes, and a write of HEAD takes effect as EQ_HEAD_WRITE; neither touches the
pool. (14_virtual_interfaces_and_mailboxes.md) -/
def Obligations.EventsAndPageGranules : Prop :=
  ∀ (s u : State) (v : Nat), v < 1024 →
    (s.complexUp (complexOf v) = true →
      ((s.page v).eqEn = false →
        ∃ t, exec (.eventRecordWrite v) s = .next t ∧ (t.page v).evq = [] ∧ samePool s t ∧
          tget 0 (t.vi v).ctr 0x3028 = tget 0 (s.vi v).ctr 0x3028 + BitVec.ofNat 64 (s.page v).evq.length) ∧
      (∀ e r, (s.page v).eqEn = true → (s.page v).evq = e :: r → (s.page v).lost = 0 →
        ((s.page v).tail.toNat + 2 ^ 32 - (s.page v).head.toNat) % 2 ^ 32 < ringSize (s.page v).eqSize - 1 →
        s.writeOp (.event v) ⟨bitf (s.page v).eqBase.toNat 51 42,
            bitf (s.page v).eqBase.toNat 41 0 + 32 * ((s.page v).tail.toNat % ringSize (s.page v).eqSize), 32⟩
          (toLe 2 e.typ ++ toLe 2 e.status ++ toLe 4 (s.page v).tail.toNat ++ slice e.payload 0 24) = (0, u) →
        ∃ t, exec (.eventRecordWrite v) s = .next t ∧ (t.page v).tail = (s.page v).tail + 1 ∧ (t.page v).evq = r ∧
          (t.page v).head = (s.page v).head ∧ t.dram = u.dram)) ∧
    (∀ (p : Pkt) (w : Win), s.admits p = true → w = s.win (addrWindow p.addr) →
      s.stackServes (stackOf (w.basePa + addrOffset p.addr)) = true → s.complexUp (complexOf v) = true →
      s.boot.unlocked.contains (.k (complexOf v)) = false →
      (p.ptype = 1 → s.pageHit { p with subop := 0 } = some v →
        ∃ t, exec (.pageAccess p) s = .next t ∧ samePool s t ∧
          repliedTo s t p stOK 2 0 (s.readReg v ((w.basePa + addrOffset p.addr) % granuleBytes) p.opLen).1) ∧
      (p.ptype = 2 → s.pageHit { p with subop := 0 } = some v → (w.basePa + addrOffset p.addr) % granuleBytes = 0x38 →
        p.payload.length = 8 →
        ∃ t, exec (.pageAccess p) s = .next t ∧ samePool s t ∧ repliedTo s t p stOK 4 0 [] ∧
          (t.page v).head = (if later 32 (leNat p.payload % 2 ^ 32) (s.page v).tail.toNat then (s.page v).head
            else BitVec.ofNat 32 (leNat p.payload))))

/-- RCV_CHUNK in phase 0x04 with an offset that is a multiple of 4 KiB up to 16 MiB and PERST# deasserted takes the
4,096 bytes of function 0's command buffer into the port's image. RCV_END runs an image that passes every check
from the port (phase 0x06, BOOT_ERR 0) and leaves BOOT_ERR 0x0011 for any other. In an open session of a port
whose complex is up, while an unrevoked slot holds a root (else each is answered BOUND and changes nothing: the
model's reading, log entry 204): KEY_SET of a VI of the complex with zero padding makes its key the first 48
bytes, its counter 0 and its saved answer gone; KEY_CLEAR clears the key; SIGN_KEY_SET, from a VI of the
complex, stores the one signing key; each is answered OK; SIGN_KEY_SET of another complex's VI BOUND.
SPDM_REQUEST, after a key exchange, opens a session exactly for a root that an unrevoked slot holds, answers
measurements, and closes. (15_boot_reset_and_chain.md, 14_virtual_interfaces_and_mailboxes.md,
08_tack_programs.md) -/
def Obligations.RecoveryAndSessionsOfAHostPort : Prop :=
  ∀ (s : State) (d : Nat), d < 2 →
    (∀ off, s.boot.phase = 0x04 → (s.hostPort d).perst = false →
      (off % 4096 = 0 → off ≤ 0x1000000 →
        exec (.rcvChunk d off) s = .next (s.modComplex d (fun x =>
          { x with rcv := patch x.rcv off (slice (s.page (pfOf d)).cmdBuf 0 4096), rcvReady := true }))) ∧
      (off % 4096 ≠ 0 ∨ 0x1000000 < off → exec (.rcvChunk d off) s = .next s) ∧
      (bootImageErr (slice (s.complex d).rcv 0 off) = 0 →
        ∃ t, exec (.rcvEnd d off) s = .next t ∧ t.boot.phase = 0x06 ∧ t.boot.err = 0 ∧ t.boot.source = 1 + d ∧
          t.boot.digest = imageDigest (slice (s.complex d).rcv 0 off) ∧ (t.complex d).rcv = [] ∧
          (t.complex d).rcvReady = false ∧ t.boot.flash = s.boot.flash) ∧
      (bootImageErr (slice (s.complex d).rcv 0 off) ≠ 0 →
        exec (.rcvEnd d off) s = .next { s with boot := { s.boot with err := 0x0011 } })) ∧
    (∀ m : SpdmVendor, (s.complex d).session = true → s.complexUp d = true → m.vi.toNat < 1024 →
      (s.aon.roots.all (fun r => r.1.isNone || r.2) = true → ∀ i, i = .keySet d m ∨ i = .keyClear d m ∨ i = .signKeySet d m →
        ∃ t o, exec i s = .next t ∧ t.outbox = s.outbox ++ [o] ∧ o.pkt.payload = toLe 2 stBOUND ∧ t.vis = s.vis ∧
          t.complexes = s.complexes) ∧
      (s.aon.roots.all (fun r => r.1.isNone || r.2) = false →
      (m.msg = 1 → complexOf m.vi.toNat = d → isZero (slice m.key 48 48) = true → s.mirrors = false →
        ∃ t o, exec (.keySet d m) s = .next t ∧ t.outbox = s.outbox ++ [o] ∧ o.dest = .host d ∧
          o.pkt.payload = toLe 2 stOK ∧
          t.vi m.vi.toNat = { s.vi m.vi.toNat with key := some (slice m.key 0 48), counter := 0, saved := none } ∧
          ∀ v, v ≠ m.vi.toNat → t.vi v = s.vi v) ∧
      (m.msg = 2 → complexOf m.vi.toNat = d → isZero m.key = true → s.mirrors = false →
        ∃ t o, exec (.keyClear d m) s = .next t ∧ t.outbox = s.outbox ++ [o] ∧ o.pkt.payload = toLe 2 stOK ∧
          t.vi m.vi.toNat = { s.vi m.vi.toNat with key := none } ∧ ∀ v, v ≠ m.vi.toNat → t.vi v = s.vi v) ∧
      (m.msg = 3 → complexOf m.vi.toNat = d →
        ∃ t o, exec (.signKeySet d m) s = .next t ∧ t.outbox = s.outbox ++ [o] ∧ o.pkt.payload = toLe 2 stOK ∧
          t.complex d = { s.complex d with signKey := some (m.keyId, slice m.key 0 96) } ∧
          (∀ e, e ≠ d → t.complex e = s.complex e) ∧ t.vis = s.vis) ∧
      (m.msg = 3 → complexOf m.vi.toNat ≠ d →
        ∃ t o, exec (.signKeySet d m) s = .next t ∧ t.outbox = s.outbox ++ [o] ∧ o.pkt.payload = toLe 2 stBOUND ∧
          t.complexes = s.complexes ∧ t.vis = s.vis))) ∧
    (s.complexUp d = true →
      (∀ share, ∃ t, exec (.spdmRequest d (.keyExchange share)) s = .next t ∧ (t.complex d).handshake = true ∧
        (t.complex d).session = (s.complex d).session ∧ t.vis = s.vis) ∧
      (∀ root, ∃ t, exec (.spdmRequest d (.openSession root)) s = .next t ∧ (t.complex d).handshake = false ∧
        (t.complex d).session = ((s.complex d).session ||
          ((s.complex d).handshake && s.aon.roots.any (fun r => r.1 == some root && !r.2))) ∧ t.vis = s.vis) ∧
      (∀ n, ∃ t o, exec (.spdmRequest d (.measurement n)) s = .next t ∧ t.outbox = s.outbox ++ [o] ∧
        o.pkt.payload = s.measurement n ∧ t.complexes = s.complexes) ∧
      (∃ t, exec (.spdmRequest d .close) s = .next t ∧ (t.complex d).session = false))

/-- For every instruction of an engine, with every value of every field, decoding the word that encodes it for its
engine gives the instruction back; no other command has a word; and a word that decodes to an instruction is
that instruction's own encoding, so that two instructions never share a word. (08_tack_programs.md) -/
def Obligations.TackWordsRoundTrip : Prop :=
  (∀ (i : Instr) (w : Word64), encodeTack i = some w → ∃ e, decodeTack e w = some i) ∧
  (∀ (e : Nat) (w : Word64) (i : Instr), decodeTack e w = some i → encodeTack i = some w) ∧
  (∀ (e d : Nat) (w : Word64) (i : Instr), decodeTack e w = some i → (decodeTack d w).isSome = true) ∧
  (∀ (i : Instr) (f : TackFields) (op : TackOp), tackOf i = some (f, op) → (encodeTack i).isSome = true)

/-- Instruction words written out from the encoding: NOP, the spec's own example `VMUL V0, I0, S5`
(0x1080_0805_0040_0000), a VFMA whose first source is S1, SMOVI, OUTS to O0 at strip 1 and VPGET; and three
encodings that are not listed (class 0x1 operation 11, class 0x8, class 0x0 operation 1), which decode to
nothing. (08_tack_programs.md) -/
def Obligations.TackWordsOfTheSpec : Prop :=
  decodeTack 0 0x0000000000000000#64 = some (.nop 0 ⟨0, false, 0, 0, 0, 0, 0, 0, 0⟩) ∧
  decodeTack 3 0x1080080500400000#64 = some (.vmul 3 ⟨0, false, 0, 0x20, 5, 0, 0, 2, 0⟩) ∧
  decodeTack 7 0x6380120000000000#64 = some (.smovi 7 ⟨0, false, 0x01, 0x08, 0, 0, 0, 0, 0⟩) ∧
  decodeTack 5 0x10C0206200200000#64 = some (.vfma 5 ⟨0, false, 2, 1, 0x22, 0, 0, 1, 0⟩) ∧
  decodeTack 0 0x7042800000000080#64 = some (.outs 0 ⟨0, false, 0x28, 0, 0, 0, 0, 0, 0x80⟩) ∧
  decodeTack 0 0x5100000000000000#64 = some (.vpget 0 ⟨0, false, 0, 0, 0, 0, 0, 0, 0⟩) ∧
  decodeTack 0 0x12C0000000000000#64 = none ∧ decodeTack 0 0x8000000000000000#64 = none ∧
  decodeTack 0 0x0040000000000000#64 = none

/-- An engine that issues VADD, VSUB, VMUL, VFMA, VFNMA, VDIV, VSQRT, VMIN, VMAX, VABS or VNEG. Every active lane of
the destination takes the exact result of the lanes of the sources rounded once to the format (INT8: the integer
saturated), with MOD applied; a lane that is not active is cleared under PZ and kept otherwise. A vector
register destination is the only register that changes; an outlet is written as its binding says. The program
moves on by one place, and no other engine, no pool byte and no other state changes but the count of saturated
elements. (08_tack_programs.md, 04_number_formats.md) -/
def Obligations.VectorArithmeticRounds : Prop :=
  ∀ (s : State) (e : Nat) (r : TileRun) (c : Ctx) (f : TackFields), issues s e r c →
    ∀ (i : Instr) (fp : Val → Val → Val → Val) (int : Int → Int → Int → Int),
      (i = .vadd e f ∧ fp = (fun a b _ => a.add b) ∧ int = fun a b _ => a + b) ∨
      (i = .vsub e f ∧ fp = (fun a b _ => a.add b.neg) ∧ int = fun a b _ => a - b) ∨
      (i = .vmul e f ∧ fp = (fun a b _ => a.mul b) ∧ int = fun a b _ => a * b) ∨
      (i = .vfma e f ∧ fp = (fun a b d => (a.mul b).add d) ∧ int = fun a b d => a * b + d) ∨
      (i = .vfnma e f ∧ fp = (fun a b d => (a.mul b).neg.add d) ∧ int = fun a b d => d - a * b) ∨
      (i = .vdiv e f ∧ fp = (fun a b _ => a.div b) ∧ int = (fun a _ _ => a) ∧ f.fmt ≠ 5#3) ∨
      (i = .vsqrt e f ∧ fp = (fun a _ _ => a.sqrt) ∧ int = (fun a _ _ => a) ∧ f.fmt ≠ 5#3) ∨
      (i = .vmin e f ∧ fp = (fun a b _ => a.minN b) ∧ int = fun a b _ => min a b) ∨
      (i = .vmax e f ∧ fp = (fun a b _ => a.maxN b) ∧ int = fun a b _ => max a b) ∨
      (i = .vabs e f ∧ fp = (fun a _ _ => a.abs) ∧ int = fun a _ _ => if a < 0 then -a else a) ∨
      (i = .vneg e f ∧ fp = (fun a _ _ => a.neg) ∧ int = fun a _ _ => -a) →
      parityHolds s e r c i →
      ∃ t, exec i s = .next t ∧ lanesGoTo s t e r c f.fmt.toNat f f.pz (predLane c (atIssue s e r c) f.pred.toNat) (fun l =>
        let a := srcLane c (atIssue s e r c) f f.fmt.toNat 1 f.src1 l
        let b := srcLane c (atIssue s e r c) f f.fmt.toNat 2 f.src2 l
        let d := srcLane c (atIssue s e r c) f f.fmt.toNat 3 f.src3 l
        applyMod f.fmt.toNat (f.xf.toNat % 4)
          (if f.fmt = 5#3 then satInt8 (int (sext 8 a) (sext 8 b) (sext 8 d))
           else (roundOp (elemFmt f.fmt.toNat) (fp (laneVal f.fmt.toNat a) (laneVal f.fmt.toNat b)
             (laneVal f.fmt.toNat d))).1))

/-- An engine that issues VMOV, VAND, VOR, VXOR, VSHL or VSHR: every active lane of the destination takes the bits
of the first source's lane, their AND, OR or XOR with the second's, or the lane shifted by the low 5 bits of XF
with zeros filled in; other lanes as PZ says. VSEL takes the first source's lane where the predicate holds and
the second's elsewhere; VBCAST the scalar SRC1 in every active lane; VINS the scalar in the one lane that SRC2
names, where it is active, and PZ clears the register's lanes that are not; VEXT puts the lane that SRC2 names,
zero-extended, into a scalar register. VINS and VEXT of a lane that the format does not have end the tile with
an illegal-instruction fault. (08_tack_programs.md) -/
def Obligations.VectorMovesAndBits : Prop :=
  ∀ (s : State) (e : Nat) (r : TileRun) (c : Ctx) (f : TackFields), issues s e r c →
    (∀ (i : Instr) (op : Nat → Nat → Nat),
      (i = .vmov e f ∧ op = fun a _ => a) ∨ (i = .vand e f ∧ op = fun a b => a &&& b) ∨
      (i = .vor e f ∧ op = fun a b => a ||| b) ∨ (i = .vxor e f ∧ op = fun a b => a ^^^ b) ∨
      (i = .vshl e f ∧ op = fun a _ => a <<< (f.xf.toNat % 32)) ∨
      (i = .vshr e f ∧ op = fun a _ => a >>> (f.xf.toNat % 32)) →
      parityHolds s e r c i →
      ∃ t, exec i s = .next t ∧ lanesGoTo s t e r c f.fmt.toNat f f.pz (predLane c (atIssue s e r c) f.pred.toNat) (fun l =>
        op (srcLane c (atIssue s e r c) f f.fmt.toNat 1 f.src1 l) (srcLane c (atIssue s e r c) f f.fmt.toNat 2 f.src2 l) %
          2 ^ laneBits f.fmt.toNat)) ∧
    (parityHolds s e r c (.vsel e f) → ∃ t, exec (.vsel e f) s = .next t ∧ lanesGoTo s t e r c f.fmt.toNat f false (fun l => decide (l < 128)) (fun l =>
      if predLane c (atIssue s e r c) f.pred.toNat l then srcLane c (atIssue s e r c) f f.fmt.toNat 1 f.src1 l
      else srcLane c (atIssue s e r c) f f.fmt.toNat 2 f.src2 l)) ∧
    (∃ t, exec (.vbcast e f) s = .next t ∧
      lanesGoTo s t e r c f.fmt.toNat f f.pz (predLane c (atIssue s e r c) f.pred.toNat)
        (fun _ => ((atIssue s e r c).sreg f.src1.toNat).toNat % 2 ^ laneBits f.fmt.toNat)) ∧
    (((atIssue s e r c).sreg f.src2.toNat).toNat < lanesOf f.fmt.toNat →
      (∃ t, exec (.vins e f) s = .next t ∧
        (f.dst.toNat < 0x20 → lanesGoTo s t e r c f.fmt.toNat f f.pz (predLane c (atIssue s e r c) f.pred.toNat) (fun l =>
          if l = ((atIssue s e r c).sreg f.src2.toNat).toNat then
            ((atIssue s e r c).sreg f.src1.toNat).toNat % 2 ^ laneBits f.fmt.toNat
          else laneOf (laneBits f.fmt.toNat) (tget 0 (atIssue s e r c).v f.dst.toNat) l)) ∧
        (0x20 ≤ f.dst.toNat →
          lanesGoTo s t e r c f.fmt.toNat f false (fun l => l == ((atIssue s e r c).sreg f.src2.toNat).toNat &&
            predLane c (atIssue s e r c) f.pred.toNat l)
            (fun _ => ((atIssue s e r c).sreg f.src1.toNat).toNat % 2 ^ laneBits f.fmt.toNat))) ∧
      (parityHolds s e r c (.vext e f) → ∃ t sat, exec (.vext e f) s = .next t ∧
        issuedAs s t e r c ((atIssue s e r c).setS f.dst.toNat (BitVec.ofNat 64
          (srcLane c (atIssue s e r c) f f.fmt.toNat 1 f.src1
            ((atIssue s e r c).sreg f.src2.toNat).toNat))) c.firstOut sat)) ∧
    (lanesOf f.fmt.toNat ≤ ((atIssue s e r c).sreg f.src2.toNat).toNat →
      ∀ i, i = .vins e f ∨ i = .vext e f → ∃ t, exec i s = .next t ∧ faultsAs s t e r c .illegal)

/-- An engine that issues VCMP, PAND, POR, PNOT or PSET: each active lane of predicate DST (P1 to P5) takes the
condition of the two sources' lanes, the AND, OR or complement of the source predicates, or bit 0 of XF; a lane
that is not active is cleared under PZ and kept otherwise, and VCMP clears the lanes that its format does not
have. A write of P0, P6 or P7 changes nothing. No vector, scalar or accumulator register, no scratch byte and no
other engine changes. (08_tack_programs.md) -/
def Obligations.PredicatesTakeConditions : Prop :=
  ∀ (s : State) (e : Nat) (r : TileRun) (c : Ctx) (f : TackFields), issues s e r c →
    ∀ (i : Instr) (has new : Nat → Bool),
      (i = .vcmp e f ∧ has = (fun l => decide (l < lanesOf f.fmt.toNat)) ∧ new = fun l =>
        condHolds f.fmt.toNat (f.xf.toNat % 8) (srcLane c (atIssue s e r c) f f.fmt.toNat 1 f.src1 l)
          (srcLane c (atIssue s e r c) f f.fmt.toNat 2 f.src2 l)) ∨
      (i = .pand e f ∧ has = (fun _ => true) ∧ new = fun l =>
        predLane c (atIssue s e r c) (f.src1.toNat % 8) l && predLane c (atIssue s e r c) (f.src2.toNat % 8) l) ∨
      (i = .por e f ∧ has = (fun _ => true) ∧ new = fun l =>
        predLane c (atIssue s e r c) (f.src1.toNat % 8) l || predLane c (atIssue s e r c) (f.src2.toNat % 8) l) ∨
      (i = .pnot e f ∧ has = (fun _ => true) ∧ new = fun l => !predLane c (atIssue s e r c) (f.src1.toNat % 8) l) ∨
      (i = .pset e f ∧ has = (fun _ => true) ∧ new = fun _ => f.xf.getLsbD 0) →
      parityHolds s e r c i →
      ∃ t, exec i s = .next t ∧
        (f.dst.toNat % 8 = 0 ∨ 6 ≤ f.dst.toNat % 8 → ∃ sat, issuedAs s t e r c (atIssue s e r c) c.firstOut sat) ∧
        (1 ≤ f.dst.toNat % 8 → f.dst.toNat % 8 < 6 →
          ∃ x sat, issuedAs s t e r c { atIssue s e r c with p := tset 0 (atIssue s e r c).p (f.dst.toNat % 8) x } c.firstOut sat ∧
            ∀ l, l < 128 → tbit x l = if has l then
                (if predLane c (atIssue s e r c) f.pred.toNat l then new l
                 else !f.pz && predLane c (atIssue s e r c) (f.dst.toNat % 8) l)
              else false)

/-- An engine that issues VCVT into a vector register: the 32 lanes of the destination group take the conversions of
the 32 lanes of the source group where they are active; the group's other lanes are cleared under PZ, and no
other lane changes. PACC appends the active lanes, with their element indices in lane order, to accumulator A;
PGET puts the rounded sum of accumulator A into a scalar register; PRES puts the sums of 32 segments of it into
a vector. VPACC appends active lane l to column l of accumulator Q (with XF bit 0, of the other of a pair in odd
strips); VPGET puts the 32 column sums of Q into a vector. Nothing else of the engine changes.
(08_tack_programs.md, 04_number_formats.md) -/
def Obligations.ConversionsAndAccumulators : Prop :=
  ∀ (s : State) (e : Nat) (r : TileRun) (c : Ctx) (f : TackFields), issues s e r c →
    (f.dst.toNat < 0x20 → parityHolds s e r c (.vcvt e f) → ∃ t x sat, exec (.vcvt e f) s = .next t ∧
      issuedAs s t e r c { atIssue s e r c with v := tset 0 (atIssue s e r c).v f.dst.toNat x } c.firstOut sat ∧
      ∀ src dst sp dp, src = (f.xf.extractLsb' 18 3).toNat → dst = (f.xf.extractLsb' 15 3).toNat →
        sp = (f.xf.extractLsb' 3 2).toNat → dp = (f.xf.extractLsb' 1 2).toNat → ∀ l, l < lanesOf dst →
        laneOf (laneBits dst) x l =
          if l / 32 ≠ dp then laneOf (laneBits dst) (tget 0 (atIssue s e r c).v f.dst.toNat) l
          else if predLane c (atIssue s e r c) f.pred.toNat (l % 32) then
            (laneConv src dst (c.draw (f.xf.extractLsb' 13 2).toNat (f.xf.extractLsb' 5 8).toNat
              (c.elem c.strip (if lanesOf src = c.width then 32 * sp + l % 32 else 32 * dp + l % 32)))
              (lget 0 (source c (atIssue s e r c) src false f.src1.toNat).1 (32 * sp + l % 32))).1 % 2 ^ laneBits dst
          else if f.pz then 0 else laneOf (laneBits dst) (tget 0 (atIssue s e r c).v f.dst.toNat) l) ∧
    (parityHolds s e r c (.pacc e f) → ∃ t sat, exec (.pacc e f) s = .next t ∧ issuedAs s t e r c { atIssue s e r c with
        a := tset [] (atIssue s e r c).a (f.dst.toNat % 4) (tget [] (atIssue s e r c).a (f.dst.toNat % 4) ++
          ((List.range 32).filter (predLane c (atIssue s e r c) f.pred.toNat)).map (fun l =>
            (c.elem c.strip l, BitVec.ofNat 32 (srcLane c (atIssue s e r c) f 0 1 f.src1 l)))) } c.firstOut sat) ∧
    (∃ t, exec (.pget e f) s = .next t ∧ issuedAs s t e r c ((atIssue s e r c).setS f.dst.toNat
        ((psum ((tget [] (atIssue s e r c).a (f.src1.toNat % 4)).map (·.2))).setWidth 64)) c.firstOut 0) ∧
    (∃ t, exec (.pres e f) s = .next t ∧
      lanesGoTo s t e r c 0 f false (fun l => decide (l < 128)) (fun l => (psum
        (((tget [] (atIssue s e r c).a (f.src1.toNat % 4)).filter (fun x =>
          (if lget 0 c.prog.segs (f.src1.toNat % 4) = 0 then 0 else x.1 / 2 ^ lget 0 c.prog.segs (f.src1.toNat % 4)) ==
            32 * b2n (f.xf.getLsbD 0) + l)).map (·.2))).toNat)) ∧
    (parityHolds s e r c (.vpacc e f) → ∃ t q sat, exec (.vpacc e f) s = .next t ∧ issuedAs s t e r c { atIssue s e r c with q := q } c.firstOut sat ∧
      ∀ k, k = f.dst.toNat % 4 ^^^ (if f.xf.getLsbD 0 && !c.once then c.strip % 2 else 0) →
        (∀ l, l < 32 → tget [] q (128 * k + l) = tget [] (atIssue s e r c).q (128 * k + l) ++
          (if predLane c (atIssue s e r c) f.pred.toNat l then [BitVec.ofNat 32 (srcLane c (atIssue s e r c) f 0 1 f.src1 l)]
           else [])) ∧
        (∀ n, (∀ l, l < 32 → n ≠ 128 * k + l) → tget [] q n = tget [] (atIssue s e r c).q n)) ∧
    (∃ t, exec (.vpget e f) s = .next t ∧ lanesGoTo s t e r c 0 f false (fun l => decide (l < 128)) (fun l =>
      (psum (tget [] (atIssue s e r c).q (128 * (f.src1.toNat % 4) + l))).toNat))

/-- An engine that issues a scalar instruction writes register DST alone: SADD, SSUB, SMUL, SFMA, SDIV, SSQRT, SMIN
and SMAX the FP32 result of the low halves with zeros above; SIADD, SISUB, SAND and SOR the 64-bit result; SSHL
and SSHR the first source shifted by the second when that is below 64, and for a larger amount a value that the
spec does not state (log entry on scalar shifts); SMOVI the low 32 bits of its word. NOP writes nothing. The
program moves on by one place and nothing else changes. (08_tack_programs.md) -/
def Obligations.ScalarInstructions : Prop :=
  ∀ (s : State) (e : Nat) (r : TileRun) (c : Ctx) (f : TackFields), issues s e r c →
    ∀ (a b d : Word64), a = (atIssue s e r c).sreg f.src1.toNat → b = (atIssue s e r c).sreg f.src2.toNat →
      d = (atIssue s e r c).sreg f.src3.toNat →
      (∃ t, exec (.nop e f) s = .next t ∧ issuedAs s t e r c (atIssue s e r c) c.firstOut 0) ∧
      (∀ (i : Instr) (v : Word32),
        (i = .sadd e f ∧ v = fAdd (a.setWidth 32) (b.setWidth 32)) ∨ (i = .ssub e f ∧ v = fSub (a.setWidth 32) (b.setWidth 32)) ∨
        (i = .smul e f ∧ v = fMul (a.setWidth 32) (b.setWidth 32)) ∨
        (i = .sfma e f ∧ v = fFma (a.setWidth 32) (b.setWidth 32) (d.setWidth 32)) ∨
        (i = .sdiv e f ∧ v = fDiv (a.setWidth 32) (b.setWidth 32)) ∨
        (i = .ssqrt e f ∧ v = toF32 (f32 (a.setWidth 32)).sqrt) ∨
        (i = .smin e f ∧ v = toF32 ((f32 (a.setWidth 32)).minN (f32 (b.setWidth 32)))) ∨
        (i = .smax e f ∧ v = toF32 ((f32 (a.setWidth 32)).maxN (f32 (b.setWidth 32)))) →
        ∃ t, exec i s = .next t ∧ issuedAs s t e r c ((atIssue s e r c).setS f.dst.toNat (0#32 ++ v)) c.firstOut 0) ∧
      (∀ (i : Instr) (v : Word64),
        (i = .siadd e f ∧ v = a + b) ∨ (i = .sisub e f ∧ v = a - b) ∨ (i = .sand e f ∧ v = a &&& b) ∨
        (i = .sor e f ∧ v = a ||| b) ∨ (i = .sshl e f ∧ b.toNat < 64 ∧ v = a <<< b) ∨
        (i = .sshr e f ∧ b.toNat < 64 ∧ v = a >>> b) ∨
        (i = .smovi e f ∧ v = (0#32 ++ (f.src3 ++ f.fmt ++ f.ssel ++ f.xf : BitVec 32))) →
        ∃ t, exec i s = .next t ∧ issuedAs s t e r c ((atIssue s e r c).setS f.dst.toNat v) c.firstOut 0) ∧
      (∀ i, i = .sshl e f ∨ i = .sshr e f → 64 ≤ b.toNat →
        ∃ t v, exec i s = .next t ∧ issuedAs s t e r c ((atIssue s e r c).setS f.dst.toNat v) c.firstOut 0)

/-- An engine that issues INS or OUTS with a strip X inside its binding moves that strip: INS puts its lanes, in the
register format, into the destination, OUTS writes the active lanes of its source to it. VLD, VST, VLDB, SLD and
SST with an aligned X inside the 16 KiB work area load 128 bytes into the destination, store the 128 bytes of a
source (an inlet's lanes and an outlet's in its register format), spread 4 bytes over every FP32 lane, load 8
bytes and store 8 bytes at it; a store leaves every other byte of scratch as it was. An access outside its
binding or the work area, or a misaligned one, ends the tile with a sandbox fault. An instruction of any class
that reads a scratch byte whose parity bit is wrong, through an inlet or in the work area, ends the tile with a
scratch-parity fault and writes nothing; what the result statements of all classes say holds where every byte
that the instruction reads has good parity. (08_tack_programs.md) -/
def Obligations.ScratchAccessesStayInside : Prop :=
  (∀ (s : State) (e : Nat) (r : TileRun) (c : Ctx) (f : TackFields), issues s e r c →
    ∀ (g : Engine) (x : Nat), g = atIssue s e r c → x = addrX g f →
      (∀ b, b = lget Bind.none c.prog.ins (f.src1.toNat - 0x20) →
        (b.holdsStrip c x = true → parityHolds s e r c (.ins e f) → ∃ t, exec (.ins e f) s = .next t ∧
          (f.dst.toNat < 0x20 →
            lanesGoTo s t e r c b.rfmt f false (fun l => decide (l < 128)) (lget 0 (readInlet c g f.src1.toNat b x).1)) ∧
          (0x20 ≤ f.dst.toNat → ∃ o sat, issuedAs s t e r c o.eng o.firstOut sat ∧
            o = writeOutlet c g f.dst.toNat (lget Bind.none c.prog.outs (f.dst.toNat - 0x28)) c.strip (List.replicate 128 true)
              (readInlet c g f.src1.toNat b x).1)) ∧
        (b.holdsStrip c x = false → ∃ t, exec (.ins e f) s = .next t ∧ faultsAs s t e r c .sandbox)) ∧
      (∀ b, b = lget Bind.none c.prog.outs (f.dst.toNat - 0x28) →
        (b.holdsStrip c x = true → parityHolds s e r c (.outs e f) → ∃ t o sat, exec (.outs e f) s = .next t ∧
          o = writeOutlet c g f.dst.toNat b x ((List.range 128).map (predLane c g f.pred.toNat)) (source c g b.rfmt false f.src1.toNat).1 ∧
          issuedAs s t e r c o.eng o.firstOut sat) ∧
        (b.holdsStrip c x = false → ∃ t, exec (.outs e f) s = .next t ∧ faultsAs s t e r c .sandbox)) ∧
      (x % 128 = 0 → x + 128 ≤ 0x4000 →
        (parityHolds s e r c (.vld e f) → ∃ t, exec (.vld e f) s = .next t ∧ ∀ fmt, fmt = outletFmt c f.dst.toNat →
          lanesGoTo s t e r c fmt f false (fun l => decide (l < 128))
            (laneOf (laneBits fmt) (leNat (memBytes g.scratch (0x1C000 + x) 128)))) ∧
        (Memory.wf g.scratch = true → parityHolds s e r c (.vst e f) →
          ∃ t h sat, exec (.vst e f) s = .next t ∧ issuedAs s t e r c h c.firstOut sat ∧
          h = { g with scratch := h.scratch, badBytes := g.badBytes.filter (fun k => decide (k < 0x1C000 + x ∨ 0x1C000 + x + 128 ≤ k)) } ∧
          (∀ fmt l, fmt = inletFmt c f.src1.toNat → l < lanesOf fmt →
            laneOf (laneBits fmt) (leNat (memBytes h.scratch (0x1C000 + x) 128)) l =
              lget 0 (source c g fmt false f.src1.toNat).1 l % 2 ^ laneBits fmt) ∧
          (∀ k, k < 0x1C000 + x ∨ 0x1C000 + x + 128 ≤ k → memByte h.scratch k = memByte g.scratch k))) ∧
      (x % 4 = 0 → x + 4 ≤ 0x4000 → parityHolds s e r c (.vldb e f) → ∃ t, exec (.vldb e f) s = .next t ∧
        lanesGoTo s t e r c 0 f false (fun l => decide (l < 128)) (fun l =>
          if l < 32 then leNat (memBytes g.scratch (0x1C000 + x) 4) else 0)) ∧
      (x % 8 = 0 → x + 8 ≤ 0x4000 →
        (parityHolds s e r c (.sld e f) → ∃ t, exec (.sld e f) s = .next t ∧ issuedAs s t e r c
          (g.setS f.dst.toNat (BitVec.ofNat 64 (leNat (memBytes g.scratch (0x1C000 + x) 8)))) c.firstOut 0) ∧
        (Memory.wf g.scratch = true → ∃ t h, exec (.sst e f) s = .next t ∧ issuedAs s t e r c h c.firstOut 0 ∧
          h = { g with scratch := h.scratch, badBytes := g.badBytes.filter (fun k => decide (k < 0x1C000 + x ∨ 0x1C000 + x + 8 ≤ k)) } ∧
          leNat (memBytes h.scratch (0x1C000 + x) 8) = (g.sreg f.src1.toNat).toNat ∧
          (∀ k, k < 0x1C000 + x ∨ 0x1C000 + x + 8 ≤ k → memByte h.scratch k = memByte g.scratch k))) ∧
      (∀ i n, (i = .vld e f ∧ n = 128) ∨ (i = .vst e f ∧ n = 128) ∨ (i = .vldb e f ∧ n = 4) ∨ (i = .sld e f ∧ n = 8) ∨
          (i = .sst e f ∧ n = 8) → x % n ≠ 0 ∨ 0x4000 < x + n →
        ∃ t, exec i s = .next t ∧ faultsAs s t e r c .sandbox)) ∧
  (∀ (s : State) (e : Nat) (r : TileRun) (c : Ctx), issues s e r c → ∀ (w : Word64) (i : Instr), decodeTack e w = some i →
    inPlace c (atIssue s e r c) i = true → ¬ parityHolds s e r c i →
    ∃ t, exec i s = .next t ∧ faultsAs s t e r c .scratchParity)

/-- A port in DOWN, DETECT, TRAIN or RETRAIN sends nothing. A port in CONFIG sends its CONFIG record. A port in
ACTIVE that has at most 16 bypass words queued and no replay running frames a sequenced unit of the class that
comes next: the unit carries the next sequence number in its CRC, its class and the oldest bypass word, a
CRD_CUM or CRD_AUDIT with its count as it stands now; it enters the replay buffer, and a credit of its class is
debited. In a replay the port sends the buffered body again with a header of its own, `REPLAY_START` on the
first unit; after the last one the units that were acknowledged meanwhile are freed. With more than 16 words
queued, or with nothing else to send, it sends a control unit with up to nine words. A writeback acknowledgement
among the words that leave answers the notices it counts. A sequenced unit whose CRC is right for E, with a
class of 1 to 4, is accepted in normal state: E goes on by one, a buffer unit of the class is occupied, and
after 32 accepted units `ACK` is queued at once. A unit that fails its check is discarded, E stays, NAK state
begins and `NAK` (E) is queued. In NAK state every sequenced unit is discarded until one headed by
`REPLAY_START` (r) arrives: r = E is accepted and ends NAK state, an earlier r is a duplicate that is
acknowledged, a later r is a protocol error. A good control unit hands its words over in order. A unit that
overlaps an uncorrectable codeword is a CRC failure, and eight such codewords in a row retrain the port;
corrected codewords are counted. Outside ACTIVE (and CONFIG, for CONFIG records) units do nothing.
(09_link_layer.md) -/
def Obligations.FlowUnitsAreFramedAndTaken : Prop :=
  (
    ∀ (s : State) (p : Nat), p < 66 →
      ((s.port p).state ≠ .active → (s.port p).state ≠ .config → exec (.flowUnitTransmit p) s = .next s) ∧
      ((s.port p).state = .config → (s.port p).cfgCount < 2 → ∃ t, exec (.flowUnitTransmit p) s = .next t ∧
        onlyPort s t p
          { s.port p with cfgSent := 0, tx := { (s.port p).tx with last := flowUnit 0 0 0#40 (s.ownConfig p) ctlSeed } }) ∧
      ((s.port p).state = .active → (s.port p).tx.bypass.length ≤ 16 → (s.port p).tx.replay = none →
        (s.port p).tx.buf.length < 1024 → ∀ v, s.nextClass p = some v →
        ∃ t u, exec (.flowUnitTransmit p) s = .next t ∧ unitOk u 1 (seqSeed (s.port p).tx.next) = true ∧ unitVc u = v ∧
          unitWord u = (s.port p).takeWord.1 ∧ (t.port p).tx.last = u ∧
          (t.port p).tx.buf = (s.port p).tx.buf ++ [((s.port p).tx.next, v, s.now, u)] ∧
          (t.port p).tx.next = ((s.port p).tx.next + 1) % 4096 ∧ (t.port p).tx.bypass = (s.port p).tx.bypass.drop 1 ∧
          (if v = vcCOL then (t.port p).tx.colAvail = (s.port p).tx.colAvail - 1 ∧ (t.port p).tx.debited = (s.port p).tx.debited
           else (t.port p).tx.colAvail = (s.port p).tx.colAvail ∧
             tget 0 (t.port p).tx.debited v = (tget 0 (s.port p).tx.debited v + 1) % 65536) ∧
          (t.port p).rx.e = (s.port p).rx.e ∧ (t.port p).state = .active ∧ t.dram = s.dram) ∧
      ((s.port p).state = .active → (s.port p).tx.bypass.length ≤ 16 → ∀ (r : Replay) (n vc since : Nat) (u : Bytes),
        (s.port p).tx.replay = some r → (s.port p).tx.buf.find? (fun e => e.1 == r.next) = some (n, vc, since, u) →
        ∃ t v, exec (.flowUnitTransmit p) s = .next t ∧ unitOk v 1 (seqSeed n) = true ∧ unitBody v = unitBody u ∧
          unitWord v = (if n = (s.port p).tx.replayFrom then bypassWord 3 n else (s.port p).takeWord.1) ∧
          (t.port p).tx.last = v ∧ ((s.port p).tx.acked = none → (t.port p).tx.buf = (s.port p).tx.buf) ∧
          (∀ a, (s.port p).tx.acked = some a → n = r.last →
            (t.port p).tx.buf = (s.port p).tx.buf.filter (fun e => !(e.1 == a || later 12 a e.1))) ∧ (t.port p).tx.next = (s.port p).tx.next ∧
          (t.port p).tx.replay = (if n = r.last then none else some { r with next := (n + 1) % 4096 }) ∧
          tget 0 (t.port p).stats 0x10 = tget 0 (s.port p).stats 0x10 + 1 ∧
          ∃ s0, s0 = (if n = (s.port p).tx.replayFrom then s else s.wordsLeave p 1) ∧
            t = { s0 with fabric := { s0.fabric with ports := t.fabric.ports } }) ∧
      ((s.port p).state = .active →
        (16 < (s.port p).tx.bypass.length ∨
          ((s.port p).tx.replay = none ∧ (1024 ≤ (s.port p).tx.buf.length ∨ s.nextClass p = none))) →
        ∃ t u, exec (.flowUnitTransmit p) s = .next t ∧ unitOk u 0 ctlSeed = true ∧
          unitWord u = (s.port p).takeWord.1 ∧ (t.port p).tx.last = u ∧
          (t.port p).tx.bypass = (s.port p).tx.bypass.drop 9 ∧ (t.port p).tx.buf = (s.port p).tx.buf ∧
          (t.port p).tx.next = (s.port p).tx.next ∧
          t = { s.wordsLeave p 9 with fabric := { (s.wordsLeave p 9).fabric with ports := t.fabric.ports } })) ∧
  (
    ∀ (s : State) (p : Nat) (u : Bytes) (q : Port) (cws : List (Option Nat)), p < 66 → cws.contains none = false →
      q = cws.foldl Port.codeword (s.port p) →
      (q.state ≠ .active → ∀ (r : Nat) (bad : Bool), exec (.sequencedUnitReceive p u ⟨bad, cws⟩) s = .next s ∧
        exec (.replayStart p r u ⟨bad, cws⟩) s = .next s ∧
        (q.state ≠ .config → exec (.controlUnitReceive p u ⟨bad, cws⟩) s = .next s)) ∧
      (q.state = .config → unitOk u 0 ctlSeed = true → wordType (unitWord u) = 0 → ∃ s0, onlyPort s s0 p q ∧
        exec (.controlUnitReceive p u ⟨false, cws⟩) s = exec (.config p (slice (unitBody u) 0 32)) s0) ∧
      (q.state = .active →
        (∀ left, q.rx.nak = false → q.rx.dup = none → unitOk u 1 (seqSeed q.rx.e) = true → 1 ≤ unitVc u → unitVc u ≤ 4 →
          wordType (unitWord u) = 0 →
          cutStream (decide (64 ≤ p)) (unitVc u) 4096 (tget [] q.rx.parse (unitVc u) ++ unitBody u) [] = some ([], left) →
          ∃ t, exec (.sequencedUnitReceive p u ⟨false, cws⟩) s = .next t ∧ ∃ x, onlyPort s t p x ∧ x.rx.e = (q.rx.e + 1) % 4096 ∧
            x.rx.nak = false ∧ tget 0 x.rx.occ (unitVc u) = tget 0 q.rx.occ (unitVc u) + 1 ∧
            tget [] x.rx.parse (unitVc u) = left ∧ tget 0 x.stats 8 = tget 0 q.stats 8 + 1 ∧
            (if q.rx.unacked + 1 < 32 then
               x.rx.unacked = q.rx.unacked + 1 ∧ x.rx.ackDue = some (q.rx.ackDue.getD (s.now + lCycles 350)) ∧
               x.tx.bypass = q.tx.bypass
             else x.rx.unacked = 0 ∧ x.rx.ackDue = none ∧ x.tx.bypass = (bypassPush q.tx.bypass (bypassWord 1 q.rx.e)).1)) ∧
        (q.rx.nak = false → wordType (unitWord u) ≠ 3 →
          (if q.rx.dup.isSome then ∀ d, q.rx.dup = some d → unitOk u 1 (seqSeed d) = false
           else unitOk u 1 (seqSeed q.rx.e) = false ∨ unitVc u = 0 ∨ 4 < unitVc u) →
          ∃ t, exec (.sequencedUnitReceive p u ⟨false, cws⟩) s = .next t ∧
            onlyPort s t p (({ q with rx := { q.rx with nak := true, nakAt := s.now, dup := none } }.stat 0x18 1).push
                (bypassWord 2 q.rx.e))) ∧
        (∀ d, q.rx.nak = false → q.rx.dup = some d → wordType (unitWord u) = 0 → unitOk u 1 (seqSeed d) = true →
          ∃ t, exec (.sequencedUnitReceive p u ⟨false, cws⟩) s = .next t ∧
            onlyPort s t p
              ({ q with rx := { q.rx with dup := if (d + 1) % 4096 = q.rx.e then none else some ((d + 1) % 4096) } }.stat 0x38 1)) ∧
        (q.rx.nak = true → wordType (unitWord u) ≠ 3 → ∃ t, exec (.sequencedUnitReceive p u ⟨false, cws⟩) s = .next t ∧
          onlyPort s t p q) ∧
        (∀ i, (i = .sequencedUnitReceive p u ⟨true, cws⟩ ∨ i = .controlUnitReceive p u ⟨true, cws⟩ ∨
            ∃ r, i = .replayStart p r u ⟨true, cws⟩) →
          ∃ t x, exec i s = .next t ∧ onlyPort s t p x ∧ x.rx.e = q.rx.e ∧ x.rx.nak = true ∧
            tget 0 x.stats 0x18 = tget 0 q.stats 0x18 + 1) ∧
        (∀ i bad, (i = .sequencedUnitReceive p u ⟨bad, cws ++ [none]⟩ ∨ i = .controlUnitReceive p u ⟨bad, cws ++ [none]⟩ ∨
            ∃ r, i = .replayStart p r u ⟨bad, cws ++ [none]⟩) →
          (q.rx.badCw + 1 < 8 → ∃ t x, exec i s = .next t ∧ onlyPort s t p x ∧ x.rx.e = q.rx.e ∧ x.rx.nak = true ∧
            x.rx.badCw = q.rx.badCw + 1 ∧ tget 0 x.stats 0x30 = tget 0 q.stats 0x30 + 1) ∧
          (8 ≤ q.rx.badCw + 1 → (∀ l, l < 4 → (s.die l).sends = []) → ∃ t x, exec i s = .next t ∧ portMoved s t p x ∧
            x.rx.e = q.rx.e ∧ x.state = .retrain ∧ x.rx.badCw = 0)) ∧
        (∀ r i, unitWord u = bypassWord 3 (r % 4096) → unitOk u 1 (seqSeed (r % 4096)) = true →
          (i = .sequencedUnitReceive p u ⟨false, cws⟩ ∨ i = .replayStart p r u ⟨false, cws⟩) →
          (∀ left, r % 4096 = q.rx.e →
            cutStream (decide (64 ≤ p)) (unitVc u) 4096 (tget [] q.rx.parse (unitVc u) ++ unitBody u) [] = some ([], left) →
            ∃ t x, exec i s = .next t ∧ onlyPort s t p x ∧ x.rx.e = (q.rx.e + 1) % 4096 ∧ x.rx.nak = false ∧
              x.rx.dup = none) ∧
          (later 12 q.rx.e (r % 4096) = true → ∃ t x, exec i s = .next t ∧ onlyPort s t p x ∧ x.rx.e = q.rx.e ∧
            x.rx.nak = false ∧ x.rx.parse = q.rx.parse ∧
            x.tx.bypass = (bypassPush q.tx.bypass (bypassWord 1 ((q.rx.e + 4095) % 4096))).1) ∧
          (r % 4096 ≠ q.rx.e → later 12 q.rx.e (r % 4096) = false → q.proto = false → (∀ l, l < 4 → (s.die l).sends = []) →
            ∃ t x, exec i s = .next t ∧ portMoved s t p x ∧ x.rx.e = q.rx.e ∧ x.state = .retrain ∧ x.proto = true)) ∧
        (unitOk u 0 ctlSeed = true → ∃ s0, onlyPort s s0 p q ∧
          exec (.controlUnitReceive p u ⟨false, cws⟩) s =
            .next ((controlWords u).foldl (fun s w => s.bypassIn p (!q.rx.nak) w) s0)) ∧
        (unitOk u 0 ctlSeed = false → q.rx.nak = false → ∃ t x, exec (.controlUnitReceive p u ⟨false, cws⟩) s = .next t ∧
          onlyPort s t p x ∧ x.rx.e = q.rx.e ∧ x.rx.nak = true ∧
          x.tx.bypass = (bypassPush q.tx.bypass (bypassWord 2 q.rx.e)).1)))

/-- At a port in ACTIVE: `ACK` (n) frees the replay entries up to n, in a replay only those that it need not send
any more; `NAK` (n) of an entry starts a replay from it, `NAK` of the next number does nothing and any other is
a protocol error; `CRD_INC` and `CRD_CUM` bring credits, and a `CRD_CUM` beyond what the partner can have
received is a protocol error; `CRD_AUDIT` sets the leak estimate and retrains the port when two in a row reach
LEAK_RETRAIN; `SLUICE` stops a class for 25 us or lets it go; `HB` counts on the Rein ports only; `DOWN` takes
the port down. A weir echo of mark m for this node takes the rate toward its source times (8 - m) / 8, and no
lower than r_min; a writeback acknowledgement frees the buffers by which the count advanced. In other port
states the words do nothing. (09_link_layer.md, 10_fabric_transport.md, 03_coherence.md,
13_pairing_and_failover.md) -/
def Obligations.ControlWordsAct : Prop :=
  ∀ (s : State) (p : Nat) (q : Port), p < 66 → q = s.port p →
    (q.state ≠ .active → ∀ (i : Instr) (n v : Nat) (b : Bool),
      (i = .ack p n ∨ i = .nak p n ∨ i = .crdInc p n ∨ i = .crdCum p v n ∨ i = .crdAudit p n ∨ i = .sluice p v b ∨
       i = .hb p n) → exec i s = .next s) ∧
    (q.state = .down → exec (.down p) s = .next s) ∧
    (q.state ≠ .down → quietPort s p → ∃ t, exec (.down p) s = .next t ∧ wentDown s t p 4) ∧
    (q.state = .active →
      (∀ n, q.tx.replay = none → (n % 4096) ∈ q.tx.buf.map (·.1) → ∃ t x, exec (.ack p n) s = .next t ∧ onlyPort s t p x ∧
        x.tx.buf = q.tx.buf.filter (fun e => !(e.1 == n % 4096 || later 12 (n % 4096) e.1)) ∧ x.tx.next = q.tx.next ∧
        x.rx = q.rx) ∧
      (∀ n r, q.tx.replay = some r → (n % 4096) ∈ q.tx.buf.map (·.1) → ∃ t x, exec (.ack p n) s = .next t ∧ onlyPort s t p x ∧
        x.tx.acked = some (n % 4096) ∧ x.tx.replay = some r ∧ x.rx = q.rx ∧
        ∀ e ∈ q.tx.buf, (e.1 = r.next ∨ later 12 e.1 r.next = true) → (e.1 = r.last ∨ later 12 r.last e.1 = true) →
          e ∈ x.tx.buf) ∧
      (∀ n, (n % 4096) ∉ q.tx.buf.map (·.1) → ∃ t, exec (.ack p n) s = .next t ∧ onlyPort s t p q) ∧
      (∀ n, (n % 4096) ∈ q.tx.buf.map (·.1) → q.tx.replayFrom ≠ n % 4096 → 0 < q.replayN →
        ∃ t x, exec (.nak p n) s = .next t ∧ onlyPort s t p x ∧ x.tx.buf = q.tx.buf ∧
          x.tx.replay = some ⟨n % 4096, ((q.tx.buf.getLast?).map (·.1)).getD 0⟩ ∧ x.tx.replayFrom = n % 4096 ∧
          x.tx.rcount = 1 ∧ tget 0 x.stats 0x44 = tget 0 q.stats 0x44 + 1) ∧
      (∀ n, (n % 4096) ∉ q.tx.buf.map (·.1) → n % 4096 = q.tx.next →
        ∃ t, exec (.nak p n) s = .next t ∧ onlyPort s t p (q.stat 0x44 1)) ∧
      (∀ n, (n % 4096) ∉ q.tx.buf.map (·.1) → n % 4096 ≠ q.tx.next → q.proto = false → (∀ l, l < 4 → (s.die l).sends = []) →
        ∃ t x, exec (.nak p n) s = .next t ∧ portMoved s t p x ∧ x.state = .retrain ∧ x.proto = true ∧ x.tx.buf = q.tx.buf) ∧
      (∀ n, ∃ t, exec (.crdInc p n) s = .next t ∧ onlyPort s t p { q with tx := { q.tx with
        colAvail := q.tx.colAvail + n, colRcvd := (q.tx.colRcvd + n) % 2 ^ 24 } }) ∧
      (∀ v n, 1 ≤ v → v ≤ 3 →
        later 16 (n % 65536) ((tget 0 q.tx.debited v + (tget 0 q.tx.whole v - tget 0 q.tx.size v)) % 65536) = false →
        ∃ t, exec (.crdCum p v n) s = .next t ∧
          onlyPort s t p { q with tx := { q.tx with returned := tset 0 q.tx.returned v (n % 65536) } }) ∧
      (∀ v n, 1 ≤ v → v ≤ 3 →
        later 16 (n % 65536) ((tget 0 q.tx.debited v + (tget 0 q.tx.whole v - tget 0 q.tx.size v)) % 65536) = true →
        q.proto = false → (∀ l, l < 4 → (s.die l).sends = []) →
        ∃ t x, exec (.crdCum p v n) s = .next t ∧ portMoved s t p x ∧ x.state = .retrain ∧ x.tx.returned = q.tx.returned) ∧
      (∀ n, q.rx.nak = false → (∀ l, l < 4 → (s.die l).sends = []) → ∃ t x, exec (.crdAudit p n) s = .next t ∧ portMoved s t p x ∧
        x.tx.leakEst = (n + 2 ^ 24 - q.tx.colRcvd) % 2 ^ 24 ∧ x.tx.leakPrev = x.tx.leakEst ∧
        x.state = (if q.leakRetrain ≠ 0 ∧ q.leakRetrain ≤ x.tx.leakEst ∧ q.leakRetrain ≤ q.tx.leakPrev then .retrain
                   else .active)) ∧
      (q.rx.nak = true → ∀ n, exec (.crdAudit p n) s = .next s) ∧
      (∀ v b, ∃ t, exec (.sluice p v b) s = .next t ∧ onlyPort s t p
        { q with tx := { q.tx with stopUntil := tset 0 q.tx.stopUntil v (if b then s.now + us 25 else 0) } }) ∧
      (∀ n, exec (.hb p n) s = .next (if 64 ≤ p then
        { s with pair := { s.pair with rein := s.pair.rein.beat (BitVec.ofNat 32 n) s.now } } else s))) ∧
    (∀ c, exec (.weirEcho p c) s = .next (
      if bitf c 23 22 = 0 ∧ bitf c 35 24 = s.aon.nodeId then
        { s with fabric := { s.fabric with
            dies := tset LinkDie.reset s.fabric.dies (dieOfPort p) ((s.die (dieOfPort p)).stat 0x40 1)
            rates := tput s.fabric.rates (2 * bitf c 11 0 + b2n (tbit c 18))
              (if (s.rateOf (bitf c 11 0) (tbit c 18)).1 * (8 - bitf c 21 20) ≤ 8 ^ ((s.rateOf (bitf c 11 0) (tbit c 18)).2 + 1)
               then (1, 0, s.now)
               else ((s.rateOf (bitf c 11 0) (tbit c 18)).1 * (8 - bitf c 21 20),
                 (s.rateOf (bitf c 11 0) (tbit c 18)).2 + 1, s.now)) } }
      else s)) ∧
    (∀ g a n, g < 12 → ∃ t, exec (.wbAck g a n) s = .next t ∧ t = { s with regions := t.regions } ∧
      tget 0 (t.region g).wbUsed a =
        min (tget 0 (s.region g).wbUsed a) ((tget 0 (s.region g).wbCount a + 64 - n % 64) % 64) ∧
      (t.region g).wbCount = (s.region g).wbCount ∧
      (∀ x, x ≠ a → tget 0 (t.region g).wbUsed x = tget 0 (s.region g).wbUsed x) ∧
      ∀ k, k ≠ g → t.region k = s.region k)

/-- When the bytes of an accepted unit have left a receive buffer, the buffer unit is free, unless the link die's
ingress is full; 32 freed COL units, or 8 of another class, are reported at once by `CRD_INC` or `CRD_CUM`,
fewer within 350 L-cycles. The ACK timer acknowledges the last accepted number. The NAK timer sends `NAK` (E)
again every 350 L-cycles. The replay timer starts a replay from the oldest unit, at most REPLAY_N times for one
number; then the port retrains. The credit-report timer reports every non-COL class each 1,750 L-cycles. The
audit timer queues `CRD_AUDIT`, which takes its count as it is framed. No timer acts outside ACTIVE.
(09_link_layer.md) -/
def Obligations.LinkTimersFire : Prop :=
  ∀ (s : State) (p : Nat) (q : Port), p < 66 → q = s.port p →
    (q.state ≠ .active → ∀ i, (i = .ackTimer p ∨ i = .nakResendTimer p ∨ i = .replayTimer p ∨ i = .creditReportTimer p ∨
      i = .auditTimer p) → exec i s = .next s) ∧
    (∀ v, tget 0 q.rx.occ v = 0 ∨ s.ingressFull p v = true → ∃ t, exec (.creditReturn p v) s = .next t ∧ onlyPort s t p q) ∧
    (∀ v n, tget 0 q.rx.occ v ≠ 0 → s.ingressFull p v = false → n = tget 0 q.rx.freed v + 1 → ∃ t x, exec (.creditReturn p v) s = .next t ∧
      onlyPort s t p x ∧ tget 0 x.rx.occ v = tget 0 q.rx.occ v - 1 ∧ x.rx.e = q.rx.e ∧
      (if v = vcCOL then x.rx.retd = q.rx.retd else tget 0 x.rx.retd v = (tget 0 q.rx.retd v + 1) % 65536) ∧
      (if (if v = vcCOL then 32 else 8) ≤ n then
         tget 0 x.rx.freed v = 0 ∧ tget 0 x.rx.crdDue v = 0 ∧ x.tx.bypass = (bypassPush q.tx.bypass
           (if v = vcCOL then bypassWord 4 n else bypassWord 5 (v + 8 * ((tget 0 q.rx.retd v + 1) % 65536)))).1
       else tget 0 x.rx.freed v = n ∧ x.tx.bypass = q.tx.bypass ∧
         tget 0 x.rx.crdDue v = if tget 0 q.rx.crdDue v = 0 then s.now + lCycles 350 else tget 0 q.rx.crdDue v)) ∧
    (q.state = .active →
      (q.rx.ackDue = none → exec (.ackTimer p) s = .next s) ∧
      (∀ d, q.rx.ackDue = some d → ∃ t, exec (.ackTimer p) s = .next t ∧ onlyPort (s.reach d) t p
        ({ q with rx := { q.rx with unacked := 0, ackDue := none } }.push (bypassWord 1 ((q.rx.e + 4095) % 4096)))) ∧
      (q.rx.nak = false → exec (.nakResendTimer p) s = .next s) ∧
      (q.rx.nak = true → ∃ t, exec (.nakResendTimer p) s = .next t ∧ onlyPort (s.reach (q.rx.nakAt + lCycles 350)) t p
        (({ q with rx := { q.rx with nakAt := max s.now (q.rx.nakAt + lCycles 350) } }.push (bypassWord 2 q.rx.e)))) ∧
      (q.tx.buf = [] → exec (.replayTimer p) s = .next s) ∧
      (∀ r vc since u rest d, q.tx.buf = (r, vc, since, u) :: rest →
        d = max since (q.tx.replayAt - 1) + lCycles 2625 →
        ((q.tx.replayFrom ≠ r ∨ q.tx.rcount < q.replayN) → 0 < q.replayN →
          ∃ t x, exec (.replayTimer p) s = .next t ∧ onlyPort (s.reach d) t p x ∧
            x.tx.replay = some ⟨r, ((q.tx.buf.getLast?).map (·.1)).getD r⟩ ∧ x.tx.replayFrom = r ∧ x.tx.buf = q.tx.buf ∧
            x.tx.rcount = (if q.tx.replayFrom = r then q.tx.rcount else 0) + 1 ∧
            tget 0 x.stats 0x48 = tget 0 q.stats 0x48 + 1) ∧
        (q.tx.replayFrom = r → q.replayN ≤ q.tx.rcount → q.tx.retrained = false → (∀ l, l < 4 → (s.die l).sends = []) →
          ∃ t x, exec (.replayTimer p) s = .next t ∧ portMoved (s.reach d) t p x ∧ x.state = .retrain ∧
            x.tx.retrained = true ∧ x.tx.buf = q.tx.buf) ∧
        (q.tx.replayFrom = r → q.replayN ≤ q.tx.rcount → q.tx.retrained = true → quietPort (s.reach d) p →
          ∃ t, exec (.replayTimer p) s = .next t ∧ wentDown (s.reach d) t p 1)) ∧
      ((∀ v, tget 0 q.rx.retd v < 65536) → tget 0 q.rx.freed vcCOL < 2048 →
        tget 0 q.rx.crdDue 0 + lCycles 1750 ≤ s.now → ∃ t x, exec (.creditReportTimer p) s = .next t ∧ onlyPort s t p x ∧
          tget 0 x.rx.crdDue 0 = s.now ∧ x.rx.retd = q.rx.retd ∧ ∀ v, v ∈ [vcRSP, vcSNP, vcREQ] →
            bypassWord 5 (v + 8 * tget 0 q.rx.retd v) ∈ x.tx.bypass ∧ tget 0 x.rx.freed v = 0) ∧
      (∃ t, exec (.auditTimer p) s = .next t ∧ onlyPort (s.reach (tget 0 q.rx.crdDue 5 + lCycles 175000)) t p
        ({ q with rx := { q.rx with
            crdDue := tset 0 q.rx.crdDue 5 (max s.now (tget 0 q.rx.crdDue 5 + lCycles 175000)) } }.push
          (bypassWord 6 0))))

/-- A port in DOWN that is enabled, whose link die runs and which has a node ID (a Rein port needs none) starts
DETECT; DETECT ends in TRAIN or DOWN after 10 us, TRAIN in CONFIG, or in DOWN after 100 ms, CONFIG in DOWN after
1 ms. In CONFIG a record that fits is counted, and once two like records have come and two have been sent the
port is ACTIVE with the partner's buffers as credits, and the Rein link, where it was down, numbers its messages
from 0; a record that does not fit is logged and takes the port down; after a retrain the port resumes from the
partner's NEXT_SEQ with its bypass queue and its receive buffers as they were. Loss of signal takes ACTIVE to
RETRAIN, which goes on to CONFIG, or to DOWN after 35,000 L-cycles. (09_link_layer.md,
15_boot_reset_and_chain.md) -/
def Obligations.PortsTrainAndRetrain : Prop :=
  ∀ (s : State) (p : Nat) (q : Port), p < 66 → q = s.port p →
    (q.state = .active → (∀ l, l < 4 → (s.die l).sends = []) → ∃ t, exec (.lossOfSignal p) s = .next t ∧ portMoved s t p { q.stat 0x4C 1 with
      state := .retrain, since := s.now, weight := 0, wasRetrain := true, proto := false, cfg := [], cfgCount := 0, cfgSent := 0 }) ∧
    (q.state ≠ .active → ∃ t, exec (.lossOfSignal p) s = .next t ∧ onlyPort s t p q) ∧
    (q.state = .down → q.enable = true → (s.die (dieOfPort p)).inReset = false → (s.aon.nodeValid = true ∨ 64 ≤ p) →
      (q.tried = false ∨ q.autoTrain = true) → ∃ t x, exec (.trainAttempt p) s = .next t ∧
        onlyPort (if q.tried then s.reach (q.since + ms 1000) else s) t p x ∧ x.state = .detect ∧ x.tried = true ∧
        x.since = t.now ∧ x.enable = true ∧ x.autoTrain = q.autoTrain ∧ x.stats = q.stats ∧ x.rx.e = 0 ∧ x.tx.next = 0) ∧
    ((q.state ≠ .down ∨ q.enable = false ∨ (s.die (dieOfPort p)).inReset = true ∨ (s.aon.nodeValid = false ∧ p < 64) ∨
      (q.tried = true ∧ q.autoTrain = false)) → exec (.trainAttempt p) s = .next s) ∧
    (∀ b, (q.state = .detect → ∃ t, exec (.detectEnd p b) s = .next t ∧ onlyPort (s.reach (q.since + us 10)) t p
        { q with state := if b then .train else .down, since := max s.now (q.since + us 10) }) ∧
      (q.state ≠ .detect → exec (.detectEnd p b) s = .next s)) ∧
    (q.state = .train → ∃ t x, exec (.trainDone p) s = .next t ∧ onlyPort s t p x ∧ x.state = .config ∧ x.since = s.now ∧
      x.wasRetrain = false ∧ x.cfgCount = 0 ∧ x.cfgSent = 0 ∧ tget 0 x.stats 0x68 = (s.now - q.since) / 1260) ∧
    (q.state = .retrain → ∃ t, exec (.trainDone p) s = .next t ∧
      onlyPort s t p { q with state := .config, cfg := [], cfgCount := 0, cfgSent := 0 }) ∧
    (q.state ≠ .train → q.state ≠ .retrain → ∃ t, exec (.trainDone p) s = .next t ∧ onlyPort s t p q) ∧
    (∀ d, (q.state = .train ∧ d = ms 100 ∨ q.state = .config ∧ q.wasRetrain = false ∧ d = ms 1) →
      ∃ t x, exec (.trainTimeout p) s = .next t ∧ onlyPort (s.reach (q.since + d)) t p x ∧ x.state = .down ∧
        x.since = t.now ∧ x.stats = q.stats) ∧
    (q.state ≠ .train → (q.state = .config → q.wasRetrain = true) → exec (.trainTimeout p) s = .next s) ∧
    ((q.state = .retrain ∨ q.state = .config ∧ q.wasRetrain = true) → ∀ d, d = q.since + lCycles 35000 →
      quietPort (s.reach d) p → ∃ t, exec (.retrainTimeout p) s = .next t ∧ wentDown (s.reach d) t p 2) ∧
    (q.state ≠ .retrain → (q.state = .config → q.wasRetrain = false) → exec (.retrainTimeout p) s = .next s) ∧
    (∀ b r, r = slice b 0 32 →
      (q.state ≠ .config → exec (.config p b) s = .next s) ∧
      (q.state = .config → q.wasRetrain = false →
        (recordOk p true r = false → ∃ t x, exec (.config p b) s = .next t ∧
          onlyPort { s with log := s.log ++ [⟨lgCONFIG_MISMATCH, [p, leNat r]⟩] } t p x ∧ x.state = .down) ∧
        (recordOk p true r = true → q.cfg ≠ r → ∃ t, exec (.config p b) s = .next t ∧
          onlyPort s t p { q with cfg := r, cfgCount := 1, cfgSent := 0 }) ∧
        (recordOk p true r = true → q.cfg = r → (q.cfgCount = 0 ∨ q.cfgSent < 2) → ∃ t, exec (.config p b) s = .next t ∧
          onlyPort s t p { q with cfgCount := q.cfgCount + 1 }) ∧
        (recordOk p true r = true → q.cfg = r → 1 ≤ q.cfgCount → 2 ≤ q.cfgSent → s.fabric.rspHold = [] →
          ((64 ≤ p → (s.port (129 - p)).linkUp = false → ∃ t, exec (.config p b) s = .next t ∧
              t.fabric.reinFloor = 0 ∧ t.fabric.reinSeen = [] ∧ tget 0 (t.die 0).seqs 4096 = 0 ∧
              t.fabric.reinDownAt = none ∧ (t.port p).state = .active) ∧
           ((p < 64 ∨ (s.port (129 - p)).linkUp = true) →
          ∃ t x, exec (.config p b) s = .next t ∧ portMoved s t p x ∧ x.state = .active ∧ x.activeAt = s.now ∧
            x.partner = fld r 4 2 % 4096 + fld r 2 1 % 8 * 4096 ∧ x.tx.colAvail = (fld r 14 2 : Int) ∧
            tget 0 x.tx.size vcRSP = fld r 8 2 ∧ tget 0 x.tx.size vcSNP = fld r 10 2 ∧ tget 0 x.tx.size vcREQ = fld r 12 2 ∧
            x.tx.debited = [] ∧ x.tx.returned = [] ∧ x.tx.buf = q.tx.buf)))) ∧
      (q.state = .config → q.wasRetrain = true → recordOk p false r = true → q.cfg = r → 1 ≤ q.cfgCount → 2 ≤ q.cfgSent →
        s.fabric.rspHold = [] → ∃ t x, exec (.config p b) s = .next t ∧ portMoved s t p x ∧ x.state = .active ∧
          x.tx.buf = q.tx.buf.filter (fun e => !later 12 (fld r 6 2 % 4096) e.1) ∧ x.tx.next = q.tx.next ∧ x.rx.e = q.rx.e ∧
          x.rx.occ = q.rx.occ ∧ x.tx.bypass = q.tx.bypass ∧
          x.tx.replay = (if x.tx.buf = [] then none
            else some ⟨fld r 6 2 % 4096, ((x.tx.buf.getLast?).map (·.1)).getD 0⟩)))

/-- A link die recomputes the spray weights of its ports from the bytes queued. A message that is not answered in
the E2E_TIMEOUT in force when it was sent is sent again with all its packets marked as resent, until it has been
sent the E2E_RETRY of that time more or no port of its node is ACTIVE; then it is abandoned, and its originator
told so. An assembly entry is discarded after 1 ms and its number is accepted afresh; an idle acceptance context
ends after 10 ms unless a number is in progress; answers held for an unreachable node end after 1 ms. The
largest mark since the last echo goes back to its source (on the first ACTIVE port of the link die: the model's
choice, log entry 184). A rate toward a node recovers by WEIR_AI up to r_max. Sluice stops are sent above 75 %,
renewed above 50 % and taken back below it; a received stop lapses. A region sends its writeback counts again.
(10_fabric_transport.md, 09_link_layer.md, 03_coherence.md) -/
def Obligations.TransportTimersAct : Prop :=
  ∀ (s : State) (l : Nat), l < 4 →
    (∀ r, r = s.reach ((s.schedPort (16 * l)).sAt + us 10) → ∃ t, exec (.sprayWeightUpdate l) s = .next t ∧
      t.now = r.now ∧ t.dram = s.dram ∧ ∀ p, p < 64 →
        if dieOfPort p = l then
          (t.port p).queued = tget 0 ((r.integrate p).schedPort p).qacc 8 / max 1 (r.now - (s.schedPort p).sAt) ∧
          (t.port p).weight = (if (s.port p).state = .active then max 1 (15 - (t.port p).queued / 16384) else 0) ∧
          (t.schedPort p).sAt = r.now ∧ tget 0 (t.schedPort p).qacc 8 = 0 ∧ (t.port p).state = (s.port p).state ∧
          (t.port p).tx = (s.port p).tx ∧ (t.port p).rx = (s.port p).rx
        else t.port p = s.port p ∧ t.schedPort p = s.schedPort p) ∧
    (∀ tag, (s.die l).sends.find? (fun x => x.tag == tag) = none → exec (.e2eTimeout l tag) s = .next s) ∧
    (∀ tag x r, (s.die l).sends.find? (fun x => x.tag == tag) = some x →
      r = s.reach (x.lastAt + lCycles (17500 * x.limit)) →
      ((x.tries ≤ x.resends ∨ s.activePorts x.node = []) →
        ∃ u, onlyDie r u l { (s.die l).stat 0x30 1 with sends := (s.die l).sends.filter (fun y => y.tag != tag) } ∧
          exec (.e2eTimeout l tag) s = .next (match x.ref with
            | some (n, ti, d) =>
              (u.modStream n (fun y => { y with abandoned := y.abandoned ++ [(ti, d)] })).gatherAnswered n ti d 6
            | none => u)) ∧
      (x.resends < x.tries → s.activePorts x.node ≠ [] → x.msg.ptype ≠ 5 →
        ∃ t o, exec (.e2eTimeout l tag) s = .next t ∧ t.die l = { (s.die l).stat 0x2C 1 with
            sends := (s.die l).sends.map (fun y =>
              if y.tag == tag then { y with resends := y.resends + 1, lastAt := r.now } else y) } ∧
          t.outbox = s.outbox ++ o ∧ o.map (·.pkt) = (packetsOf x.msg).map (fun k => { k with
            resend := true, floor := BitVec.ofNat 32 ((s.die l).floorOf x.node (tget 0 (s.die l).seqs x.node).toNat) }) ∧
          (∀ y ∈ o, y.dest = .node x.node ∧ y.ref = x.ref) ∧ t.dram = s.dram ∧ t.streams = s.streams ∧
          (∀ k, t.port k = s.port k) ∧ ∀ k, k ≠ l → t.die k = s.die k)) ∧
    (∀ n g q, (s.die l).asms.find? (fun a => a.node == n && a.ssg == g && a.seq == q) = none →
      exec (.asmTimeout l n g q) s = .next s) ∧
    (∀ n g q a, (s.die l).asms.find? (fun a => a.node == n && a.ssg == g && a.seq == q) = some a →
      ∃ t d, exec (.asmTimeout l n g q) s = .next t ∧ onlyDie (s.reach (a.since + ms 1)) t l d ∧
        d.asms = (s.die l).asms.erase a ∧ d.inbox = (s.die l).inbox ∧ tget 0 d.stats 0x24 = tget 0 (s.die l).stats 0x24 + 1 ∧
        d.ctxs = (s.die l).ctxs.map (fun c =>
          if c.node == n && c.ssg == g then { c with states := tdel c.states q.toNat, usedAt := t.now } else c)) ∧
    (∀ n g, (s.die l).ctxs.find? (fun c => c.node == n && c.ssg == g) = none → exec (.accCtxExpire l n g) s = .next s) ∧
    (∀ n g c, (s.die l).ctxs.find? (fun c => c.node == n && c.ssg == g) = some c →
      ((∃ x ∈ c.states, x.2 = 1) → exec (.accCtxExpire l n g) s = .next s) ∧
      ((∀ x ∈ c.states, x.2 ≠ 1) → ∃ t, exec (.accCtxExpire l n g) s = .next t ∧
        onlyDie (s.reach (c.usedAt + ms 10)) t l { s.die l with ctxs := (s.die l).ctxs.erase c })) ∧
    (∀ n, s.fabric.rspHold.find? (fun h => h.1.dest == .node n) = none → exec (.rspHoldTimeout n) s = .next s) ∧
    (∀ n h r, s.fabric.rspHold.find? (fun h => h.1.dest == .node n) = some h → r = s.reach (h.2 + ms 1) →
      ∃ t, exec (.rspHoldTimeout n) s = .next t ∧ t.outbox = s.outbox ∧ t.now = r.now ∧
        t.fabric.rspHold = s.fabric.rspHold.filter (fun x => !(x.1.dest == .node n && decide (x.2 + ms 1 ≤ r.now))) ∧
        tget 0 (t.die l).stats 0x4C = tget 0 (s.die l).stats 0x4C + (s.fabric.rspHold.filter (fun x =>
          x.1.dest == .node n && decide (x.2 + ms 1 ≤ r.now) && x.1.pkt.ssg == l)).length) ∧
    (∀ n col, s.fabric.marks.find? (fun e => e.1 == n && e.2.1 == col) = none → exec (.weirEchoSend l n col) s = .next s) ∧
    (∀ n col m last r, s.fabric.marks.find? (fun e => e.1 == n && e.2.1 == col) = some (n, col, m, last) →
      (m = 0 → exec (.weirEchoSend l n col) s = .next s) ∧
      (m ≠ 0 → r = s.reach (match last with | some t => t + us 1 | none => 0) →
        (s.activePorts n).filter (fun p => dieOfPort p == l) ≠ [] →
        ∃ t p, exec (.weirEchoSend l n col) s = .next t ∧
          ((s.activePorts n).filter (fun p => dieOfPort p == l)).head? = some p ∧ t.port p = (s.port p).push (bypassWord 8
            (n % 4096 * 2 ^ 24 + m % 4 * 2 ^ 20 + b2n col * 2 ^ 18 + s.aon.nodeId % 4096)) ∧
          (∀ k, k ≠ p → t.port k = s.port k) ∧ t.die l = (s.die l).stat 0x3C 1 ∧ t.now = r.now ∧
          t.fabric.marks = s.fabric.marks.map (fun x => if x == (n, col, m, last) then (n, col, 0, some r.now) else x))) ∧
    (∀ n col, afind s.fabric.rates (2 * n + b2n col) = none → exec (.weirRateRecover n col) s = .next s) ∧
    (∀ n col x k at_ r, afind s.fabric.rates (2 * n + b2n col) = some (x, k, at_) → r = s.reach (at_ + us 1) →
      exec (.weirRateRecover n col) s = .next { r with fabric := { s.fabric with
        rates := tput s.fabric.rates (2 * n + b2n col)
          (if s.rateMax n * 8 ^ k ≤ x + s.fabric.weirAi * 8 ^ k then (s.rateMax n, 0, at_ + us 1)
           else (x + s.fabric.weirAi * 8 ^ k, k, at_ + us 1)) } }) ∧
    (∃ t r stop, exec (.sluiceRenew l) s = .next t ∧
      ((s.die l).stopTx = false → 4 * (s.die l).reqOcc ≤ 3 * 0x800000 → t = s) ∧
      ((s.die l).stopTx = true → 2 * (s.die l).reqOcc = 0x800000 → t = s) ∧
      ((s.die l).stopTx = false → 3 * 0x800000 < 4 * (s.die l).reqOcc → r = s ∧ stop = true ∧
        t.die l = { (s.die l).stat 0x44 1 with stopTx := true, stopAt := s.now }) ∧
      ((s.die l).stopTx = true → 2 * (s.die l).reqOcc < 0x800000 → r = s ∧ stop = false ∧
        t.die l = { s.die l with stopTx := false }) ∧
      ((s.die l).stopTx = true → 0x800000 < 2 * (s.die l).reqOcc → r = s.reach ((s.die l).stopAt + us 10) ∧ stop = true ∧
        t.die l = { s.die l with stopAt := r.now }) ∧
      (((s.die l).stopTx = true ∧ 2 * (s.die l).reqOcc ≠ 0x800000 ∨ 3 * 0x800000 < 4 * (s.die l).reqOcc) →
        t.now = r.now ∧ t.dram = s.dram ∧ ∀ p, t.port p =
          if p ∈ portsOf l ∧ (s.port p).state = .active then (s.port p).push (bypassWord 7 (vcREQ + 8 * b2n stop))
          else s.port p)) ∧
    (∀ p v at_, p < 66 → at_ = tget 0 (s.port p).tx.stopUntil v →
      (at_ = 0 → exec (.sluiceLapse p v) s = .next s) ∧
      (at_ ≠ 0 → ∃ t, exec (.sluiceLapse p v) s = .next t ∧ t.now = max s.now at_ ∧ t.dram = s.dram ∧
        t.port p = { s.port p with tx := { (s.port p).tx with stopUntil := tset 0 (s.port p).tx.stopUntil v 0 } } ∧
        t.die (dieOfPort p) = (s.die (dieOfPort p)).stat 0x48 1)) ∧
    (∀ g, g < 12 → ∃ t, exec (.wbAckRefresh g) s = .next t ∧ t.now = max s.now ((s.region g).wbSentAt + us 10) ∧
      (t.region g).wbSentAt = t.now ∧ (t.region g).wbCount = (s.region g).wbCount ∧
      (t.region g).wbUsed = (s.region g).wbUsed ∧ t.home = s.home ∧ t.dram = s.dram ∧
      ∀ x a, (s.region g).wbEver = [x] → s.agent x = some a → a.host = false → s.activePorts a.node ≠ [] →
        ∃ p, p ∈ s.activePorts a.node ∧ (∀ k, k ≠ p → t.port k = s.port k) ∧ t.port p = (s.port p).push (bypassWord 8
          (a.node % 4096 * 2 ^ 24 + 1 * 2 ^ 22 + tget 0 (s.region g).wbCount x % 64 * 2 ^ 16 + g * 2 ^ 12 +
           s.aon.nodeId % 4096)))

/-- A packet without a VI goes straight to its leaf; one of a VI is released at once while its shaper's count is at
or above 0 and the count pays for it, and waits behind others or while the count is below 0; without a rate it
is released at once and the count stays at the depth. A slot that comes due refills its shaper. The effective
weights of a port sum to 256 and none is below its class's W_MIN. The class table enters force there. A region's
occupancy is the fullest of its tables in eighths, its channels' queues by their mean since the last time. A
gather write that the rate toward its node allows goes on, and the next one waits as long as its bytes take at
that rate; while no port can take it, it stays where it is. (11_scheduling_and_latency.md,
10_fabric_transport.md) -/
def Obligations.SchedulerReleasesPackets : Prop :=
  ∀ (s : State),
    (∀ i n, i < 6 → s.outbox[n]? = none → exec (.shaperAdmit i n) s = .next s) ∧
    (∀ i n o d, i < 6 → s.outbox[n]? = some o → o.dest = .node d → o.port < 64 → instOf o.port ≠ i →
      exec (.shaperAdmit i n) s = .next s) ∧
    (∀ i n o d, i < 6 → s.outbox[n]? = some o → o.dest = .node d → o.port < 64 → instOf o.port = i → o.pkt.ptype ≠ 5 →
      (∀ w, w = withBudget o 0xFF → o.vi = none → ∃ t, exec (.shaperAdmit i n) s = .next t ∧ t.outbox = s.outbox.take n ++ s.outbox.drop (n + 1) ∧
        t.sched.shapers = s.sched.shapers ∧ t.dram = s.dram ∧
        if o.pkt.ptype = 9 then
          tget [] (t.schedPort o.port).col.leaf (leafKey o) = tget [] (s.schedPort o.port).col.leaf (leafKey o) ++ [(w, s.counted o)]
        else tget [] (t.schedPort o.port).rsp.leaf (leafKey o) = tget [] (s.schedPort o.port).rsp.leaf (leafKey o) ++ [(w, s.counted o)]) ∧
      (∀ v, o.vi = some v → (s.shaper i v).fifo ≠ [] → ∃ t, exec (.shaperAdmit i n) s = .next t ∧
        t.outbox = s.outbox.take n ++ s.outbox.drop (n + 1) ∧
        t.shaper i v = { s.shaper i v with fifo := (s.shaper i v).fifo ++ [o] } ∧ t.sched.ports = s.sched.ports) ∧
      (∀ v y, o.vi = some v → (s.shaper i v).fifo = [] → y = (s.shaper i v).refill i s.now (s.vi v).sched → y.rate ≠ 0 →
        (y.count < 0 → ∃ t slot, exec (.shaperAdmit i n) s = .next t ∧ t.sched.ports = s.sched.ports ∧
          t.shaper i v = { y with fifo := [o], due := some slot } ∧ s.now < slot ∧ slot % 10080 = 0) ∧
        (∀ w, w = withBudget o ({ y with count := y.count - 8 * (s.counted o : Int) }.budget i) → 0 ≤ y.count →
          ∃ t, exec (.shaperAdmit i n) s = .next t ∧ (t.shaper i v).fifo = [] ∧ (t.shaper i v).due = none ∧
          (t.shaper i v).count = y.count - 8 * (s.counted o : Int) ∧
          if o.pkt.ptype = 9 then
            tget [] (t.schedPort o.port).col.leaf (leafKey o) = tget [] (s.schedPort o.port).col.leaf (leafKey o) ++ [(w, s.counted o)]
          else tget [] (t.schedPort o.port).rsp.leaf (leafKey o) = tget [] (s.schedPort o.port).rsp.leaf (leafKey o) ++ [(w, s.counted o)])) ∧
      (∀ v y w, o.vi = some v → (s.shaper i v).fifo = [] → y = (s.shaper i v).refill i s.now (s.vi v).sched → y.rate = 0 →
        w = withBudget o (y.budget i) → ∃ t, exec (.shaperAdmit i n) s = .next t ∧ (t.shaper i v).fifo = [] ∧
          (t.shaper i v).count = y.count ∧ (t.shaper i v).due = none ∧
          if o.pkt.ptype = 9 then
            tget [] (t.schedPort o.port).col.leaf (leafKey o) = tget [] (s.schedPort o.port).col.leaf (leafKey o) ++ [(w, s.counted o)]
          else tget [] (t.schedPort o.port).rsp.leaf (leafKey o) = tget [] (s.schedPort o.port).rsp.leaf (leafKey o) ++ [(w, s.counted o)])) ∧
    (∀ i, i < 6 → (∀ e ∈ s.sched.shapers, e.1 / 1024 = i → e.2.due = none) → exec (.shaperSlotDue i) s = .next s) ∧
    (∀ i v due y, i < 4 → s.sched.shapers.filterMap (fun e =>
        if e.1 / 1024 = i then e.2.due.map (fun t => (e.1 % 1024, t)) else none) = [(v, due)] → v < 1024 →
      y = (s.shaper i v).refill i (max s.now due) (s.vi v).sched →
      (∀ o, y.rate = 0 → 0 ≤ y.count → (s.shaper i v).fifo = [o] → ∃ t, exec (.shaperSlotDue i) s = .next t ∧
        t.now = max s.now due ∧ (t.shaper i v).fifo = [] ∧ (t.shaper i v).due = none ∧ (t.shaper i v).count = y.count) ∧
      (∀ o r, y.rate ≠ 0 → y.count < 0 → (s.shaper i v).fifo = o :: r → ∃ t slot, exec (.shaperSlotDue i) s = .next t ∧
        t.now = max s.now due ∧ t.shaper i v = { y with due := some slot } ∧ t.now < slot) ∧
      (∀ o, y.rate ≠ 0 → 0 ≤ y.count → (s.shaper i v).fifo = [o] → ∃ t, exec (.shaperSlotDue i) s = .next t ∧ t.now = max s.now due ∧
        (t.shaper i v).fifo = [] ∧ (t.shaper i v).due = none ∧
        (t.shaper i v).count = y.count - 8 * (s.counted o : Int))) ∧
    (∀ p, p < 66 → ∃ t, exec (.wEffUpdate p) s = .next t ∧ t.now = max s.now ((s.schedPort p).wAt + us 10) ∧
      (t.schedPort p).wAt = t.now ∧ (t.schedPort p).rsp = (s.schedPort p).rsp ∧ (t.schedPort p).col = (s.schedPort p).col ∧
      (t.schedPort p).table = s.sched.classes ∧ (∀ c, c < 8 → (s.sched.classes.getD c (0, 0)).1 ≤ (t.schedPort p).weff.getD c 0) ∧
      ((List.range 8).foldl (fun a c => a + (s.sched.classes.getD c (0, 0)).1) 0 ≤ 256 →
        (t.schedPort p).weff.foldl (· + ·) 0 = 256) ∧
      t.dram = s.dram ∧ ∀ k, k ≠ p → t.schedPort k = s.schedPort k) ∧
    (∀ g u r, g < 12 → r = s.reach ((s.region g).loadAt + us 1) →
      u = max (max (8 * (s.home.txns.filter (fun t => stackOf (64 * t.1) == g)).length / 2048)
          (8 * (s.waiting.filter (fun w => match w.why with
            | .parked x => stackOf (64 * x) == g
            | _ => false)).length / 8192))
        (max (8 * (span (32 * g) 32).foldl (fun a c => a + ((s.chan c).sumParked r.now).parkAcc) 0 /
            (2048 * max 1 (r.now - (s.region g).loadAt)))
          (8 * (s.region g).fills.length / 64)) →
      ∃ t, exec (.loadUpdate g) s = .next t ∧ t = { r with regions := t.regions, chans := t.chans } ∧
        t.region g = { s.region g with load := min 7 u, loadAt := r.now, busyHalf := decide (4 ≤ u) } ∧
        (∀ k, k ≠ g → t.region k = s.region k) ∧
        ∀ c, t.chan c = if c / 32 = g then { s.chan c with parkAcc := 0, parkAt := r.now } else s.chan c) ∧
    (∀ g, g < 12 → ((s.region g).paced = [] → exec (.weirPaceRelease g) s = .next s) ∧
      ∀ o r n x st ti d, (s.region g).paced = o :: r → o.dest = .node n → o.ref = some (st, ti, d) →
        x = s.reach (tget 0 s.fabric.paceAt n) →
        ((∀ e ∈ s.engines, ∀ q, e.2.tile = some q → q.sending = true → ¬ (q.entry.stream = st ∧ q.entry.tile = ti)) ∨
          ∃ a ∈ r, ∃ b, a.ref = some (st, ti, b)) →
        (∀ y, x.launch o n = (.waits, y) → exec (.weirPaceRelease g) s = .next x) ∧
        (∀ y, x.launch o n = (.sent, y) → ∃ t, exec (.weirPaceRelease g) s = .next t ∧ (t.region g).paced = r ∧
          t.outbox = y.outbox ∧
          tget 0 t.fabric.paceAt n = x.now + paceTicks (wireBytes o.pkt) (s.rateOf n true)) ∧
        (∀ y, x.launch o n = (.abandoned, y) → ∃ u : State,
          (u.region g).paced = r ∧ u.streams = s.streams ∧ exec (.weirPaceRelease g) s = .next
            ((u.modStream st (fun y => { y with abandoned := y.abandoned ++ [(ti, d)] })).gatherAnswered st ti d 6)))

/-- A request enters the channel of its block: the latency port, or the FIFO of the requester that its traffic
belongs to, or is held by the region while that is full; the latency port sets and clears panic by its level.
One M-cycle after its last command the controller issues, in this order: an overdue neighbour refresh, a mark
write that is due, the head of the latency port, a starved entry, the winner of the lottery, which advances the
LFSR when tickets are drawn; in panic nothing after the latency port. A finished read leaves, and a word of it
that cannot be corrected is counted and rewritten as poisoned. An entry that has waited 200 M-cycles is starved;
one that has waited STARVE_LIMIT sets STARVE, and FORD_STARVE goes to the physical functions at most once per
ms. Nothing but the channel changes where the rules name nothing else. At its slot a bank is refreshed, or its
refresh is put off while fewer than REF_POSTPONE are and a cause holds, or, where refreshes may be put off at
all, it waits for the latency port; the slot passes to the next bank, and the first slot of a new window clears
the Eddy counts. A refresh that was put off is made up once its cause has gone, one every 12 M-cycles. A
neighbour refresh that has waited 1 us refreshes its next row ahead of everything. (12_memory_and_ras.md) -/
def Obligations.ChannelsServeAndRefresh : Prop :=
  (
    ∀ (s : State) (n : Nat) (c : Chan), n < 384 → c = s.chan n →
      (∀ r e, packageChannel r.pa = n → r.pa < 12 * stackBytes →
        e = (⟨r, c.arrivals, s.now, !r.write && (!c.lp.isEmpty || decide (s.now < c.lpUntil) ||
          (match c.forced with | some (b, z) => b == r.bank && decide (s.now < z) | none => false)), false⟩ : ChanEnt) →
        r.urgent = true → c.lp.length < 32 → ∃ t x, exec (.channelRequestArrive n r) s = .next t ∧ onlyChan s t n x ∧
          x.lp = c.lp ++ [e] ∧ x.arrivals = c.arrivals + 1 ∧ x.fifos = c.fifos ∧ x.held = c.held ∧
          x.panic = (if c.panic then !decide (c.lp.length + 1 ≤ c.panicLo) else decide (c.panicHi < c.lp.length + 1))) ∧
      (∀ r e, packageChannel r.pa = n → r.pa < 12 * stackBytes → e = (⟨r, c.arrivals, s.now, false, false⟩ : ChanEnt) →
        (r.urgent = true ∧ 32 ≤ c.lp.length ∨ r.urgent = false ∧ 8 ≤ (tget [] c.fifos r.req).length →
          ∃ t, exec (.channelRequestArrive n r) s = .next t ∧
            onlyChan s t n { c with arrivals := c.arrivals + 1, held := c.held ++ [e] }) ∧
        (r.urgent = false → (tget [] c.fifos r.req).length < 8 → ∃ t x, exec (.channelRequestArrive n r) s = .next t ∧
          onlyChan s t n x ∧ tget [] x.fifos r.req = tget [] c.fifos r.req ++ [e] ∧ x.lp = c.lp ∧ x.panic = c.panic ∧
          x.arrivals = c.arrivals + 1 ∧ ∀ k, k ≠ r.req → tget [] x.fifos k = tget [] c.fifos k)) ∧
      (∀ w, w = s.reach (c.cmdAt + mCycles 1) → ∃ t x, exec (.channelIssue n) s = .next t ∧ onlyChan w t n x ∧ x.cmdAt = w.now ∧
        (∀ m r l, c.overdue w.now = some m → m.rows = r :: l →
          tget 0 x.bankUntil m.bank = w.now + mCycles 12 ∧ (∀ e ∈ x.lp, e.r.write = false → e.starved = true) ∧
          x.parked = c.parked ∧ x.fifos = c.fifos) ∧
        (c.overdue w.now = none →
          (∀ e, (∀ k, c.lastMark = some k → k + mCycles 100 ≤ w.now) →
            oldestEnt ((c.parked ++ tget [] c.fifos 5).filter (fun e => e.r.mark && c.issuable w.now e)) = some e →
            x.lastMark = some w.now) ∧
          ((∀ e ∈ c.parked ++ tget [] c.fifos 5, e.r.mark = false) →
            (∀ e l, c.lp = e :: l → c.issuable w.now e = true → c.held = [] → e.r.urgent = true →
              x.lp = c.lp.filter (· != e) ∧ x.stats.lpReads = c.stats.lpReads + 1 ∧
              (if e.r.write then tget 0 x.bankUntil e.r.bank = w.now + mCycles 12 else x.active = c.active ++ [e])) ∧
            ((∀ e l, c.lp = e :: l → c.issuable w.now e = false) →
              (c.panics = true → x = { c.sumParked w.now with cmdAt := w.now }) ∧
              (c.panics = false →
                (∀ e, oldestEnt (c.parked.filter (fun e => e.starved && c.lotteryOk w.now e)) = some e → e.r.write = false →
                  x.active = c.active ++ [e] ∧ x.lfsr = c.lfsr) ∧
                (oldestEnt (c.parked.filter (fun e => e.starved && c.lotteryOk w.now e)) = none →
                  ((∃ i, i < 8 ∧ (c.candidate w.now i).isSome = true) →
                    (∃ e, e ∈ c.parked ++ c.fifos.flatMap (·.2) ∧ c.lotteryOk w.now e = true ∧
                      (e.r.write = false → x.active = c.active ++ [e])) ∧
                    x.lfsr = (if (List.range 8).any (fun i => (c.candidate w.now i).isSome && c.tickets.getD i 0 != 0) then
                      lfsrNext c.lfsr else c.lfsr)) ∧
                  ((∀ i, i < 8 → c.candidate w.now i = none) → c.mayRefreshRow w.now = none → x = { c.sumParked w.now with cmdAt := w.now }))))))) ∧
      (c.active = [] → exec (.dramReadDone n) s = .next s) ∧
      (∀ e l, c.active = e :: l →
        ((∀ w ∈ e.r.words, s.dram.listed (32 * w) 32 = []) →
          ∃ t, exec (.dramReadDone n) s = .next t ∧ onlyChan s t n { c with active := l }) ∧
        (∀ w, e.r.words = [w] → packageChannel (32 * w) = n → s.isValid (granuleOf (32 * w)) = true →
          s.dram.listed (32 * w) 32 = [w] → s.dram.word w = none →
          ∃ t, exec (.dramReadDone n) s = .next t ∧ (t.chan n).active = l ∧
            (t.chan n).stats.eccUncorrected = c.stats.eccUncorrected + 1 ∧
            t.dram = s.dram.setWord w (memBytes s.dram.mem (32 * w) 32) .poisoned)) ∧
      (∀ id, c.findEnt id = none → exec (.entryStarved n id) s = .next s ∧ exec (.starveLimit n id) s = .next s) ∧
      (∀ id e, c.findEnt id = some e →
        (e.starved = true → exec (.entryStarved n id) s = .next s) ∧
        (e.starved = false → ∃ t x, exec (.entryStarved n id) s = .next t ∧ onlyChan (s.reach (e.since + mCycles 200)) t n x ∧
          x.stats.starved = c.stats.starved + 1 ∧ x.parked = c.parked.map (fun y => if y.r.id == id then { y with starved := true } else y) ∧
          x.lp = c.lp ∧ x.stats.starve = c.stats.starve) ∧
        (e.limitHit = true → exec (.starveLimit n id) s = .next s) ∧
        (∀ r, e.limitHit = false → r = s.reach (e.since + mCycles c.starveLimit) →
          ∃ t, exec (.starveLimit n id) s = .next t ∧ t.now = r.now ∧ (t.chan n).stats.starve = true ∧
            (t.chan n).stats.starveReq = insSet c.stats.starveReq e.r.req ∧ (t.chan n).lp = c.lp ∧
            (if c.starveIe = true ∧ ∀ k, c.postedAt = some k → k + ms 1 ≤ r.now then
               (t.chan n).postedAt = some r.now ∧ ∀ v, v = 0 ∨ v = 256 → (s.page v).eqEn = true →
                 (t.page v).evq = (s.page v).evq ++ [⟨evFORD_STARVE, 0, toLe 2 n ++ toLe 1 e.r.req⟩]
             else (t.chan n).postedAt = c.postedAt ∧ t.vis = s.vis)))) ∧
  (
    ∀ (s : State) (n : Nat) (c : Chan) (busy : Bool), n < 384 → c = s.chan n → busy = (s.region (n / 32)).busyHalf →
      (∀ r b, r = s.reach (c.slotAt + mCycles (if c.hot then 67 else 135)) → b = c.slotBank →
        ∃ t x, exec (.refreshSlot n) s = .next t ∧ onlyChan r t n x ∧ x.slotBank = (b + 1) % 64 ∧ x.slotAt = r.now ∧
          x.lp = c.lp ∧ x.fifos = c.fifos ∧ x.parked = c.parked ∧
          (b ≠ 0 → x.eddy = c.eddy ∧ x.refDone = c.refDone ∧ x.halfLeft = c.halfLeft) ∧
          (b = 0 → x.halfLeft = c.halfLeft - 1 ∧
            if 4608 ≤ c.refDone then x.refDone = 1 ∧ (∀ e ∈ x.eddy, e.2.2 = 0) ∧ x.eddy.length = c.eddy.length
            else x.refDone = c.refDone + 1 ∧ x.eddy = c.eddy) ∧
          (if tget 0 c.postponed b < c.refPostpone ∧ c.postpones busy b r.now = true then
             tget 0 x.postponed b = tget 0 c.postponed b + 1 ∧ x.bankUntil = c.bankUntil ∧ x.due = c.due ∧
             x.stats.refPostponed = c.stats.refPostponed + 1
           else if c.panicEn = true ∧ c.refPostpone ≠ 0 ∧ c.lpNames b = true then
             x.due = c.due ++ [b] ∧ x.bankUntil = c.bankUntil ∧ x.postponed = c.postponed
           else tget 0 x.bankUntil b = r.now + mCycles 12 ∧ x.due = c.due ∧ x.postponed = c.postponed)) ∧
      (∀ r, r = s.reach (match c.caughtAt with | some k => k + mCycles 12 | none => 0) →
        ∃ t x, exec (.catchUpRefresh n) s = .next t ∧ onlyChan r t n x ∧ x.lp = c.lp ∧ x.parked = c.parked ∧
        (∀ b, c.due.find? (fun b => !(c.panicEn && c.lpNames b) && !c.bankBusy b r.now) = some b →
          x.due = c.due.erase b ∧ tget 0 x.bankUntil b = r.now + mCycles 12 ∧ x.postponed = c.postponed ∧
          x.caughtAt = some r.now) ∧
        (c.due.find? (fun b => !(c.panicEn && c.lpNames b) && !c.bankBusy b r.now) = none →
          (∀ b, (c.postponed.map (·.1)).find? (fun b => !c.postpones busy b r.now && !c.bankBusy b r.now) = some b →
            tget 0 x.postponed b = tget 0 c.postponed b - 1 ∧ tget 0 x.bankUntil b = r.now + mCycles 12 ∧ x.due = c.due ∧
            x.caughtAt = some r.now) ∧
          ((c.postponed.map (·.1)).find? (fun b => !c.postpones busy b r.now && !c.bankBusy b r.now) = none → x = c))) ∧
      (c.neigh = [] → exec (.neighbourRefreshForce n) s = .next s) ∧
      (∀ m l r, c.neigh = m :: l → r = s.reach (m.at_ + us 1) →
        (c.overdue r.now = none → ∃ t, exec (.neighbourRefreshForce n) s = .next t ∧ onlyChan r t n c) ∧
        (∀ k row rest, c.overdue r.now = some k → k.rows = row :: rest → rest ≠ [] →
          ∃ t x, exec (.neighbourRefreshForce n) s = .next t ∧ onlyChan r t n x ∧
            tget 0 x.bankUntil k.bank = r.now + mCycles 12 ∧ (∀ e ∈ x.lp, e.r.write = false → e.starved = true) ∧
            { k with rows := rest } ∈ x.neigh ∧ x.fifos = c.fifos ∧ x.parked = c.parked) ∧
        (∀ k row, c.overdue r.now = some k → k.rows = [row] → ∃ t x, exec (.neighbourRefreshForce n) s = .next t ∧
          onlyChan r t n x ∧ tget 0 x.bankUntil k.bank = r.now + mCycles 12 ∧
          x.stats.eddyRefreshes = c.stats.eddyRefreshes + 1)))

/-- PAIR_FORM, PAIR_ACCEPT, PAIR_ROLE, PAIR_RESYNC, PAIR_MEND, PAIR_SET, PAIR_DISSOLVE and PAIR_COORD_MOVE, accepted
in the states that the rules name. PAIR_FORM asks the partner and waits; PAIR_ACCEPT notes the active; PAIR_ROLE
at the active starts the exchange with the close of the cycle, at the standby it asks the active and is answered
once the roles are exchanged; PAIR_RESYNC starts every region's sweep; PAIR_MEND notes the granule, and waits
while the dirty table has no room for it; PAIR_SET puts fields in range in force; PAIR_DISSOLVE leaves the
package UNPAIRED with its lines released; PAIR_COORD_MOVE gives the coordinator lease away. What changes the
partner too is answered when it has taken the change. In other states the commands are refused BOUND.
(13_pairing_and_failover.md, 14_virtual_interfaces_and_mailboxes.md) -/
def Obligations.PairCommandsAct : Prop :=
  ∀ (s : State) (p : Nat) (c : Cmd),
    (∀ a, a = arg c 0 2 → accepted s p 0x0901 c (lenIs c 2) [(0, 2, 0xFFF)] .pf false →
      ((s.pair.state = .unpaired ∨ s.pair.state = .solo) → a ≠ s.aon.nodeId → s.reinUp = true → s.pair.fault = false →
        s.pair.partnerState ≠ some .active → s.pair.partnerState ≠ some .solo → s.pair.formTag = none →
        ∃ t tag, exec (.pairForm p c) s = .next t ∧ inProgress t p 0x0901 a c ∧ t.pair = { s.pair with formTag := some tag } ∧
          t.cyc.mirrorSent = s.cyc.mirrorSent ++ [(tag, p, s.now)] ∧
          toPartner s t 0x24 (Config.mirrorPayload (.form s.aon.nodeId)) ∧ samePool s t) ∧
      ((s.pair.state ≠ .unpaired ∧ s.pair.state ≠ .solo ∨ s.reinUp = false ∨ s.pair.fault = true ∨
          s.pair.partnerState = some .active ∨ s.pair.partnerState = some .solo) → s.mirrors = false →
        ∃ t, exec (.pairForm p c) s = .next t ∧ answered t p c stBOUND ∧ t.pair = s.pair ∧ samePool s t)) ∧
    (∀ a, a = arg c 0 2 → accepted s p 0x0902 c (lenIs c 2) [(0, 2, 0xFFF)] .pf false → a ≠ s.aon.nodeId →
      (s.pair.state = .unpaired ∨ s.pair.state = .stale ∨ s.pair.state = .fenced) →
      ∃ t, exec (.pairAccept p c) s = .next t ∧ answered t p c stOK ∧ t.pair = { s.pair with accepted := some a } ∧
        samePool s t) ∧
    (accepted s p 0x0903 c (lenIs c 0) [] .co false →
      (s.pair.state = .active → s.cyc.roleStep = 0 → s.mayClose = true →
        ∃ t, exec (.pairRole p c) s = .next t ∧ inProgress t p 0x0903 0 c ∧ t.cyc.roleStep = 2 ∧ t.cyc.roleVi = p ∧
          t.cyc.roleCycle = s.cyc.cycle ∧ t.cyc.cycle = s.cyc.cycle + 1 ∧ t.pair.state = .active) ∧
      (s.pair.state = .active → s.cyc.roleStep = 0 → s.mayClose = false →
        ∃ t, exec (.pairRole p c) s = .next t ∧ inProgress t p 0x0903 0 c ∧
          t.cyc = { s.cyc with roleStep := 1, roleVi := p, closeNow := true } ∧ t.pair = s.pair ∧ samePool s t) ∧
      (s.pair.state = .standby → s.cyc.roleStep = 0 → s.pair.claimDue = false → (∀ q ∈ s.waitersOn 0x0903 0, q = p) →
        ∃ t, exec (.pairRole p c) s = .next t ∧ inProgress t p 0x0903 0 c ∧ t.pair = s.pair ∧
          toPartner s t 0x24 (Config.mirrorPayload .role) ∧ samePool s t)) ∧
    (accepted s p 0x0904 c (lenIs c 0) [] .co false →
      (s.pair.state = .solo → s.pair.partnerState = some .syncing → ∃ t, exec (.pairResync p c) s = .next t ∧
        answered t p c stOK ∧ t.cyc.resync = true ∧ t.cyc.lastCycle = none ∧ t.cyc.fullCopy = s.cyc.fullCopy ∧
        t.cyc.deltaFrom = s.cyc.deltaFrom ∧ samePool s t ∧
        ∀ r, r < 12 → (t.region r).cursor = some (r * stackGranules) ∧ (t.region r).savedCursor = r * stackGranules) ∧
      (s.pair.state ≠ .solo → ∃ t, exec (.pairResync p c) s = .next t ∧ answered t p c stBOUND ∧ t.cyc = s.cyc ∧
        t.regions = s.regions ∧ samePool s t)) ∧
    (∀ g, g = arg c 0 4 → accepted s p 0x0905 c (lenIs c 5) [] .co false → g < 12 * stackGranules → s.mirroredAt g = true →
      (s.pair.state = .active → arg c 4 1 = 1 → ∃ t, exec (.pairMend p c) s = .next t ∧ inProgress t p 0x0905 g c ∧
        t.cyc.mends = s.cyc.mends ++ [(p, g, none)] ∧ toPartner s t 0x24 (Config.mirrorPayload (.mend g true)) ∧
        samePool s t) ∧
      (s.pair.state = .active → arg c 4 1 = 0 → s.tableFull g = true → ∃ t, exec (.pairMend p c) s = .next t ∧
        inProgress t p 0x0905 parkWait c ∧ t.cyc = s.cyc ∧ t.outbox = s.outbox ∧ samePool s t) ∧
      (s.pair.state = .active → arg c 4 1 = 0 → s.tableFull g = false → s.mayClose = false →
        ∃ t, exec (.pairMend p c) s = .next t ∧ inProgress t p 0x0905 g c ∧ t.cyc.mends = s.cyc.mends ++ [(p, g, some s.cyc.cycle)] ∧ t.cyc.closeNow = true ∧
        (∀ b, b < 256 → b ∈ tget [] (t.region (regionOfGranule g)).dirty g) ∧ samePool s t) ∧
      (s.pair.state = .standby → arg c 4 1 ≤ 1 → ∃ t, exec (.pairMend p c) s = .next t ∧ waitsPartner t p ∧
        toPartner s t 0x24 (Config.mirrorPayload (.mend g (arg c 4 1 == 1))) ∧ samePool s t)) ∧
    (∀ v, v = arg c 0 4 → accepted s p 0x0906 c (lenIs c 4) [(0, 4, 0xFFFCFF06)] .co false → 5 ≤ bitf v 31 24 →
      bitf v 31 24 ≤ 200 → 1 ≤ bitf v 23 18 → bitf v 23 18 ≤ 32 → 5 ≤ bitf v 15 8 → bitf v 15 8 ≤ 200 →
      ∃ t, exec (.pairSet p c) s = .next t ∧ t.cyc.girth = bitf v 31 24 ∧ t.cyc.cycleCap = bitf v 23 18 ∧
        t.cyc.cycleUs = bitf v 15 8 ∧ t.cyc.soloEn = tbit v 2 ∧ t.cyc.takeoverEn = tbit v 1 ∧ t.pair = s.pair ∧ samePool s t ∧
        waitsPartner t p) ∧
    (accepted s p 0x0907 c (lenIs c 0) [] .pf false → pairIdle s →
      ∃ t, exec (.pairDissolve p c) s = .next t ∧ answered t p c stOK ∧ t.pair.state = .unpaired ∧ t.pair.partner = 0 ∧
        t.pair.index = s.pair.index ∧ t.pair.act = false ∧ t.pair.req = false ∧ t.pair.la = Girth.reset ∧
        t.pair.co = Girth.reset ∧ t.pair.fault = s.pair.fault ∧ t.cyc.shipping = none ∧ t.cyc.closedWait = none ∧ t.cyc.resync = false ∧
        (s.pair.state ≠ .unpaired → t.log = s.log ++ [⟨lgPAIR_STATE, [s.pair.state.code, 0]⟩]) ∧ samePool s t) ∧
    (accepted s p 0x0908 c (lenIs c 0) [] .co false →
      (s.linked = true → ∃ t, exec (.pairCoordMove p c) s = .next t ∧ waitsPartner t p ∧ t.pair = { s.pair with
          co := { s.pair.co with hold := false, viewEnd := s.now + fastEdge s s.girthLen } } ∧ samePool s t) ∧
      (s.linked = false → ∃ t, exec (.pairCoordMove p c) s = .next t ∧ answered t p c stBOUND ∧ t.pair = s.pair ∧
        samePool s t))

/-- A cycle closes once the cycle before the last has been acknowledged and no batch of its is between acceptance
and stamp: every dirty granule takes its number, the dirty tables are empty, and the cycle ships or waits for
the one that ships. REPL_COMMIT goes out when every record has been read; the standby applies the cycle and
acknowledges it when every record is written; the acknowledgement makes the cycle applied and lets the next one
ship. After 1 ms without an answer the active demands STALE. The sweep goes on by 16,384 granules while the Rein
link is up, and the cursor that is saved does not pass a record that has not left; its end makes the current
cycle the last one of the resynchronisation. (13_pairing_and_failover.md, 16_mode_combinations.md) -/
def Obligations.CyclesCloseAndAreAcknowledged : Prop :=
  ∀ (s : State),
    (s.mayClose = false → exec .pairCycleClose s = .next s) ∧
    (s.mayClose = true → noCycleWait s →
      ∃ t, exec .pairCycleClose s = .next t ∧ t.cyc.cycle = s.cyc.cycle + 1 ∧ t.cyc.openedAt = t.now ∧
        t.cyc.closeNow = false ∧ t.cyc.usNow = s.cyc.cycleUs ∧ t.cyc.capNow = s.cyc.cycleCap ∧ t.cyc.applied = s.cyc.applied ∧
        t.pair = s.pair ∧ (s.cyc.closeNow = true → t.now = s.now ∧ t.cyc.early = s.cyc.early) ∧
        ((∀ g ∈ s.regions.flatMap (fun r => r.2.dirty.map (·.1)), g < 12 * stackGranules) → s.dram.check = [] → s.memOk →
          (∀ e ∈ t.regions, e.2.dirty = []) ∧
          ∀ g ∈ s.regions.flatMap (fun r => r.2.dirty.map (·.1)), t.cycleNo g = s.cyc.cycle.toNat) ∧
        (s.ships = true → s.cyc.shipping = none → t.cyc.shipping = some s.cyc.cycle ∧ t.cyc.committed = none) ∧
        (∀ n, s.ships = true → s.cyc.shipping = some n → t.cyc.shipping = some n ∧ t.cyc.closedWait = some s.cyc.cycle)) ∧
    ((s.cyc.shipping = none ∨ s.cyc.committed ≠ none) → exec .replCommitSend s = .next s) ∧
    (∀ n, s.cyc.shipping = some n → s.cyc.committed = none →
      (s.cyc.unread = [] → ∃ t, exec .replCommitSend s = .next t ∧ t.cyc = { s.cyc with committed := some (n, s.now) } ∧
        toPartner s t 0x22 (toLe 4 n.toNat) ∧ samePool s t) ∧
      (s.cyc.unread ≠ [] → (∀ e ∈ s.cyc.unread, s.reservation e.1 ≠ none ∨ (s.region (regionOfGranule e.1)).inReset = true) →
        exec .replCommitSend s = .next s)) ∧
    (∀ n, (s.pair.state ≠ .standby → s.pair.state ≠ .syncing → ∃ t, exec (.replCommit n) s = .next t ∧ t.cyc = s.cyc ∧
        t.outbox = s.outbox ∧ samePool s t) ∧
      (s.pair.state = .standby ∨ s.pair.state = .syncing →
        (s.recordsPending n = true → exec (.replCommit n) s = .next s) ∧
        (s.recordsPending n = false → ∃ t, exec (.replCommit n) s = .next t ∧ t.cyc = { s.cyc with applied := n } ∧
          toPartner s t 0x23 (toLe 4 n.toNat) ∧ samePool s t))) ∧
    (∀ n, (∀ at_, s.cyc.committed ≠ some (n, at_)) → ∃ t, exec (.replAck n) s = .next t ∧ t.cyc = s.cyc ∧
      t.outbox = s.outbox ∧ samePool s t) ∧
    (∀ n at_, s.cyc.committed = some (n, at_) → s.pair.state = .active → s.cyc.closeNow = false → pairIdle s →
      (s.cyc.closedWait = none → ∃ t, exec (.replAck n) s = .next t ∧
        t.cyc = { s.cyc with applied := n, shipping := none, unread := [], committed := none } ∧ t.pair = s.pair ∧
        t.outbox = s.outbox ∧ samePool s t) ∧
      (∀ m, s.cyc.closedWait = some m → ∃ t, exec (.replAck n) s = .next t ∧ t.cyc.applied = n ∧
        t.cyc.shipping = some m ∧ t.cyc.committed = none ∧ t.cyc.closedWait = none ∧ t.pair = s.pair ∧
        (s.dram.check = [] → samePool s t))) ∧
    (∀ n at_ o h, s.cyc.committed = some (n, at_) → s.pair.state = .active → s.cyc.closeNow = false →
      s.cyc.closedWait = none → pairIdle { s with cyc := { s.cyc with heldAns := [] } } →
      s.cyc.heldAns = [⟨n, some o, none⟩] → o.dest = .host h →
      ∃ t, exec (.replAck n) s = .next t ∧ t.cyc.heldAns = [] ∧ t.outbox = s.outbox ++ [o]) ∧
    (s.cyc.committed = none → s.cyc.mirrorSent = [] → exec .replAckTimeout s = .next s) ∧
    (∀ n at_ r, s.cyc.committed = some (n, at_) → s.cyc.mirrorSent = [] → s.mirrors = true → s.pair.formTag = none →
      r = s.reach (at_ + ms 1) → ∃ t, exec .replAckTimeout s = .next t ∧ t.now = r.now ∧ t.pair.demand = true ∧
        t.pair.state = s.pair.state ∧ t.cyc = s.cyc ∧ toPartner s t 0x25 (toLe 2 0 ++ toLe 1 1) ∧ samePool s t) ∧
    (∀ g, g < 12 →
      ((s.cyc.resync = false ∨ (s.region g).cursor = none) → exec (.resyncCursorSave g) s = .next s) ∧
      (∀ k, s.cyc.resync = true → (s.region g).cursor = some k → s.reinUp = false →
        ∃ t, exec (.resyncCursorSave g) s = .next t ∧ t = { s with regions := t.regions } ∧
          t.region g = { s.region g with savedCursor := (s.unsentRecords g).foldl min k }) ∧
      (∀ k, s.cyc.resync = true → (s.region g).cursor = some k → s.reinUp = true → (s.region g).inReset = false →
        ∃ t, exec (.resyncCursorSave g) s = .next t ∧
          (t.region g).savedCursor = (t.unsentRecords g).foldl min ((t.region g).cursor.getD 0) ∧
          (t.region g).cursor = some (max k (min (sweepEnd g)
            (g * stackGranules + ((k - g * stackGranules) / 16384 + 1) * 16384))) ∧ t.pair = s.pair)) ∧
    ((s.pair.state ≠ .solo ∨ s.cyc.resync = false ∨ s.reinUp = false ∨ s.cyc.lastCycle ≠ none ∨ s.mayClose = false ∨
      (∃ g, g < 12 ∧ (s.region g).inReset = true)) → exec .resyncSweepDone s = .next s) ∧
    (s.pair.state = .solo → s.cyc.resync = true → s.reinUp = true → s.cyc.lastCycle = none → s.mayClose = true →
      (∀ g, g < 12 → (s.region g).inReset = false) → noCycleWait s →
      ∃ t, exec .resyncSweepDone s = .next t ∧ t.cyc.lastCycle = some s.cyc.cycle ∧ t.cyc.cycle = s.cyc.cycle + 1 ∧
        t.cyc.resync = true ∧ t.pair = s.pair ∧ ∀ g k, g < 12 → (s.region g).cursor = some k →
          (t.region g).cursor = some (max k (sweepEnd g)))

/-- At a package that takes records, a record whose cycle number is not earlier than the granule's is written: its
bytes, the valid bit and the stamp's batch come into the pool; an earlier one leaves its buffer and nothing
else. A package that serves the pool writes none, but for a mended or later copy. A mark makes both words of its
64 bytes poisoned or lost-dirty (that both do is log entry 94), and leaves a poisoned word poisoned. A
CTL_MIRROR is applied to the package's copy of the state and answered; an UNPAIRED package answers BOUND to all
but the start of PAIR_FORM. A record that a full fill table or dirty table holds back waits. A digest that
equals the standby's own has no effect; one of the same cycle that differs is logged as divergent and answered,
and at the active leaves both copies as they are; a copy that a digest calls poisoned is rewritten by a whole
record. (13_pairing_and_failover.md, 16_mode_combinations.md) -/
def Obligations.RecordsReachTheStandby : Prop :=
  ∀ (s : State),
    (∀ r i, (i = .replRec r ∨ i = .resyncRec r) → r.granule < 12 * stackGranules →
      ((s.region (regionOfGranule r.granule)).inReset = true ∨ s.recordHeld r = true → exec i s = .next s) ∧
      ((s.region (regionOfGranule r.granule)).inReset = false → s.recordHeld r = false → s.takesRecords = true →
        afind s.dram.check (cycleAddr r.granule / 32) = none →
        (later 32 (s.cycleNo r.granule) r.cycle.toNat = true → ∃ t, exec i s = .next t ∧ samePool s t ∧ t.cyc = s.cyc) ∧
        (later 32 (s.cycleNo r.granule) r.cycle.toNat = false → s.memOk →
          outOfPool (r.granule * granuleBytes) granuleBytes = false → r.valid = true → r.whole = true →
          r.data.length = granuleBytes → ∃ t, exec i s = .next t ∧
            t.cyc = (match s.cyc.asked.find? (fun a => a.1 == r.granule) with
              | none => { s.cyc with records := s.cyc.records + 1 }
              | some a => { s.cyc with
                  records := s.cyc.records + 1, asked := s.cyc.asked.erase a, repaired := s.cyc.repaired + b2n a.2,
                  refreshed := s.cyc.refreshed + b2n (!a.2) }) ∧
            r.granule ∈ t.dram.valid ∧ t.pair = s.pair ∧ t.exts = s.exts ∧
            ∀ k, k < granuleBytes → memByte t.dram.mem (r.granule * granuleBytes + k) = r.data.getD k 0#8)) ∧
      ((s.region (regionOfGranule r.granule)).inReset = false → s.recordHeld r = false → s.takesRecords = false →
        i = .replRec r →
        ∃ t, exec i s = .next t ∧ samePool s t ∧ t.cyc = s.cyc)) ∧
    (∀ r, r.granule < 12 * stackGranules → (s.region (regionOfGranule r.granule)).inReset = false →
      s.recordHeld r = false → s.pair.state = .active → s.cyc.mends = [] → ∃ t, exec (.resyncRec r) s = .next t ∧ t.cyc.refreshed =
        s.cyc.refreshed + (if later 32 r.cycle.toNat (s.cycleNo r.granule) then 1 else 0) ∧
        (later 32 r.cycle.toNat (s.cycleNo r.granule) = false → samePool s t)) ∧
    (∀ l, s.takesRecords = false → ∃ t, exec (.replMark l) s = .next t ∧ samePool s t ∧ t.pair = s.pair) ∧
    (∀ x n b a, s.takesRecords = true → a = chanWordPa (n / 32) (n % 32) x →
      (poolEnd ≤ a → ∃ t, exec (.replMark [(x, n, b)]) s = .next t ∧ samePool s t) ∧
      (a < poolEnd → ∃ t, exec (.replMark [(x, n, b)]) s = .next t ∧
        t.dram = [a / 32, a / 32 + 1].foldl (fun d w =>
          if b = false ∧ (match d.word w with | some y => y.kind == .poisoned | none => true) = true then d
          else d.setWord w (memBytes d.mem (32 * w) 32) (if b then .poisoned else .marked)) s.dram)) ∧
    (∀ m, (∀ a, m ≠ .form a) → s.pair.state = .unpaired → ∃ t, exec (.ctlMirror m) s = .next t ∧ mirrorAnswered s t stBOUND ∧
      t.exts = s.exts ∧ t.wins = s.wins ∧ t.vis = s.vis ∧ t.cyc = s.cyc ∧ t.pair = s.pair ∧ samePool s t) ∧
    (s.takesRecords = true →
      (∀ id b, ∃ t, exec (.ctlMirror (.ext id b)) s = .next t ∧ mirrorAnswered s t stOK ∧ t.ext id = parseExt b ∧
        (∀ k, k ≠ id → t.ext k = s.ext k) ∧ samePool s t) ∧
      (∀ id k, ∃ t, exec (.ctlMirror (.winClass id k)) s = .next t ∧ mirrorAnswered s t stOK ∧
        t.win id = { s.win id with cls := k } ∧ (∀ w, w ≠ id → t.win w = s.win w) ∧ samePool s t) ∧
      (∀ v k n, ∃ t, exec (.ctlMirror (.key v k n)) s = .next t ∧ mirrorAnswered s t stOK ∧ (t.vi v).key = k ∧
        (t.vi v).counter = n ∧ (∀ w, w ≠ v → t.vi w = s.vi w) ∧ samePool s t) ∧
      (∀ n b e, parseNode b = some e → ∃ t, exec (.ctlMirror (.node n b)) s = .next t ∧ mirrorAnswered s t stOK ∧
        t.node n = e ∧ samePool s t) ∧
      (∀ i n v, ∃ t, exec (.ctlMirror (.agent i n v true)) s = .next t ∧ mirrorAnswered s t stOK ∧
        t.agent i = some ⟨n, v, false⟩ ∧ samePool s t) ∧
      (∀ v n, ∃ t, exec (.ctlMirror (.lease v true n)) s = .next t ∧ mirrorAnswered s t stOK ∧
        (t.vi v).lease.running = true ∧ (t.vi v).lease.ms = n ∧ samePool s t)) ∧
    (s.pair.state ≠ .unpaired → ∃ t, exec (.ctlMirror .coordMove) s = .next t ∧ mirrorAnswered s t stOK ∧ t.pair = { s.pair with
      co := { s.pair.co with
        hold := true, endAt := s.now + slowEdge s s.girthLen, answered := true, lapsed := false, len := s.girthLen } }) ∧
    (s.pair.state = .standby → s.pair.act = false → s.partnerAct = true → ∃ t, exec (.ctlMirror .role) s = .next t ∧
      mirrorAnswered s t stOK ∧ t.pair.state = .standby ∧ t.pair.act = false ∧ t.pair.claimDue = true ∧
      t.pair.la.hold = true ∧ t.pair.co.hold = true ∧ t.cyc = s.cyc ∧ samePool s t) ∧
    (s.pair.state = .standby → (s.pair.act = true ∨ s.partnerAct = false) → s.waitersOn 0x0903 0 = [] →
      ∃ t, exec (.ctlMirror .role) s = .next t ∧ mirrorAnswered s t stOK ∧ t.pair.state = .active ∧
      t.pair.act = true ∧ t.pair.la.hold = true ∧ t.pair.co.hold = true ∧ t.cyc.cycle = s.cyc.applied + 1 ∧ samePool s t) ∧
    (∀ a, s.pair.accepted ≠ some a → ∃ t, exec (.ctlMirror (.form a)) s = .next t ∧ mirrorAnswered s t stBOUND ∧
      t.pair = s.pair ∧ t.exts = s.exts) ∧
    (∀ g d, g < 12 * stackGranules →
      ((s.region (regionOfGranule g)).inReset = true ∨ s.pair.state ≠ .standby ∧ s.pair.state ≠ .active →
        ∃ t, exec (.cmpDigest g d) s = .next t ∧ t.outbox = s.outbox ∧ t.log = s.log ∧ samePool s t) ∧
      (∀ own, own = s.digestOf g false → (s.region (regionOfGranule g)).inReset = false → s.dram.check = [] →
        (s.pair.state = .standby →
          ((own = d ∨ d.poison = true) → ∃ t, exec (.cmpDigest g d) s = .next t ∧ t.outbox = s.outbox ∧ t.log = s.log ∧
            t.cyc = s.cyc ∧ samePool s t) ∧
          (d.poison = false → own ≠ d → own.cycle = d.cycle → ∃ t, exec (.cmpDigest g d) s = .next t ∧
            t.log = s.log ++ [⟨lgDIVERGENT, [g]⟩] ∧ t.cyc = s.cyc ∧
            toPartner s t 0x26 (slice (Config.digestBytes own) 0 16) ∧ samePool s t) ∧
          (d.poison = false → own.cycle ≠ d.cycle → later 32 own.cycle.toNat d.cycle.toNat = false →
            ∃ t, exec (.cmpDigest g d) s = .next t ∧ (g, false) ∈ t.cyc.asked ∧
              toPartner s t 0x26 (slice (Config.digestBytes own) 0 16) ∧ samePool s t)) ∧
        (s.pair.state = .active →
          ((s.inFlight g = true ∨ own = d) → ∃ t, exec (.cmpDigest g d) s = .next t ∧ t.outbox = s.outbox ∧
            t.log = s.log ∧ samePool s t) ∧
          (s.inFlight g = false → own ≠ d → d.poison = false → own.cycle = d.cycle →
            ∃ t, exec (.cmpDigest g d) s = .next t ∧ t.log = s.log ++ [⟨lgDIVERGENT, [g]⟩] ∧ t.outbox = s.outbox ∧
              samePool s t) ∧
          (s.inFlight g = false → d.poison = true → ∃ t, exec (.cmpDigest g d) s = .next t ∧ t.log = s.log ∧
            samePool s t ∧ toPartner s t 0x27 (recordPkt 0x27 (s.wholeRecord g).1).payload))))

/-- Heartbeats go out on both Rein ports and on PAIR_HB; a frame that fails its check does nothing, a good one
counts; eight misses in a row on one path while the other delivers raise the alarm. A holder renews its lease
with the next number; the first grant of that number starts it again from the moment of sending, the granter's
view from the moment of receipt. A lapse of the lease-authority lease takes the active to SOLO, still holding
completions, unless the partner's REQ is asserted. The standby that has lost its active asserts REQ in TAKEOVER,
claims ACT once the partner's has read high and takes over when the claim has stood, or gives up as STALE. A
line that reads high while it is driven, or ACT without a lease or a keepalive, makes the package stop serving.
(13_pairing_and_failover.md) -/
def Obligations.LeasesLinesAndTakeover : Prop :=
  ∀ (s : State),
    (s.complexUp 0 = false → exec .heartbeatSend s = .next s) ∧
    (s.complexUp 0 = true → ∀ r, r = s.reach (s.pair.hbAt + slowEdge s (ms 1)) → ∃ t, exec .heartbeatSend s = .next t ∧
      t.now = r.now ∧ t.pair.hbCount = s.pair.hbCount + 1 ∧ t.pair.hbAt = r.now ∧ t.pair.state = s.pair.state ∧
      t.pair.hbTx = hbFrame s.pair.state.code s.cinchSeen (s.pair.hbCount + 1).toNat (if s.pair.demand then 1 else 0) 0 ∧
      (∀ i, i = 64 ∨ i = 65 → t.port i = if (s.port i).state = .active then
        (s.port i).push (bypassWord 9 (s.pair.hbCount + 1).toNat) else s.port i) ∧ ∀ i, i < 64 → t.port i = s.port i) ∧
    (∀ f, frameOk f = false → exec (.pairHbFrame f) s = .next s) ∧
    (∀ f agree, frameOk f = true → s.pair.state = .unpaired →
      agree = (tbit (leNat (slice f 1 1).reverse % 16) s.pair.index == !s.pair.act &&
        tbit (leNat (slice f 1 1).reverse % 16) (2 + s.pair.index) == !s.pair.req) → ∃ t, exec (.pairHbFrame f) s = .next t ∧
      t = { s with log := t.log, vis := t.vis, pair := { s.pair with
        sb := s.pair.sb.beat (BitVec.ofNat 32 (leNat (slice f 2 4).reverse)) s.now, partnerState := t.pair.partnerState,
        agree := if agree then s.pair.agree + 1 else 0, disagree := if agree then 0 else s.pair.disagree + 1,
        fault := if agree then s.pair.fault && decide (s.pair.agree + 1 < 8)
          else s.pair.fault || decide (3 ≤ s.pair.disagree + 1) } } ∧
      ((agree = true ∨ s.pair.fault = true) → t.log = s.log ∧ t.vis = s.vis) ∧
      t.pair.partnerState = if leNat (slice f 1 1).reverse / 16 < 8 then
        some (PairState.ofCode (leNat (slice f 1 1).reverse / 16)) else s.pair.partnerState) ∧
    (∀ b x y, s.pair.state = .syncing → x = (if b then s.pair.rein else s.pair.sb) → y = (if b then s.pair.sb else s.pair.rein) →
      ∃ t, exec (.heartbeatMiss b) s = .next t ∧ t.pair.state =
        if 8 ≤ x.misses + 1 ∧ 8 ≤ y.misses ∧ s.pair.la.viewEnd ≤ t.now then .stale else .syncing) ∧
    (s.pair.state ≠ .syncing → ∀ b x y, x = (if b then s.pair.rein else s.pair.sb) →
      y = (if b then s.pair.sb else s.pair.rein) → ∃ t z, exec (.heartbeatMiss b) s = .next t ∧
        z = (if b then t.pair.rein else t.pair.sb) ∧ z.misses = x.misses + 1 ∧ z.total = x.total + 1 ∧ z.valid = 0 ∧
        z.at_ = max s.now (x.at_ + fastEdge s (us 1250)) ∧ t.pair.state = s.pair.state ∧
        (if b then t.pair.sb else t.pair.rein) = y ∧
        (if 8 ≤ x.misses + 1 ∧ x.degraded = false ∧ y.misses = 0 then
           z.degraded = true ∧ t.log = s.log ++ [⟨lgDEGRADED, [b2n (!b)]⟩]
         else z.degraded = x.degraded ∧ t.log = s.log)) ∧
    ((s.complexUp 0 = false ∨ s.pair.state = .unpaired) → ∀ q f, ∃ t, exec (.girth q f) s = .next t ∧ t.pair = s.pair ∧
      t.outbox = s.outbox ∧ t.cyc = s.cyc) ∧
    (s.complexUp 0 = true → s.pair.state ≠ .unpaired → ∀ q,
      (s.pair.la.hold = false → ∃ t, exec (.girth q 0x10#8) s = .next t ∧
        t.pair.la = { s.pair.la with viewEnd := s.now + fastEdge s s.girthLen } ∧ t.pair.co = s.pair.co ∧
        toPartner s t 0x25 (toLe 2 q.toNat ++ toLe 1 4) ∧ t.pair.state = s.pair.state) ∧
      (s.pair.la.hold = true → s.pair.la.answered = false → s.pair.la.seq = q → ∃ t, exec (.girth q 0x04#8) s = .next t ∧
        t.pair.la = { s.pair.la with endAt := s.pair.la.sentAt + slowEdge s s.pair.la.len, answered := true, lapsed := false } ∧
        t.pair.co = s.pair.co ∧ t.cyc = { s.cyc with renewals := s.cyc.renewals + 1 } ∧ t.outbox = s.outbox)) ∧
    (∀ b g, g = (if b then s.pair.co else s.pair.la) →
      ((g.hold = false ∨ s.complexUp 0 = false) → exec (.girthRenewSend b) s = .next s) ∧
      (g.hold = true → s.complexUp 0 = true → ∃ t, exec (.girthRenewSend b) s = .next t ∧
        (if b then t.pair.co else t.pair.la) = { g with
          seq := g.seq + 1, sentAt := max s.now (g.sentAt + slowEdge s (s.girthLen * 2 / 5)), answered := false,
          len := s.girthLen } ∧
        (if b then t.pair.la else t.pair.co) = (if b then s.pair.la else s.pair.co) ∧
        toPartner s t 0x25 (toLe 2 (g.seq + 1).toNat ++ toLe 1 (if b then 8 else 16))) ∧
      (g.hold = false → exec (.girthLapse b) s = .next s)) ∧
    (s.pair.co.hold = true → ∃ t, exec (.girthLapse true) s = .next t ∧
      t = { s.reach s.pair.co.endAt with pair := { s.pair with co := { s.pair.co with hold := false, lapsed := true } } }) ∧
    (s.pair.la.hold = true → pairIdle s → s.boot.por = false → s.cyc.soloEn = true → s.pair.state = .active →
      (s.partnerReq = false → ∃ t, exec (.girthLapse false) s = .next t ∧ t.pair.state = .solo ∧ t.pair.holding = true ∧
        t.pair.la.hold = false ∧ t.pair.la.lapsed = true ∧ t.pair.act = s.pair.act ∧
        t.pair.holdUntil = t.now + fastEdge s (ms 25) ∧ t.cyc.shipping = none ∧ samePool s t) ∧
      (s.partnerReq = true → ∃ t, exec (.girthLapse false) s = .next t ∧
        t = { s.reach s.pair.la.endAt with pair := { s.pair with la := { s.pair.la with hold := false, lapsed := true } } })) ∧
    (s.pair.la.hold = true → pairIdle s → s.boot.por = false → s.cyc.soloEn = false → s.pair.state = .active →
      ∃ t, exec (.girthLapse false) s = .next t ∧ t.pair.state = .fenced ∧ t.pair.act = false ∧ t.pair.la.hold = false ∧
        samePool s t) ∧
    ((s.pair.state ≠ .solo ∨ s.pair.holding = false ∨ s.pair.lapseReq = true ∨ s.partnerReq = true) →
      exec .soloHoldEnd s = .next s) ∧
    (s.pair.state = .solo → s.pair.holding = true → s.pair.lapseReq = false → s.partnerReq = false → pairIdle s →
      ∃ t, exec .soloHoldEnd s = .next t ∧ t.now = max s.now s.pair.holdUntil ∧ t.pair = { s.pair with holding := false } ∧
        samePool s t) ∧
    ((s.complexUp 0 = false ∨ s.pair.state ≠ .standby ∨ s.cyc.takeoverEn = false ∨ s.pair.fault = true ∨
      s.pair.silent = false) → exec .takeoverStart s = .next s) ∧
    (s.complexUp 0 = true → s.pair.state = .standby → s.cyc.takeoverEn = true → s.pair.fault = false →
      s.pair.silent = true → ∃ t, exec .takeoverStart s = .next t ∧ t.now = max s.now s.pair.la.viewEnd ∧
        t.pair.state = .takeover ∧ t.pair.req = true ∧ t.pair.reqAt = t.now ∧ t.pair.act = s.pair.act ∧
        t.log = s.log ++ [⟨lgPAIR_STATE, [3, 5]⟩] ∧ samePool s t) ∧
    ((s.complexUp 0 = false ∨ s.pair.state = .takeover ∧ s.pair.claimAt = none ∧ s.partnerAct = true ∨
      s.pair.state ≠ .takeover ∧ (s.pair.claimDue = false ∨ s.partnerAct = true)) → exec .cinchClaim s = .next s) ∧
    (s.complexUp 0 = true → s.pair.state = .takeover → s.pair.claimAt = none → s.partnerAct = false →
      ∃ t, exec .cinchClaim s = .next t ∧ t.now = s.now + rcCycles 16 ∧ t.pair.state = .takeover ∧ t.pair.act = true ∧
        t.pair.req = s.pair.req ∧ t.pair.claimAt = some t.now ∧ t.cyc = s.cyc ∧ t.exts = s.exts ∧ samePool s t) ∧
    (s.complexUp 0 = true → s.pair.state = .standby → s.pair.claimDue = true → s.partnerAct = false →
      ∃ t, exec .cinchClaim s = .next t ∧ t.now = s.now + rcCycles 16 ∧ t.pair.state = .active ∧ t.pair.act = true ∧
        t.pair.claimDue = false ∧ t.cyc.cycle = s.cyc.applied + 1 ∧ samePool s t) ∧
    (∀ k, s.complexUp 0 = true → s.pair.state = .takeover → s.pair.claimAt = some k → (∀ g, g < 12 → s.heldRecords g = []) →
      (∀ e ∈ s.exts, e.2.state = .active → e.2.mirrored = true) →
      ∃ t, exec .cinchClaim s = .next t ∧ t.now = max s.now (k + rcCycles 16) ∧ t.pair.state = .solo ∧ t.pair.act = s.pair.act ∧
        t.pair.req = false ∧ t.pair.claimAt = none ∧ t.cyc.cycle = s.cyc.applied + 65536 ∧
        t.pair.la.hold = true ∧ t.pair.co.hold = true ∧
        t.cyc.openedAt = t.now ∧ t.home.agents = [] ∧ t.home.dir = [] ∧
        (∀ v, (s.vi v).lease.running = true → (t.vi v).lease.endAt = t.now + fastEdge s (ms (s.vi v).lease.ms)) ∧
        samePool s t) ∧
    ((s.complexUp 0 = false ∨ s.pair.state ≠ .takeover ∨ s.partnerAct = false ∨ s.pair.claimAt ≠ none) →
      exec .reqWaitExpire s = .next s) ∧
    (s.complexUp 0 = true → s.pair.state = .takeover → s.partnerAct = true → s.pair.claimAt = none → ∃ t, exec .reqWaitExpire s = .next t ∧
      t.now = max s.now (s.pair.reqAt + slowEdge s (ms 20)) ∧ t.pair.state = .stale ∧ t.pair.req = false ∧
      t.cyc = { s.cyc with abandoned := s.cyc.abandoned + 1 } ∧ samePool s t) ∧
    (∀ n b, n < 4 → s.pair.state = .unpaired → exec (.cinchLineChange n b) s = .next { s with pair := { s.pair with
      lines := lset s.pair.lines n b } }) ∧
    (s.pair.state = .active → s.boot.por = false → s.pair.act = true → s.pair.index < 2 → pairIdle s →
      ∃ t, exec (.cinchLineChange s.pair.index true) s = .next t ∧ t.pair.state = .fenced ∧ t.pair.act = false ∧
        t.pair.la.hold = false ∧ samePool s t) ∧
    (s.pair.state = .takeover → s.boot.por = false → s.pair.act = true → s.pair.index < 2 → pairIdle s →
      ∃ t, exec (.cinchLineChange s.pair.index true) s = .next t ∧ t.pair.state = .stale ∧ t.pair.act = false ∧ samePool s t) ∧
    ((s.complexUp 0 = false ∨ s.pair.state ≠ .active ∧ s.pair.state ≠ .solo) → exec .keepaliveWrite s = .next s) ∧
    (s.complexUp 0 = true → (s.pair.state = .active ∨ s.pair.state = .solo) →
      exec .keepaliveWrite s = .next { s.reach (s.pair.keepAlive + ms 1) with
        pair := { s.pair with keepAlive := max s.now (s.pair.keepAlive + ms 1) } }) ∧
    ((s.pair.act = false ∨ s.pair.la.lapsed = false ∧ s.pair.la.hold = true) → exec .actReleaseTimeout s = .next s) ∧
    (s.pair.act = true → (s.pair.la.lapsed = true ∨ s.pair.la.hold = false) → s.boot.por = false → s.pair.state = .active → pairIdle s →
      ∃ t, exec .actReleaseTimeout s = .next t ∧ t.pair.state = .fenced ∧ t.pair.act = false ∧
        t.now = max s.now (max (if s.pair.la.lapsed then s.pair.la.endAt else 0) (s.pair.keepAlive + ms 10 * 19 / 20)) ∧
        samePool s t) ∧
    ((s.pair.state ≠ .standby ∨ s.fabric.reinDownAt = none) → exec .reinDownStale s = .next s) ∧
    (∀ d, s.pair.state = .standby → s.fabric.reinDownAt = some d →
      (s.pair.sb.lastOk < d → exec .reinDownStale s = .next s) ∧
      (d ≤ s.pair.sb.lastOk → ∃ t, exec .reinDownStale s = .next t ∧ t.now = max s.now (d + ms 1) ∧ t.pair.state = .stale ∧
        t.pair.la = s.pair.la ∧ samePool s t))

/-- The rise of VDD_AUX leaves the reset state with fuses and flash kept; its fall clears the always-on block and
releases the lines; a main rail that leaves its range, or one that rises out of order (which rails are then up:
log entry 203), holds power-on reset, which keeps flash, roots, pins and the pair state and cuts a programming
short; its release starts the boot and leaves the package UNPAIRED. The image in flash runs when it verifies,
else the part waits for a recovery image, and where stack 0 or 6 has not trained it halts; then the part is
ready, with regions, clusters and link dies out of reset over a cleared valid bitmap. FW_UPDATE erases and
programs the flash only for an image that verifies, one at a time, and is answered when it has been programmed
(in a step that finds no command waiting: log entry 207, the model's choice); FW_ACTIVATE asks for the reset
that runs it. A PLL without lock is noted and answers the requests in the queues it feeds (which those are is
log entry 180); the K-clock of complex 0 takes every running timer to RC with its remaining time. Ready also
finds the built-in programs in every region's program area. (15_boot_reset_and_chain.md,
17_signals_power_package.md, 01_package_and_levels.md, 13_pairing_and_failover.md) -/
def Obligations.PowerUpAndBootReachReady : Prop :=
  ∀ (s : State),
    (∃ t, exec .vddAuxRise s = .next t ∧ t.aon = { AlwaysOn.reset with roots := s.aon.roots, auxAt := s.now } ∧
      t.boot = { Boot.reset with
        flash := s.boot.flash, partFlash := s.boot.partFlash, untrained := s.boot.untrained } ∧ t.pending = s.pending ∧ t.now = s.now ∧ t.dram = Dram.reset ∧
      t.pair = Pair.reset ∧ t.exts = [] ∧ t.wins = [] ∧ t.vis = [] ∧ t.regions = [] ∧ t.fabric = Fabric.reset) ∧
    (∃ t, exec .vddAuxFall s = .next t ∧
      t.aon = { AlwaysOn.reset with roots := s.aon.roots, auxUp := false, chnOut := s.aon.chnOut } ∧
      t.pair.act = false ∧ t.pair.req = false ∧ t.pair.hbTx = [] ∧ t.pair.state = s.pair.state ∧ t.power.capEn = true ∧ t.power.capW = 264 ∧
      t.boot = s.boot ∧ t.vis = s.vis ∧ samePool s t) ∧
    (exec (.mainRailFault .aux) s = .next s) ∧
    (∀ r, r ≠ .aux → ∃ t, exec (.mainRailFault r) s = .next t ∧ t.boot.por = true ∧ t.boot.phase = 1 ∧
      t.boot.rails = s.boot.rails.filter (· != r) ∧ t.boot.fwBusy = none ∧
      (s.boot.fwBusy = none → t.boot.flash = s.boot.flash ∧ t.boot.partFlash = s.boot.partFlash) ∧
      (∀ v img, s.boot.fwBusy = some (v, img) → ∃ k, t.boot.flash = patch s.boot.flash 0 (img.take k)) ∧
      t.boot.untrained = s.boot.untrained ∧ (t.boot.railErr = (s.boot.railErr && t.boot.rails.any isMain)) ∧
      t.aon.roots = s.aon.roots ∧
      t.aon.trip = s.aon.trip ∧ (t.aon.tripHeld = (s.aon.tripHeld && t.boot.rails.any isMain)) ∧
      t.pair.state = s.pair.state ∧ t.pair.act = s.pair.act ∧ t.pair.lines = s.pair.lines ∧ t.pair.accepted = none ∧
      (s.tablesOk → ∀ d, (t.hostPort d).perst = (s.hostPort d).perst ∧ (t.hostPort d).numVfs = 0) ∧
      t.dram = { Dram.reset with bad := s.dram.bad } ∧ t.exts = [] ∧
      t.vis = [] ∧ t.waiting = [] ∧ t.pending = s.pending ∧
      (∀ n, s.aon.pendingId = some n → t.aon.nodeId = n ∧ t.aon.pendingId = none)) ∧
    (∀ r, (isMain r = false ∨ s.boot.por = false ∨ s.boot.railErr = true ∧ r ∈ s.boot.rails) →
      exec (.railOrderError r) s = .next s) ∧
    (∀ r, isMain r = true → s.boot.por = true → (s.boot.railErr = false ∨ r ∉ s.boot.rails) →
      ∃ t, exec (.railOrderError r) s = .next t ∧
        t = { s with boot := { s.boot with rails := t.boot.rails, railErr := true, err := 0x0020 } } ∧
        ∀ x, x ∈ t.boot.rails ↔ x ∈ s.boot.rails ∨ isMain x = true ∧ (x = r ∨ railOrder x < railOrder r)) ∧
    ((s.boot.por = false ∨ s.boot.railErr = true ∨ s.aon.tripHeld = true ∨ s.aon.auxUp = false) →
      exec .porRelease s = .next s) ∧
    (s.boot.por = true → s.boot.railErr = false → s.aon.tripHeld = false → s.aon.auxUp = true →
      ∃ t, exec .porRelease s = .next t ∧ t.boot.por = false ∧ t.boot.phase = 2 ∧ t.pair.state = .unpaired ∧
        t.boot.flash = s.boot.flash ∧ t.aon = s.aon ∧ (∀ r, r ∈ t.boot.rails) ∧ samePool s t) ∧
    ((s.aon.auxUp = false ∨ s.aon.bypassOpen = true) → exec .chainBypassOpen s = .next s) ∧
    (s.aon.auxUp = true → s.aon.bypassOpen = false → exec .chainBypassOpen s = .next { s.reach (s.aon.auxAt + ms 1) with
      aon := { s.aon with bypassOpen := true } }) ∧
    ((s.boot.por = true ∨ s.boot.phase ≠ 2) → exec .imageVerify s = .next s) ∧
    (s.boot.por = false → s.boot.phase = 2 →
      ((0 ∈ s.boot.untrained ∨ 6 ∈ s.boot.untrained) → exec .imageVerify s = .next { s.reach s.bodyRead with
        boot := { s.boot with phase := 0xFF, err := 0x0010 } }) ∧
      (0 ∉ s.boot.untrained → 6 ∉ s.boot.untrained → s.flashErr = 0 →
        ∃ t, exec .imageVerify s = .next t ∧ t.now = max s.now s.bodyRead ∧ t.boot.phase = 6 ∧ t.boot.err = 0 ∧
        t.boot.digest = imageDigest s.boot.flash ∧ t.boot.fwVer = BitVec.ofNat 32 (fld s.boot.flash 4 4) ∧
        t.boot.source = 0 ∧ t.boot.dram = s.boot.flash.take (imageBytes s.boot.flash) ∧
        (s.boot.pkgReset = none → t.pair.act = false ∧ t.pair.req = false) ∧ samePool s t) ∧
      (0 ∉ s.boot.untrained → 6 ∉ s.boot.untrained → s.flashErr ≠ 0 →
        exec .imageVerify s = .next { s.reach s.bodyRead with boot := { s.boot with phase := 4, err := s.flashErr } })) ∧
    (s.boot.phase ≠ 6 → exec .bootReady s = .next s) ∧
    (s.boot.phase = 6 → s.boot.pkgReset = none → ∃ t, exec .bootReady s = .next t ∧ t.ready = true ∧
      (∀ g, g < 12 → t.region g = { s.region g with inReset := false }) ∧
      (∀ k, k < 96 → t.cluster k = { s.cluster k with inReset := false }) ∧
      (∀ l, l < 4 → t.die l = { s.die l with inReset := false }) ∧ t.dram.valid = [] ∧
      (s.memOk → s.dram.check = [] → sameButPrograms s t ∧ builtinsIn t) ∧ t.vis = s.vis ∧ t.pair = s.pair) ∧
    (∀ (p : Nat) (c : Cmd) (b : Bytes) (u : State), accepted s p 0x0A01 c (lenIs c 16) (opRsv 0) .pf false → alone s p →
      (taken s p 0x0A01 c).readOp (.cmd p) p (opArg c 0) = (0, b, u) →
      (bootImageErr b = 0 → s.boot.fwBusy ≠ none → ∃ t, exec (.fwUpdate p c) s = .next t ∧ answered t p c stRETRY ∧
        t.boot = s.boot) ∧
      (∀ img, img = b.take (imageBytes b) → bootImageErr b = 0 → s.boot.fwBusy = none →
        ∃ t, exec (.fwUpdate p c) s = .next t ∧ inProgress t p 0x0A01 0 c ∧
        t.boot = { s.boot with
          flash := flashWith s.boot.flash (List.replicate img.length 0xFF#8), partFlash := true, fwBusy := some (p, img) } ∧
        (t.complexUp (complexOf p) = true → ∃ u, u = State.flashDone { t with now := t.now + 1 } ∧ answered u p c stOK ∧
          u.boot = { t.boot with flash := patch t.boot.flash 0 img, partFlash := false, fwBusy := none })) ∧
      ((bootImageErr b = 1 ∨ bootImageErr b = 2) → ∃ t, exec (.fwUpdate p c) s = .next t ∧ answered t p c stBOUND ∧
        t.boot = s.boot) ∧
      (2 < bootImageErr b → ∃ t, exec (.fwUpdate p c) s = .next t ∧ answered t p c stAUTH_FAIL ∧ t.boot = s.boot)) ∧
    (∀ (p : Nat) (c : Cmd), accepted s p 0x0A02 c (lenIs c 0) [] .pf false → alone s p →
      (s.flashErr ≠ 0 → ∃ t, exec (.fwActivate p c) s = .next t ∧ answered t p c stBOUND ∧ t.boot = s.boot) ∧
      (s.flashErr = 0 → s.boot.por = false → s.packageHeld = false → s.boot.resetDue = none →
        ∃ t, exec (.fwActivate p c) s = .next t ∧ answered t p c stOK ∧
          t.boot = { s.boot with resetDue := some (.activate, s.now + us 10) } ∧ samePool s t)) ∧
    (∀ k, k.wf = true → k ∈ s.boot.unlocked → exec (.pllLockLoss k) s = .next s) ∧
    (∀ k g, g < 12 → k = .m g → k ∉ s.boot.unlocked → (∀ w ∈ s.waiting, w.inStack g = false) →
      ∃ t, exec (.pllLockLoss k) s = .next t ∧ t.boot.unlocked = s.boot.unlocked ++ [k] ∧
        t.region g = { s.region g with fills := [] } ∧ t.stackServes g = false ∧ t.waiting = s.waiting ∧
        (∀ n, n / 32 = g → (t.chan n).lp = [] ∧ (t.chan n).fifos = [] ∧ (t.chan n).held = [] ∧ (t.chan n).parked = [] ∧
          (t.chan n).active = []) ∧ (∀ n, n / 32 ≠ g → t.chan n = s.chan n) ∧ samePool s t) ∧
    (∀ k w, k.wf = true → k ∉ s.boot.unlocked → s.waiting = [w] →
      (∀ x y z, w.origin ≠ .local x y z) →
      ((∃ g, k = .m g ∧ w.inStack g = true) ∨ (∃ d g, k = .c d ∧ g / 6 = d ∧ w.inRegion g = true) ∨
        (∃ l, k = .l l ∧ w.fromDie l = true) ∨ ∃ d, k = .p d ∧ w.fromPort d = true) →
      ∃ t, exec (.pllLockLoss k) s = .next t ∧ t.waiting = [] ∧ t.boot.unlocked = s.boot.unlocked ++ [k] ∧ samePool s t) ∧
    (∀ k, k = .k 0 → k ∉ s.boot.unlocked → s.kAbsent = false → ∃ t, exec (.pllLockLoss k) s = .next t ∧ t.kAbsent = true ∧
      t.log = s.log ++ [⟨lgCLOCK_SWITCH, [1]⟩] ∧ t.boot.unlocked = s.boot.unlocked ++ [k] ∧ samePool s t ∧
      t.now = s.now ∧ t.pair.hbAt = sinceSlow s.now s.pair.hbAt ∧ t.pair.reqAt = sinceSlow s.now s.pair.reqAt ∧
      t.pair.la.sentAt = sinceSlow s.now s.pair.la.sentAt ∧ t.pair.la.endAt = toRcSlow s.now s.pair.la.endAt ∧
      t.pair.rein.at_ = sinceFast s.now s.pair.rein.at_ ∧ (∀ v, (t.vi v).lease.endAt = toRcFast s.now (s.vi v).lease.endAt ∧
        (t.vi v).lease.renewAt = toRcSlow s.now (s.vi v).lease.renewAt) ∧
      (∀ g, (t.region g).miss.map (·.dueAt) = (s.region g).miss.map (fun m => m.dueAt.map (toRcFast s.now))) ∧
      ∀ l, (t.txn l).map (fun x => x.snoops.map (·.due)) = (s.txn l).map (fun x => x.snoops.map (fun y => toRcFast s.now y.due))) ∧
    (∀ k d, d < 2 → k = .a d → k ∉ s.boot.unlocked → exec (.pllLockLoss k) s = .next { s with
      power := { s.power with dies := tset DiePower.reset s.power.dies d { s.diePower d with aWork := s.aWork d, aAt := s.now } }
      boot := { s.boot with unlocked := s.boot.unlocked ++ [k] } }) ∧
    (∀ k d, (k = .k 1 ∨ k = .k 0 ∧ s.kAbsent = true ∨
        d < 2 ∧ k = .c d ∧ (∀ w ∈ s.waiting, ∀ g, g / 6 = d → w.inRegion g = false) ∨
        d < 2 ∧ k = .p d ∧ (∀ w ∈ s.waiting, w.fromPort d = false) ∨
        d < 4 ∧ k = .l d ∧ ∀ w ∈ s.waiting, w.fromDie d = false) → k ∉ s.boot.unlocked →
      exec (.pllLockLoss k) s = .next { s with boot := { s.boot with unlocked := s.boot.unlocked ++ [k] } })

/-- A region reset of a quiet region puts it in reset with empty translation cache, miss and fill tables, empty
channel queues and cleared Eddy tables; REGION_RESET stays in progress until the region leaves reset, when its
valid bits come from their backing. PERST resets its host port and holds its complex; FLR resets a function;
SR-IOV sets NumVFs while the part is ready; a watchdog holds its complex for 20 ms. A package reset that was
asked for leaves nothing on its way out, takes a pending node ID, and ends with the DRAM copy or the flash
image. A thermal trip holds the package in reset. Resets that are not asked for, or lie within a wider one, do
nothing. (01_package_and_levels.md, 15_boot_reset_and_chain.md, 14_virtual_interfaces_and_mailboxes.md,
12_memory_and_ras.md, 03_coherence.md) -/
def Obligations.ResetsClearWhatTheyName : Prop :=
  ∀ (s : State),
    (∀ g, g < 12 → ((s.region g).inReset = true → exec (.regionResetFault g) s = .next s) ∧
      ((s.region g).inReset = false → regionQuiet s g → ∃ t, exec (.regionResetFault g) s = .next t ∧
        (t.region g).inReset = true ∧ (t.region g).tcache = [] ∧ (t.region g).fills = [] ∧
        (t.region g).mirror = (s.region g).mirror ∧ (t.region g).dirty = (s.region g).dirty ∧
        (∀ n, n / 32 = g → (t.chan n).lp = [] ∧ (t.chan n).fifos = [] ∧ (t.chan n).parked = [] ∧ (t.chan n).active = [] ∧
          (t.chan n).eddy = [] ∧ (t.chan n).lfsr = (Chan.reset n).lfsr ∧ (t.chan n).tickets = (s.chan n).tickets ∧
          (t.chan n).slotBank = (s.chan n).slotBank) ∧
        (∀ n, n / 32 ≠ g → t.chan n = s.chan n) ∧ (∀ k, k ≠ g → t.region k = s.region k) ∧ samePool s t)) ∧
    (∀ (p : Nat) (c : Cmd) (g : Nat), accepted s p 0x0B02 c (lenIs c 1) [] .pf false → g = arg c 0 1 → g < 12 →
      (s.region g).inReset = false → regionQuiet s g → ∃ t, exec (.regionReset p c) s = .next t ∧
        inProgress t p 0x0B02 g c ∧ (t.region g).inReset = true ∧ (t.region g).tcache = [] ∧ samePool s t) ∧
    (∀ g, g < 12 → ((s.packageHeld = true ∨ s.ready = false ∨ (s.region g).inReset = false) →
        exec (.regionResetEnd g) s = .next s) ∧
      (s.packageHeld = false → s.ready = true → (s.region g).inReset = true → s.dram.check = [] → s.memOk →
        s.home.inbox = [] → (∀ e ∈ s.streams, e.2.wsUsed = []) → (∀ k, k / 8 = g → (s.cluster k).inReset = false) →
        s.waitersOn 0x0B02 g = [] → ∃ t, exec (.regionResetEnd g) s = .next t ∧ (t.region g).inReset = false ∧
          t.dram.mem = s.dram.mem ∧ ∀ x, x < 12 * stackGranules → (x ∈ t.dram.valid ↔
            if regionOfGranule x = g then tbit (memByte s.dram.mem (backingAddr x)).toNat (x % stackGranules % 8) = true
            else x ∈ s.dram.valid))) ∧
    (∀ (p : Nat) (c : Cmd), accepted s p 0x0B03 c (lenIs c 0) [] .resetRight false → alone s p → s.boot.por = false →
      s.packageHeld = false → s.boot.resetDue = none → ∃ t, exec (.pkgReset p c) s = .next t ∧ answered t p c stOK ∧
        t.boot = { s.boot with resetDue := some (if isTenant p then .fabric else .pf, s.now + us 10) } ∧ samePool s t) ∧
    (∀ cause, ((∀ due, s.boot.resetDue ≠ some (cause, due)) ∨ s.boot.por = true ∨ s.packageHeld = true) →
      exec (.packageReset cause) s = .next s) ∧
    (∀ cause due, s.boot.resetDue = some (cause, due) → s.boot.por = false → s.packageHeld = false → packageQuiet s →
      ∃ t, exec (.packageReset cause) s = .next t ∧ t.boot.pkgReset = some (cause, max s.now due) ∧ t.boot.phase = 1 ∧
        t.boot.resetDue = none ∧ (s.boot.fwBusy = none → t.boot.flash = s.boot.flash) ∧ t.boot.dram = s.boot.dram ∧ t.outbox = [] ∧ t.packageHeld = true ∧
        t.fabric.rates = [] ∧ t.fabric.rspHold = [] ∧ t.aon = s.aon.takePending ∧
        t.pair = { s.pair with hbTx := [] } ∧ t.exts = s.exts ∧
        t.wins = s.wins ∧ (∀ l, l < 4 → t.die l = { LinkDie.reset with nextTag := (s.die l).nextTag }) ∧ (∀ i, i < 66 → (t.port i).state = .down ∧
          (t.port i).tx.buf = [] ∧ (t.port i).enable = (s.port i).enable) ∧
        (∀ d, d < 2 → 0 ∈ (t.complex d).held ∧ (t.complex d).session = false ∧ (t.hostPort d).numVfs = 0) ∧ samePool s t) ∧
    (s.boot.pkgReset = none → exec .packageResetEnd s = .next s) ∧
    (∀ cause t0, s.boot.pkgReset = some (cause, t0) → s.aon.tripHeld = false → s.boot.phase = 1 →
      (cause ≠ .activate → s.boot.dram ≠ [] → imageDigest s.boot.dram = s.boot.digest →
        (∀ g, g < 12 → (s.region g).inReset = false) → (∀ d, d < 2 → (s.hostPort d).perst = true ∨ complexCalm s d) →
        ∃ t, exec .packageResetEnd s = .next t ∧ t.now = max s.now (t0 + ms 20) ∧ t.boot = { s.boot with
          phase := 7, err := 0, pkgReset := none, unlocked := [] } ∧ (∀ d, d < 2 → (t.complex d).held = if (s.hostPort d).perst then [1] else []) ∧
          (∀ l, l < 4 → t.die l = { s.die l with inReset := false }) ∧ t.dram.valid = s.dram.valid ∧
          (s.memOk → s.dram.check = [] → sameButPrograms s t ∧ builtinsIn t)) ∧
      ((cause = .activate ∨ s.boot.dram = [] ∨ imageDigest s.boot.dram ≠ s.boot.digest) →
        (0 ∈ s.boot.untrained ∨ 6 ∈ s.boot.untrained) → exec .packageResetEnd s = .next { s.reach (t0 + ms 191) with
          boot := { s.boot with phase := 0xFF, err := 0x0010 } }) ∧
      ((cause = .activate ∨ s.boot.dram = [] ∨ imageDigest s.boot.dram ≠ s.boot.digest) → s.flashErr = 0 →
        0 ∉ s.boot.untrained → 6 ∉ s.boot.untrained →
        (∀ g, g < 12 → (s.region g).inReset = false) → (∀ d, d < 2 → (s.hostPort d).perst = true ∨ complexCalm s d) →
        ∃ t, exec .packageResetEnd s = .next t ∧ t.now = max s.now (t0 + ms 191) ∧ t.boot.phase = 7 ∧
          t.boot.digest = imageDigest s.boot.flash ∧ t.boot.pkgReset = none ∧ t.dram.valid = s.dram.valid ∧
          (s.memOk → s.dram.check = [] → sameButPrograms s t)) ∧
      ((cause = .activate ∨ s.boot.dram = [] ∨ imageDigest s.boot.dram ≠ s.boot.digest) → s.flashErr ≠ 0 →
        0 ∉ s.boot.untrained → 6 ∉ s.boot.untrained →
        exec .packageResetEnd s = .next { s.reach (t0 + ms 191) with boot := { s.boot with
          phase := 4, err := s.flashErr } })) ∧
    (∀ d, d < 2 →
      ((s.hostPort d).perst = true → exec (.perstAssert d) s = .next s) ∧
      ((s.hostPort d).perst = false → (s.boot.por = true ∨ s.packageHeld = true) → ∃ t, exec (.perstAssert d) s = .next t ∧
        t.hostPort d = { s.hostPort d with perst := true } ∧ (t.complex d).held = insSet (s.complex d).held 1 ∧
        t.vis = s.vis ∧ samePool s t) ∧
      ((s.hostPort d).perst = false → s.boot.por = false → s.packageHeld = false → s.agent d = none →
        (∀ e ∈ s.streams, complexOf e.2.owner = d → e.2.openNow = false) → ∃ t, exec (.perstAssert d) s = .next t ∧
          t.hostPort d = { s.hostPort d with perst := true, hdmDb := false, numVfs := 0 } ∧ 1 ∈ (t.complex d).held ∧ (t.complex d).session = false ∧
          (t.complex d).cvus = [] ∧ (t.complex d).signKey = (s.complex d).signKey ∧
          t.schedPort (64 + d) = SchedPort.fresh s.sched.classes s.now ∧
          (∀ v, t.shaper (4 + d) (v % 1024) = Shaper.fresh (4 + d) (t.vi (v % 1024)).sched) ∧ t.streams = s.streams ∧ samePool s t) ∧
      ((s.hostPort d).perst = false → exec (.perstDeassert d) s = .next s) ∧
      ((s.hostPort d).perst = true → complexCalm s d → ∃ t, exec (.perstDeassert d) s = .next t ∧ t.now = s.now + ms 20 ∧
        t.hostPort d = { s.hostPort d with perst := false } ∧ (t.complex d).held = (s.complex d).held.filter (· != 1) ∧
        (PllId.p d) ∉ t.boot.unlocked ∧ samePool s t) ∧
      (∀ n, s.hostLive d = true → n ≤ (s.hostPort d).totalVfs → ∃ t, exec (.sriovEnable d n) s = .next t ∧
        t = { s with hostPorts := t.hostPorts } ∧ t.hostPort d = { s.hostPort d with numVfs := n } ∧
        ∀ k, k ≠ d → t.hostPort k = s.hostPort k) ∧
      (∀ n, (s.hostLive d = false ∨ (s.hostPort d).totalVfs < n) → exec (.sriovEnable d n) s = .next s) ∧
      ((s.ready = false ∨ s.packageHeld = true ∨ 2 ∈ (s.complex d).held) → exec (.controlWatchdog d) s = .next s) ∧
      (s.ready = true → s.packageHeld = false → 2 ∉ (s.complex d).held →
        (∀ e ∈ s.streams, complexOf e.2.owner = d → e.2.openNow = false) → ∃ t, exec (.controlWatchdog d) s = .next t ∧
          (t.complex d).held = insSet (s.complex d).held 2 ∧ (t.complex d).heldUntil = s.now + ms 20 ∧
          (t.complex d).session = false ∧ (t.complex d).signKey = (s.complex d).signKey ∧ t.vis = s.vis ∧ samePool s t) ∧
      (2 ∉ (s.complex d).held → exec (.controlWatchdogEnd d) s = .next s) ∧
      (2 ∈ (s.complex d).held → complexCalm s d → ∃ t, exec (.controlWatchdogEnd d) s = .next t ∧
        t.now = max s.now (s.complex d).heldUntil ∧ (t.complex d).held = (s.complex d).held.filter (· != 2) ∧ samePool s t)) ∧
    (∀ v, v < 1024 → (512 ≤ v ∨ s.viExists v = false ∨ s.hostLive (complexOf v) = false → exec (.flr v) s = .next s) ∧
      (v < 512 → s.viExists v = true → s.hostLive (complexOf v) = true → ∃ t, exec (.flr v) s = .next t ∧
        t.vi v = { s.vi v with
          ctr := [], dropAnswer := (s.page v).busy, page := { s.page v with eqEn := false, done := false } } ∧
        (∀ w, w ≠ v → t.vi w = s.vi w) ∧ t = { s with vis := t.vis })) ∧
    (∀ u, u.wf = true → (s.aon.tripHeld = true ∨ s.aon.auxUp = false ∨ s.boot.por = true) →
      exec (.thermalTrip u) s = .next s) ∧
    (∀ u, u.wf = true → s.aon.tripHeld = false → s.aon.auxUp = true → s.boot.por = false →
      (s.packageHeld = true → exec (.thermalTrip u) s = .next { s with aon := { s.aon with
        trip := true, tripUnit := tripCode u, tripHeld := true } }) ∧
      (s.packageHeld = false → packageQuiet s → ∃ t, exec (.thermalTrip u) s = .next t ∧ t.boot.phase = 1 ∧
        t.aon.trip = true ∧ t.aon.tripUnit = tripCode u ∧ t.packageHeld = true ∧ t.outbox = [] ∧ samePool s t))

/-- The part forwards every frame that is not for it unchanged. ENUM takes an address below 64 and passes the next
one on with ACK set and a right CRC; READ of a register that exists is acknowledged with its value; WRITE of
CHN_NODE, the root hash or CHN_ROOT_CMD acts as a write of the register does; RESET asks for a package reset. A
root slot is programmed or revoked when the rules let it, and CHN_ROOT_DONE ends it. DIE_CAP takes a cap of 100
to 350 W. A core die moves by at most one throttle step per evaluation toward the largest demand of cap,
temperature and brake; a change of its clock stalls it for 2 us. Temperatures are held by unit and set the
refresh rate of a stack's channels. (15_boot_reset_and_chain.md, 17_signals_power_package.md,
12_memory_and_ras.md) -/
def Obligations.ChainAndPowerControl : Prop :=
  ∀ (s : State),
    (∀ f i n, (i = .enum f ∧ n = 1 ∨ i = .read f ∧ n = 2 ∨ i = .write f ∧ n = 3 ∨ i = .reset f ∧ n = 4) → ¬ frameFor s f n →
      exec i s = .next { s with aon := { s.aon with chnOut := f } }) ∧
    (∀ f, frameFor s f 1 →
      (frameData f < 64 → ∃ g, exec (.enum f) s = .next { s with aon := { s.aon with
          addressed := true, chainAddr := frameData f, chnOut := g } } ∧
        frameData g = frameData f + 1 ∧ frameCmd g = 1 ∧ frameCrc g = bitf g.toNat 7 0 ∧ tbit g.toNat 52 = true) ∧
      (64 ≤ frameData f → exec (.enum f) s = .next { s with aon := { s.aon with addressed := false, chnOut := f } })) ∧
    (∀ f, frameFor s f 2 →
      (s.addressedBy f = false ∨ s.chainReg (frameReg f) = none → exec (.read f) s = .next { s with aon := { s.aon with
        chnOut := f } }) ∧
      (∀ v, s.addressedBy f = true → s.chainReg (frameReg f) = some v → ∃ g, exec (.read f) s = .next { s with
        aon := { s.aon with chnOut := g } } ∧ frameData g = v % 2 ^ 32 ∧ frameReg g = frameReg f ∧
        frameCrc g = bitf g.toNat 7 0 ∧ tbit g.toNat 52 = true)) ∧
    (∀ f, frameFor s f 3 →
      (¬ (s.aon.addressed = true ∧ (s.aon.chainAddr = frameAddr f ∨ frameBcast f = true)) → exec (.write f) s = .next { s with aon := { s.aon with chnOut := f } }) ∧
      (∀ n, n ≠ 0x01 → n ≠ 0x10 → n ≠ 0x11 → frameReg f = n → exec (.write f) s = .next { s with aon := { s.aon with
        chnOut := f } }) ∧
      (frameReg f = 0x01 → (s.aon.addressed = true ∧ (s.aon.chainAddr = frameAddr f ∨ frameBcast f = true)) → frameData f % 4096 ≠ s.aon.nodeId →
        s.pair.state ≠ .unpaired → exec (.write f) s = .next { s with aon := { s.aon with chnOut := f } }) ∧
      (frameReg f = 0x10 → (s.aon.addressed = true ∧ (s.aon.chainAddr = frameAddr f ∨ frameBcast f = true)) → s.aon.auxUp = true → ∃ t,
        exec (.chnRootDataWrite (BitVec.ofNat 32 (frameData f))) s = .next t ∧
        exec (.write f) s = .next { t with aon := { t.aon with chnOut := frameAck f (frameData f) } }) ∧
      (∀ i, frameReg f = 0x11 → (s.aon.addressed = true ∧ (s.aon.chainAddr = frameAddr f ∨ frameBcast f = true)) → s.aon.auxUp = true →
        (i = .rootProgram (frameData f % 4) ∧ tbit (frameData f) 8 = true ∧ tbit (frameData f) 9 = false ∨
          i = .rootRevoke (frameData f % 4) ∧ tbit (frameData f) 8 = false ∧ tbit (frameData f) 9 = true) →
        ∃ t, exec i s = .next t ∧
          exec (.write f) s = .next { t with aon := { t.aon with chnOut := frameAck f (frameData f) } })) ∧
    (∀ f, frameFor s f 4 → (s.aon.addressed = true ∧ (s.aon.chainAddr = frameAddr f ∨ frameBcast f = true)) → frameData f = 0 → s.boot.por = false →
      s.packageHeld = false → s.boot.resetDue = none → exec (.reset f) s = .next { s with
        boot := { s.boot with resetDue := some (.chain, s.now) }
        aon := { s.aon with chnOut := frameAck f 0 } }) ∧
    (∀ f, frameFor s f 4 → (frameData f ≠ 0 ∨ ¬ (s.aon.addressed = true ∧ (s.aon.chainAddr = frameAddr f ∨ frameBcast f = true))) →
      exec (.reset f) s = .next { s with aon := { s.aon with chnOut := f } }) ∧
    (∀ w n, n = w.toNat % 4096 → s.aon.auxUp = true → (n = s.aon.nodeId ∨ s.pair.state = .unpaired) →
      exec (.chnNodeWrite w) s = .next { s with
        aon := if (List.range 64).any (fun i => (s.port i).state != .down) then { s.aon with pendingId := some n, nodeValid := true }
               else { s.aon with nodeId := n, nodeValid := true, pendingId := none } }) ∧
    (∀ w, (s.aon.auxUp = false ∨ w.toNat % 4096 ≠ s.aon.nodeId ∧ s.pair.state ≠ .unpaired) →
      exec (.chnNodeWrite w) s = .next s) ∧
    (∀ w, s.aon.auxUp = true → s.aon.rootIdx < 12 → s.aon.staged.length ≤ 12 → ∃ t, exec (.chnRootDataWrite w) s = .next t ∧
      t.aon.staged.length = 12 ∧ t.aon.staged.getD s.aon.rootIdx 0 = w ∧ t.aon.rootIdx = (s.aon.rootIdx + 1) % 12 ∧
      (∀ k, k ≠ s.aon.rootIdx → t.aon.staged.getD k 0 = s.aon.staged.getD k 0) ∧ t.aon.roots = s.aon.roots) ∧
    (s.aon.auxUp = false → ∀ w n, n < 4 → exec (.chnRootDataWrite w) s = .next s ∧ exec (.rootProgram n) s = .next s ∧
      exec (.rootRevoke n) s = .next s ∧ exec (.dieCap w) s = .next s ∧ exec (.smbusArp n) s = .next s ∧
      exec (.smbusWriteRefused n w) s = .next s) ∧
    (∀ n i h, n < 4 → s.aon.auxUp = true → (s.boot.phase = 7 ∨ s.boot.phase = 4) → s.aon.rootOp = none →
      (i = .rootProgram n ∧ s.aon.roots.getD n (none, false) = (none, false) ∧
          h = some ((List.range 12).flatMap (fun k => toBe 4 (s.aon.staged.getD k 0).toNat)) ∨
        i = .rootRevoke n ∧ h = none) →
      exec i s = .next { s with aon := { s.aon with
        rootSlot := n, rootIdx := 0, rootDone := false, rootFail := false, rootOp := some (n, h) } }) ∧
    (∀ n i, n < 4 → s.aon.auxUp = true → (i = .rootProgram n ∨ i = .rootRevoke n) →
      (s.boot.phase ≠ 7 ∧ s.boot.phase ≠ 4 ∨ s.aon.rootOp ≠ none ∨
        i = .rootProgram n ∧ s.aon.roots.getD n (none, false) ≠ (none, false)) →
      exec i s = .next { s with aon := { s.aon with rootSlot := n, rootIdx := 0, rootDone := false, rootFail := true } }) ∧
    (s.aon.rootOp = none → exec .chnRootDone s = .next s) ∧
    (∀ n h, s.aon.rootOp = some (n, h) → n < s.aon.roots.length → ∃ t, exec .chnRootDone s = .next t ∧
      t = { s with aon := { s.aon with rootOp := none, rootDone := true, roots := t.aon.roots } } ∧
      t.aon.roots.getD n (none, false) =
        (if h.isSome then (h, false) else ((s.aon.roots.getD n (none, false)).1, true)) ∧
      ∀ k, k ≠ n → t.aon.roots.getD k (none, false) = s.aon.roots.getD k (none, false)) ∧
    (s.aon.auxUp = true → ∀ w n, n = w.toNat % 512 →
      exec (.dieCap w) s = .next { s with power := if 100 ≤ n ∧ n ≤ 350 then
        { s.power with capEn := tbit w.toNat 16, capW := n, nack := false } else { s.power with nack := true } }) ∧
    (s.aon.auxUp = true → ∀ a, exec (.smbusArp a) s = .next (if a < 128 then { s with aon := { s.aon with smbAddr := a } } else s)) ∧
    (s.aon.auxUp = true → ∀ code w, (code ≠ 0x40 ∨ w.toNat % 512 < 100 ∨ 350 < w.toNat % 512) →
      exec (.smbusWriteRefused code w) s = .next { s with power := { s.power with nack := true } }) ∧
    (s.aon.auxUp = true → ∀ w, 100 ≤ w.toNat % 512 → w.toNat % 512 ≤ 350 → exec (.smbusWriteRefused 0x40 w) s = .next s) ∧
    (exec .pwrBrakeAssert s = .next { s with power := { s.power with brake := true } }) ∧
    (exec .pwrBrakeRelease s = .next { s with power := { s.power with brake := false } }) ∧
    (∀ d e, d < 2 → (s.boot.por = true → exec (.capEvaluate d e) s = .next s) ∧
      (s.boot.por = false → ∃ t x y, exec (.capEvaluate d e) s = .next t ∧ x = s.diePower d ∧ y = t.diePower d ∧
        t.now = max s.now (x.evalAt + us 10) ∧ y.evalAt = t.now ∧ y.estimate = e ∧ y.tempCore = x.tempCore ∧
        y.aAt = t.now ∧ y.aWork = (s.reach (x.evalAt + us 10)).aWork d ∧
        y.step ≤ x.step + 1 ∧ x.step ≤ y.step + 1 ∧
        (s.power.brake = true → x.step < 7 → y.step = x.step + 1) ∧
        (s.power.capEn = true → 10 * s.power.capW < e → y.cap = min 7 (x.cap + 1)) ∧
        (s.power.capEn = false → y.cap = 0) ∧
        (s.power.brake = false → s.power.capEn = false → y.thermal = 0 → (∀ g ∈ s.power.hotStacks, g / 6 ≠ d) →
          y.step = x.step - 1) ∧
        (if stepClock y.step = stepClock x.step then y.stall = x.stall else y.stall = some (t.now + us 2)) ∧
        (∀ k, k ≠ d → t.diePower k = s.diePower k) ∧ t.power.brake = s.power.brake ∧ t.dram = s.dram) ∧
      (∀ a, (s.diePower d).stall = some a → ∃ t, exec (.aClockStallEnd d) s = .next t ∧ t.now = max s.now a ∧
        t.diePower d = { s.diePower d with stall := none, aWork := (s.reach a).aWork d, aAt := t.now } ∧
        ∀ k, k ≠ d → t.diePower k = s.diePower k) ∧
      ((s.diePower d).stall = none → exec (.aClockStallEnd d) s = .next s)) ∧
    (∀ d v, d < 2 → ∃ t, exec (.thermalThreshold (.coreDie d) v) s = .next t ∧ (t.diePower d).tempCore = v ∧
      (t.diePower d).thermal = (s.diePower d).thermal ∧ t.chans = s.chans ∧ ∀ k, k ≠ d → t.diePower k = s.diePower k) ∧
    (∀ l v, l < 4 → ∃ t, exec (.thermalThreshold (.linkDie l) v) s = .next t ∧
      t = { s with power := { s.power with tempLink := t.power.tempLink } } ∧ tget 0 t.power.tempLink l = v) ∧
    (∀ g v, g < 12 → ∃ t, exec (.thermalThreshold (.stack g) v) s = .next t ∧ tget 0 t.power.tempStack g = v ∧
      (92 ≤ v → g ∈ t.power.hotStacks) ∧ (v < 89 → g ∉ t.power.hotStacks) ∧
      (∀ n, t.chan n = if n / 32 = g ∧ 85 < v then { s.chan n with hot := true }
        else if n / 32 = g ∧ v < 82 then { s.chan n with hot := false } else s.chan n) ∧ t.dram = s.dram)

/-- For every state in which each table of units (virtual interfaces, windows, extents, regions, clusters, engines,
channels, streams, programs, revocations, complexes, host ports, caching agents, directory, transactions, nodes,
link dies, ports) lists its keys in rising order, so that no unit is listed twice, a step that answers a next
state leaves every table so. (00_scope.md, 01_package_and_levels.md) -/
def Obligations.TablesStaySorted : Prop :=
  ∀ (s t : State), s.tablesOk → step s = .next t → t.tablesOk

/-- A fabric address is decoded into node ID, window ID and byte offset as its table gives. A read of VI_ID at
offset 0 of a VI's page gives the fields of its table (node ID, pair index, pair state, KEYED, LEASE, KIND,
serving complex, VI number, zero elsewhere), after reset with the node ID, pair index, pair state, KEYED and
LEASE 0; a read of DEV_ID at offset 8 gives the firmware version (0 until the part is ready), part number 0x1272
and the stepping, which is an open value of the implementation. Reads change nothing, and writes to either
register change nothing. (R33, R381, R382) -/
def Obligations.IdentityRegisters : Prop :=
  ∀ (s : State) (p : Nat) (a : Word64), p < 1024 →
    (addrNode a = (a.extractLsb 63 52).toNat ∧ addrWindow a = (a.extractLsb 51 42).toNat ∧
      addrOffset a = (a.extractLsb 41 0).toNat) ∧
    (∃ v, s.readReg p 0x00 8 = (toLe 8 v, s) ∧ v < 2 ^ 64 ∧ bitf v 63 48 = 0 ∧ bitf v 47 36 = s.aon.nodeId % 4096 ∧
      bitf v 35 35 = s.pair.index % 2 ∧ bitf v 34 32 = s.pair.state.code ∧ bitf v 31 24 = 0 ∧
      (tbit v 23 = true ↔ ∃ k, (s.vi p).key = some k) ∧ (tbit v 22 = true ↔ s.leaseRuns p = true) ∧
      bitf v 21 20 = (if p = 0 ∨ p = 256 then 0 else if p < 512 then 1 else 2) ∧ bitf v 19 17 = 0 ∧
      bitf v 16 16 = complexOf p ∧ bitf v 15 10 = 0 ∧ bitf v 9 0 = p) ∧
    (∃ v, State.reset.readReg p 0x00 8 = (toLe 8 v, State.reset) ∧ bitf v 47 36 = 0 ∧ bitf v 35 32 = 0 ∧ bitf v 23 22 = 0) ∧
    (∃ v, s.readReg p 0x08 8 = (toLe 8 v, s) ∧ v < 2 ^ 64 ∧ bitf v 63 32 = (if s.ready then s.boot.fwVer.toNat else 0) ∧ bitf v 31 16 = 0x1272 ∧
      bitf v 15 0 = Config.stepping.toNat) ∧
    (s.pageLive p = true → ∀ v : Word64,
      exec (.registerWrite p 0x00 8 v) s = .next s ∧ exec (.registerWrite p 0x08 8 v) s = .next s)

/-- A contribution that passes checks 1 to 6 of R127 (a COL source, a tile of an open reducing stream whose anchor
the region has, a payload of the right length and not poisoned), to a tile that is not complete. When the tile's
rank in the region is at or beyond base + SKEW it is answered RETRY_LATER, CONF_SKEW_WAIT of the stream's owner
rises by 1, and no tile or stream changes. When the rank is below base + SKEW, with the tile open and more
contributions to come, CONF_SKEW_WAIT does not change and the answer is another one. (R132) -/
def Obligations.SkewWindowTurnsBack : Prop :=
  ∀ (s : State) (p : Pkt) (x : Stream) (w o g k : Nat) (a : Int), s.admits p = true → s.numbersFresh →
    s.cyc.roleStep = 0 → s.pair.state.refusal = none → addrNode p.addr = s.aon.nodeId → (s.node p.srcNode).colSrc = true →
    addrWindow p.addr = w → addrOffset p.addr = o → (s.win w).kind = 1 → (s.win w).writeEn = true →
    g = stackOf ((s.win w).basePa + o) → s.stackServes g = true → s.stream p.cstream = some x → x.closedStatus = none →
    p.contrib < x.desc.nContrib → x.tileOf p.addr = some k → x.anchorAt.contains g = true → x.anchor = some a →
    o + max 1 (s.targetSpan p) ≤ (s.win w).limit →
    s.checkData (s.win w).extentId ((s.win w).basePa + o) (max 1 (s.targetSpan p)) = none → p.fmt ≤ 7 →
    p.payload.length = fmtBytes p.fmt (x.desc.tileElems k) → p.poison = false → x.completed.contains k = false →
    (x.base (s.regionTiles x g) + x.desc.skew ≤ rankIn (s.regionTiles x g) k →
      ∃ t, exec (.contribution p) s = .next t ∧ repliedTo s t p stRETRY 4 0 [] ∧ t.clusters = s.clusters ∧
        t.streams = s.streams ∧ samePool s t ∧
        tget 0 (t.vi x.owner).ctr 0x31D0 = tget 0 (s.vi x.owner).ctr 0x31D0 + 1) ∧
    (rankIn (s.regionTiles x g) k < x.base (s.regionTiles x g) + x.desc.skew →
      ∀ d m y, s.sramPlace p.cstream k g = some (d, m) → afind (s.cluster d).tiles m = some y →
      (s.cluster d).inReset = false → s.boot.unlocked.contains (.a (d / 48)) = false →
      (y.dup.contains p.contrib = true ∨ y.count + 1 ≠ x.desc.nContrib) →
      ∃ t st, exec (.contribution p) s = .next t ∧ repliedTo s t p st 4 0 [] ∧ st ≠ stRETRY ∧
        tget 0 (t.vi x.owner).ctr 0x31D0 = tget 0 (s.vi x.owner).ctr 0x31D0)

/-- The eighth miss in a row on one path, while the other path delivers (it has no miss since its last valid
heartbeat), sets the degraded alarm of the path: it is logged, PAIR_DEGRADED with the path is posted to both
physical functions, and the pair state, lines and leases do not change. Fewer misses set no alarm. A valid
heartbeat on the path counts; the eighth in a row clears its alarm, fewer leave it. Shown for both paths: Rein
by HB words, PAIR_HB by frames that carry no lease flag, in a state that does not follow the partner's. (R355) -/
def Obligations.DegradedAlarmRisesAndClears : Prop :=
  ∀ (s : State) (b : Bool) (x y : HbPath), x = (if b then s.pair.rein else s.pair.sb) →
    y = (if b then s.pair.sb else s.pair.rein) →
    (x.misses = 7 → x.degraded = false → y.misses = 0 →
      ∃ t, exec (.heartbeatMiss b) s = .next t ∧ (if b then t.pair.rein else t.pair.sb).degraded = true ∧
        t.log = s.log ++ [⟨lgDEGRADED, [b2n (!b)]⟩] ∧
        (∀ v, v = 0 ∨ v = 256 → (s.page v).eqEn = true →
          (t.page v).evq = (s.page v).evq ++ [⟨evPAIR_DEGRADED, 0, [BitVec.ofNat 8 (b2n (!b))]⟩]) ∧
        t.pair.state = s.pair.state ∧ t.pair.act = s.pair.act ∧ t.pair.req = s.pair.req ∧ t.pair.la = s.pair.la ∧
        t.pair.co = s.pair.co ∧ samePool s t) ∧
    (x.misses < 7 →
      ∃ t, exec (.heartbeatMiss b) s = .next t ∧ (if b then t.pair.rein else t.pair.sb).degraded = x.degraded ∧
        t.log = s.log ∧ t.vis = s.vis ∧ t.pair.state = s.pair.state) ∧
    (b = true → ∀ p n, p = 64 ∨ p = 65 → (s.port p).state = .active → later 32 (n % 2 ^ 32) x.last.toNat = true →
      ∃ t, exec (.hb p n) s = .next t ∧ t.pair.rein.valid = x.valid + 1 ∧ t.pair.rein.misses = 0 ∧
        t.pair.rein.degraded = (if 8 ≤ x.valid + 1 then false else x.degraded) ∧ t.pair.state = s.pair.state) ∧
    (b = false → ∀ f, frameOk f = true → later 32 (leNat (slice f 2 4).reverse) x.last.toNat = true →
      s.pair.state ≠ .active → s.pair.state ≠ .solo → s.pair.state ≠ .syncing → leNat (slice f 6 2).reverse / 2 ^ 11 = 0 →
      ∃ t, exec (.pairHbFrame f) s = .next t ∧ t.pair.sb.valid = x.valid + 1 ∧ t.pair.sb.misses = 0 ∧
        t.pair.sb.degraded = (if 8 ≤ x.valid + 1 then false else x.degraded) ∧ t.pair.state = s.pair.state)
end

