-- ==== Sys2Proof/Laws/Crypto.lean ====
section
/-! SUPPORT. Lengths of hashes and keyed checks, and that a command with the check of R388 over it verifies. -/
namespace Sys2Proof.Machine

open Sys2Proof

@[simp] theorem toLe_length (n x : Nat) : (toLe n x).length = n := by
  induction n generalizing x with
  | zero => rfl
  | succ n ih => simp [toLe, ih]

@[simp] theorem slice_length (b : Bytes) (o n : Nat) : (slice b o n).length = n := by
  simp [slice, zeros] <;> omega

theorem slice_all (b : Bytes) : slice b 0 b.length = b := by simp [slice, zeros]

theorem shaRound_length {w : Nat} (c : Sha w) (v : List (BitVec w)) (k : Nat × BitVec w) (h : v.length = 8) :
    (shaRound c v k).length = 8 := by
  unfold shaRound
  split
  · rfl
  · exact h

theorem shaRounds_length {w : Nat} (c : Sha w) (l : List (Nat × BitVec w)) (v : List (BitVec w)) (h : v.length = 8) :
    (l.foldl (shaRound c) v).length = 8 := by
  induction l generalizing v with
  | nil => exact h
  | cons k l ih => exact ih _ (shaRound_length c v k h)

theorem shaBlocks_length {w : Nat} (c : Sha w) (n : Nat) (v : List (BitVec w)) (b : Bytes) (h : v.length = 8) :
    (shaBlocks c n v b).length = 8 := by
  induction n generalizing v b with
  | zero => exact h
  | succ n ih =>
    refine ih _ _ ?_
    simp [shaBlock, h, shaRounds_length]

theorem toBe_length (n x : Nat) : (toBe n x).length = n := by simp [toBe]

theorem flatMap_toBe_length (n : Nat) {w : Nat} (l : List (BitVec w)) :
    (l.flatMap (fun x => toBe n x.toNat)).length = n * l.length := by
  induction l with
  | nil => simp
  | cons x l ih => simp [ih, toBe_length, Nat.mul_add, Nat.add_comm]

@[simp] theorem hash384_length (m : Bytes) : (hash384 m).length = 48 := by
  simp only [hash384, shaOf, List.length_take, flatMap_toBe_length]
  rw [shaBlocks_length _ _ _ _ rfl]
  rfl

@[simp] theorem hmac384_length (k m : Bytes) : (hmac384 k m).length = 48 := hash384_length _

/-- The keyed check of a command (R388). -/
def signCmd (c : Cmd) (k : Bytes) (op : Nat) : Cmd :=
  { c with check := (hmac384 k ((cmdHeader op c).take 0x28 ++ cmdBytes c)).take 24 }

theorem cmdHeader_sign (c : Cmd) (k : Bytes) (op : Nat) :
    (cmdHeader op (signCmd c k op)).take 0x28 = (cmdHeader op c).take 0x28 := by
  simp [cmdHeader, signCmd, List.take_append]

/-- A command with the check of R388 over it verifies under its key. -/
theorem keyedOk_sign (c : Cmd) (k : Bytes) (op : Nat) : keyedOk k op (signCmd c k op) = true := by
  have hb : cmdBytes (signCmd c k op) = cmdBytes c := rfl
  have hc : (signCmd c k op).check = (hmac384 k ((cmdHeader op c).take 0x28 ++ cmdBytes c)).take 24 := rfl
  have h := slice_all ((hmac384 k ((cmdHeader op c).take 0x28 ++ cmdBytes c)).take 24)
  rw [List.length_take, hmac384_length] at h
  unfold keyedOk
  rw [cmdHeader_sign, hb, hc]
  simpa using h.symm

end Sys2Proof.Machine
end

