-- ==== Sys2Proof/Laws/Memory.lean ====
section
/-! SUPPORT. Laws of the pool memory: a read after a write, and the canonical form that every operation on
memory keeps. -/
namespace Sys2Proof.Machine

open Sys2Proof

/-! ### The canonical form -/

/-- The form, said of the members: no zero byte, and addresses strictly rising. -/
theorem Memory.wf_iff (m : List Host.Cell) :
    Memory.wf m = true ↔ (∀ c ∈ m, c.2 ≠ 0#8) ∧ m.Pairwise (fun x y => x.1 < y.1) := by
  induction m with
  | nil => simp [Memory.wf]
  | cons c r ih =>
    cases r with
    | nil => simp [Memory.wf]
    | cons d r =>
      simp only [Memory.wf, Bool.and_eq_true, bne_iff_ne, ne_eq, decide_eq_true_eq, ih]
      constructor
      · rintro ⟨⟨hc, hcd⟩, hz, hp⟩
        refine ⟨fun x hx => ?_, List.pairwise_cons.2 ⟨fun x hx => ?_, hp⟩⟩
        · rcases List.mem_cons.1 hx with rfl | hx
          · exact hc
          · exact hz x hx
        · rcases List.mem_cons.1 hx with rfl | hx
          · exact hcd
          · exact Nat.lt_trans hcd ((List.pairwise_cons.1 hp).1 x hx)
      · rintro ⟨hz, hp⟩
        have hp' := List.pairwise_cons.1 hp
        exact ⟨⟨hz c List.mem_cons_self, hp'.1 d List.mem_cons_self⟩,
          fun x hx => hz x (List.mem_cons_of_mem _ hx), hp'.2⟩

theorem Memory.wf_filter {m : List Host.Cell} (h : Memory.wf m = true) (p : Host.Cell → Bool) :
    Memory.wf (m.filter p) = true := by
  rw [Memory.wf_iff] at *
  exact ⟨fun c hc => h.1 c (List.mem_filter.1 hc).1, h.2.sublist List.filter_sublist⟩

theorem mem_memCells {a : Nat} {bs : Bytes} {c : Host.Cell} (h : c ∈ memCells a bs) :
    a ≤ c.1 ∧ c.1 < a + bs.length ∧ c.2 ≠ 0#8 := by
  induction bs generalizing a with
  | nil => simp [memCells] at h
  | cons b r ih =>
    unfold memCells at h
    split at h
    · have := ih h
      simp only [List.length_cons]
      exact ⟨by omega, by omega, this.2.2⟩
    · rename_i hb
      rcases List.mem_cons.1 h with rfl | h
      · simp [hb]
      · have := ih h
        simp only [List.length_cons]
        exact ⟨by omega, by omega, this.2.2⟩

theorem memCells_rising (a : Nat) (bs : Bytes) : (memCells a bs).Pairwise (fun x y => x.1 < y.1) := by
  induction bs generalizing a with
  | nil => simp [memCells]
  | cons b r ih =>
    unfold memCells
    split
    · exact ih (a + 1)
    · refine List.pairwise_cons.2 ⟨fun x hx => ?_, ih (a + 1)⟩
      have := mem_memCells hx
      show a < x.1
      omega

/-- Writing bytes keeps the form. -/
theorem Memory.wf_memWrite {m : List Host.Cell} (h : Memory.wf m = true) (a : Nat) (bs : Bytes) :
    Memory.wf (memWrite m a bs) = true := by
  rw [Memory.wf_iff] at *
  obtain ⟨hz, hp⟩ := h
  constructor
  · intro c hc
    simp only [memWrite, List.mem_append, List.mem_filter] at hc
    rcases hc with (hc | hc) | hc
    · exact hz c hc.1
    · exact (mem_memCells hc).2.2
    · exact hz c hc.1
  · unfold memWrite
    refine List.pairwise_append.2 ⟨List.pairwise_append.2 ⟨hp.sublist List.filter_sublist, memCells_rising a bs, ?_⟩,
      hp.sublist List.filter_sublist, ?_⟩
    · intro x hx y hy
      have h1 : x.1 < a := by simpa using (List.mem_filter.1 hx).2
      have h2 := (mem_memCells hy).1
      omega
    · intro x hx y hy
      have h2 : a + bs.length ≤ y.1 := by simpa using (List.mem_filter.1 hy).2
      rcases List.mem_append.1 hx with hx | hx
      · have h1 : x.1 < a := by simpa using (List.mem_filter.1 hx).2
        omega
      · have h1 := (mem_memCells hx).2.1
        omega

/-- Writing zeros to a range keeps the form. -/
theorem Memory.wf_memClear {m : List Host.Cell} (h : Memory.wf m = true) (a n : Nat) :
    Memory.wf (memClear m a n) = true := Memory.wf_filter h _

/-! ### Reads after writes -/

theorem memByte_nil (a : Nat) : memByte [] a = 0#8 := rfl

theorem memByte_cons (c : Host.Cell) (m : List Host.Cell) (a : Nat) :
    memByte (c :: m) a = if c.1 = a then c.2 else memByte m a := by
  by_cases h : c.1 = a <;> simp [memByte, h]

theorem memByte_append (m n : List Host.Cell) (a : Nat) :
    memByte (m ++ n) a = if m.any (fun c => c.1 == a) then memByte m a else memByte n a := by
  induction m with
  | nil => simp
  | cons c r ih =>
    by_cases h : c.1 = a
    · simp [memByte_cons, h]
    · simp [memByte_cons, h, ih]

theorem memByte_absent {m : List Host.Cell} {a : Nat} (h : ∀ c ∈ m, c.1 ≠ a) : memByte m a = 0#8 := by
  induction m with
  | nil => rfl
  | cons c r ih =>
    rw [memByte_cons, if_neg (h c List.mem_cons_self), ih (fun x hx => h x (List.mem_cons_of_mem _ hx))]

theorem memByte_filter (m : List Host.Cell) (p : Nat → Bool) (a : Nat) :
    memByte (m.filter (fun c => p c.1)) a = if p a then memByte m a else 0#8 := by
  induction m with
  | nil => simp [memByte_nil]
  | cons c r ih =>
    by_cases hp : p c.1 = true
    · by_cases hc : c.1 = a
      · subst hc; simp [hp, memByte_cons]
      · simp [List.filter_cons, hp, memByte_cons, hc, ih]
    · by_cases hc : c.1 = a
      · subst hc; simp [List.filter_cons, hp, ih]
      · simp [List.filter_cons, hp, ih, memByte_cons, hc]

theorem any_filter_at (m : List Host.Cell) (p : Nat → Bool) (a : Nat) :
    (m.filter (fun c => p c.1)).any (fun c => c.1 == a) = (p a && m.any (fun c => c.1 == a)) := by
  induction m with
  | nil => simp
  | cons c r ih =>
    rw [List.filter_cons, List.any_cons]
    by_cases hc : c.1 = a
    · subst hc
      by_cases hp : p c.1 = true
      · simp [hp]
      · rw [if_neg hp, ih]
        simp [hp]
    · have : (c.1 == a) = false := by simpa using hc
      rw [this, Bool.false_or]
      split
      · rw [List.any_cons, this, Bool.false_or, ih]
      · exact ih

theorem memByte_not_any {m : List Host.Cell} {a : Nat} (h : m.any (fun c => c.1 == a) = false) :
    memByte m a = 0#8 := by
  refine memByte_absent (fun c hc he => ?_)
  rw [List.any_eq_false] at h
  exact h c hc (by simp [he])

theorem memByte_memCells (bs : Bytes) (a i : Nat) :
    memByte (memCells a bs) (a + i) = bs.getD i 0#8 := by
  induction bs generalizing a i with
  | nil => simp [memCells, memByte_nil]
  | cons b r ih =>
    unfold memCells
    cases i with
    | zero =>
      have habs : ∀ c ∈ memCells (a + 1) r, c.1 ≠ a := fun c hc => by have := mem_memCells hc; omega
      split
      · rename_i hb
        simp [memByte_absent habs, hb]
      · simp [memByte_cons]
    | succ i =>
      have := ih (a + 1) i
      rw [show a + 1 + i = a + (i + 1) by omega] at this
      split
      · simpa using this
      · rw [memByte_cons, if_neg (show ¬ a = a + (i + 1) by omega)]
        simpa using this

/-- A byte outside what was written reads as before. -/
theorem memByte_memWrite_other (m : List Host.Cell) (a : Nat) (bs : Bytes) (x : Nat)
    (h : x < a ∨ a + bs.length ≤ x) : memByte (memWrite m a bs) x = memByte m x := by
  have hcells : ∀ c ∈ memCells a bs, c.1 ≠ x := fun c hc => by have := mem_memCells hc; omega
  have h1 := memByte_filter m (fun k => decide (k < a)) x
  have h2 := memByte_filter m (fun k => decide (a + bs.length ≤ k)) x
  have h3 : (memCells a bs).any (fun c => c.1 == x) = false := by
    rw [List.any_eq_false]; intro c hc; simpa using hcells c hc
  unfold memWrite
  rw [memByte_append, List.any_append, h3, Bool.or_false, memByte_append]
  rcases h with h | h
  · have : ¬ (a + bs.length ≤ x) := by omega
    simp only [h, decide_true, if_true] at h1
    simp only [this, decide_false, Bool.false_eq_true, if_false] at h2
    split
    · exact h1
    · rename_i hn
      rw [h2]
      have hany := any_filter_at m (fun k => decide (k < a)) x
      simp only [h, decide_true, Bool.true_and] at hany
      rw [hany] at hn
      exact (memByte_not_any (Bool.eq_false_iff.2 hn)).symm
  · have hx : ¬ (x < a) := by omega
    have hany := any_filter_at m (fun k => decide (k < a)) x
    simp only [hx, decide_false, Bool.false_and] at hany
    rw [hany]
    simpa [h] using h2

/-- A byte that was written reads as written. -/
theorem memByte_memWrite_same (m : List Host.Cell) (a : Nat) (bs : Bytes) (i : Nat) (h : i < bs.length) :
    memByte (memWrite m a bs) (a + i) = bs.getD i 0#8 := by
  have h1 := any_filter_at m (fun k => decide (k < a)) (a + i)
  have h2 := memByte_filter m (fun k => decide (a + bs.length ≤ k)) (a + i)
  simp only [show ¬ (a + i < a) by omega, decide_false, Bool.false_and] at h1
  simp only [show ¬ (a + bs.length ≤ a + i) by omega, decide_false, Bool.false_eq_true, if_false] at h2
  unfold memWrite
  rw [memByte_append, List.any_append, h1, Bool.false_or, memByte_append, h1]
  simp only [Bool.false_eq_true, if_false]
  split
  · exact memByte_memCells bs a i
  · rename_i hn
    rw [h2, ← memByte_memCells bs a i]
    exact (memByte_not_any (Bool.eq_false_iff.2 hn)).symm

theorem memByte_memClear (m : List Host.Cell) (a n x : Nat) :
    memByte (memClear m a n) x = if a ≤ x ∧ x < a + n then 0#8 else memByte m x := by
  have := memByte_filter m (fun k => decide (k < a ∨ a + n ≤ k)) x
  unfold memClear
  rw [this]
  by_cases h : a ≤ x ∧ x < a + n
  · have : ¬ (x < a ∨ a + n ≤ x) := by omega
    simp [this, h]
  · have : x < a ∨ a + n ≤ x := by omega
    simp [this, h]

end Sys2Proof.Machine
end

