-- ==== Sys2Proof/Laws/Tables.lean ====
section
/-! SUPPORT. Laws of sparse tables: what a key reads as after a write, and the canonical form that every
write keeps. -/
namespace Sys2Proof.Machine

open Sys2Proof

variable {α : Type}

@[simp] theorem tget_nil (d : α) (k : Nat) : tget d ([] : Tbl α) k = d := rfl

theorem tget_cons (d : α) (e : Nat × α) (t : Tbl α) (k : Nat) :
    tget d (e :: t) k = if e.1 = k then e.2 else tget d t k := by
  by_cases h : e.1 = k <;> simp [tget, h]

theorem tget_tput_same (d : α) (t : Tbl α) (k : Nat) (v : α) : tget d (tput t k v) k = v := by
  induction t with
  | nil => simp [tput, tget]
  | cons e r ih =>
    unfold tput
    split
    · simp [tget_cons]
    · split
      · simp [tget_cons]
      · rename_i h
        simp [tget_cons, ih, Ne.symm h]

theorem tget_tput_other (d : α) (t : Tbl α) (k j : Nat) (v : α) (h : j ≠ k) :
    tget d (tput t k v) j = tget d t j := by
  induction t with
  | nil => simp [tput, tget_cons, h.symm]
  | cons e r ih =>
    unfold tput
    split
    · simp [tget_cons, h.symm]
    · split
      · rename_i he
        simp [tget_cons, h.symm, ← he]
      · simp [tget_cons, ih]

theorem tget_tdel_same (d : α) (t : Tbl α) (k : Nat) : tget d (tdel t k) k = d := by
  induction t with
  | nil => rfl
  | cons e r ih =>
    unfold tdel at *
    by_cases he : e.1 = k
    · simpa [he] using ih
    · simp [he, tget_cons, ih]

theorem tget_tdel_other (d : α) (t : Tbl α) (k j : Nat) (h : j ≠ k) :
    tget d (tdel t k) j = tget d t j := by
  induction t with
  | nil => rfl
  | cons e r ih =>
    unfold tdel at *
    by_cases he : e.1 = k
    · simp [he, tget_cons, h.symm, ih]
    · simp [he, tget_cons, ih]

/-- A key reads as what was last written to it. -/
@[simp] theorem tget_tset_same [DecidableEq α] (d : α) (t : Tbl α) (k : Nat) (v : α) :
    tget d (tset d t k v) k = v := by
  unfold tset
  split
  · simp [tget_tdel_same, *]
  · exact tget_tput_same d t k v

/-- A write leaves every other key alone. -/
@[simp] theorem tget_tset_other [DecidableEq α] (d : α) (t : Tbl α) (k j : Nat) (v : α) (h : j ≠ k) :
    tget d (tset d t k v) j = tget d t j := by
  unfold tset
  split
  · exact tget_tdel_other d t k j h
  · exact tget_tput_other d t k j v h

/-- One key reads the same for each value that unlisted keys read as, once it is listed. -/
theorem tget_tset [DecidableEq α] (d : α) (t : Tbl α) (k j : Nat) (v : α) :
    tget d (tset d t k v) j = if j = k then v else tget d t j := by
  split
  · rename_i h
    subst h
    exact tget_tset_same d t j v
  · rename_i h
    exact tget_tset_other d t k j v h

theorem mem_tput {t : Tbl α} {k : Nat} {v : α} {x : Nat × α} (h : x ∈ tput t k v) :
    x = (k, v) ∨ x ∈ t := by
  induction t with
  | nil => simpa [tput] using h
  | cons e r ih =>
    unfold tput at h
    split at h
    · simpa using h
    · split at h
      · rcases List.mem_cons.1 h with h | h
        · exact .inl h
        · exact .inr (List.mem_cons_of_mem _ h)
      · rcases List.mem_cons.1 h with h | h
        · exact .inr (h ▸ List.mem_cons_self)
        · rcases ih h with h | h
          · exact .inl h
          · exact .inr (List.mem_cons_of_mem _ h)

theorem rising_tput {t : Tbl α} (h : t.Pairwise (fun x y => x.1 < y.1)) (k : Nat) (v : α) :
    (tput t k v).Pairwise (fun x y => x.1 < y.1) := by
  induction t with
  | nil => simp [tput]
  | cons e r ih =>
    obtain ⟨he, hr⟩ := List.pairwise_cons.1 h
    unfold tput
    split
    · rename_i hk
      refine List.pairwise_cons.2 ⟨fun x hx => ?_, h⟩
      rcases List.mem_cons.1 hx with rfl | hx
      · exact hk
      · exact Nat.lt_trans hk (he x hx)
    · split
      · rename_i hk
        exact List.pairwise_cons.2 ⟨fun x hx => hk ▸ he x hx, hr⟩
      · rename_i h1 h2
        refine List.pairwise_cons.2 ⟨fun x hx => ?_, ih hr⟩
        rcases mem_tput hx with rfl | hx
        · exact Nat.lt_of_le_of_ne (Nat.le_of_not_lt h1) (Ne.symm h2)
        · exact he x hx

/-- Writing a key keeps the keys rising. -/
theorem rising_tset [DecidableEq α] {t : Tbl α} (h : t.Pairwise (fun x y => x.1 < y.1)) (d : α) (k : Nat) (v : α) :
    (tset d t k v).Pairwise (fun x y => x.1 < y.1) := by
  unfold tset
  split
  · exact h.sublist List.filter_sublist
  · exact rising_tput h k v

/-- Changing the entry of a present thing keeps the keys rising. -/
theorem rising_amod {t : List (Nat × α)} (h : t.Pairwise (fun x y => x.1 < y.1)) (k : Nat) (f : α → α) :
    (amod t k f).Pairwise (fun x y => x.1 < y.1) := by
  refine List.pairwise_map.2 (h.imp (fun {x y} hxy => ?_))
  split <;> split <;> exact hxy

/-- The entry of a list of present things after a change of another one. -/
theorem afind_amod_other (t : List (Nat × α)) (k j : Nat) (f : α → α) (h : j ≠ k) :
    afind (amod t k f) j = afind t j := by
  induction t with
  | nil => rfl
  | cons e r ih =>
    unfold afind amod at *
    by_cases hk : e.1 = k
    · by_cases hj : e.1 = j
      · exact absurd (hj.symm.trans hk) h
      · simpa [hk, h.symm, hj] using ih
    · by_cases hj : e.1 = j
      · simp [hk, hj, h]
      · simpa [hk, hj] using ih

/-- The entry of a list of present things after it has been changed. -/
theorem afind_amod_same (t : List (Nat × α)) (k : Nat) (f : α → α) :
    afind (amod t k f) k = (afind t k).map f := by
  induction t with
  | nil => rfl
  | cons e r ih =>
    unfold afind amod at *
    by_cases hk : e.1 = k
    · simp [hk]
    · simpa [hk] using ih

end Sys2Proof.Machine
end

