-- ==== Sys2Proof/Laws/State.lean ====
section
/-! SUPPORT. What each update of State leaves alone, one lemma for a field or an accessor, and what a unit reads as
after it was set. Every lemma is a simplification rule, so that no proof unfolds a record update. -/
namespace Sys2Proof.Machine

open Sys2Proof

/-- A key reads as before after a write of another one, with a value of its own for an unlisted key. -/
theorem tget_tset_away {α : Type} [DecidableEq α] (d : Nat → α) (t : Tbl α) (k j : Nat) (v : α) (h : j ≠ k) :
    tget (d j) (tset (d k) t k v) j = tget (d j) t j := by
  unfold tset
  split
  · exact tget_tdel_other (d j) t k j h
  · exact tget_tput_other (d j) t k j v h

/-- A meaning goes on exactly when its operands number units of the package. -/
@[simp] theorem onUnit_true (t : State) : onUnit true t = .next t := rfl
@[simp] theorem onUnit_false (t : State) : onUnit false t = .fault .noSuchUnit := rfl

theorem onUnit_next {ok : Bool} {t s' : State} (h : onUnit ok t = .next s') : ok = true ∧ s' = t := by
  cases ok
  · exact nomatch h
  · exact ⟨rfl, (Host.Outcome.next.inj h).symm⟩

@[simp] theorem State.setVi_now (s : State) (n : Nat) (v : Vi) : (s.setVi n v).now = s.now := rfl
@[simp] theorem State.setVi_free (s : State) (n : Nat) (v : Vi) : (s.setVi n v).free = s.free := rfl
@[simp] theorem State.setVi_kAbsent (s : State) (n : Nat) (v : Vi) : (s.setVi n v).kAbsent = s.kAbsent := rfl
@[simp] theorem State.setVi_boot (s : State) (n : Nat) (v : Vi) : (s.setVi n v).boot = s.boot := rfl
@[simp] theorem State.setVi_aon (s : State) (n : Nat) (v : Vi) : (s.setVi n v).aon = s.aon := rfl
@[simp] theorem State.setVi_power (s : State) (n : Nat) (v : Vi) : (s.setVi n v).power = s.power := rfl
@[simp] theorem State.setVi_dram (s : State) (n : Nat) (v : Vi) : (s.setVi n v).dram = s.dram := rfl
@[simp] theorem State.setVi_wins (s : State) (n : Nat) (v : Vi) : (s.setVi n v).wins = s.wins := rfl
@[simp] theorem State.setVi_exts (s : State) (n : Nat) (v : Vi) : (s.setVi n v).exts = s.exts := rfl
@[simp] theorem State.setVi_home (s : State) (n : Nat) (v : Vi) : (s.setVi n v).home = s.home := rfl
@[simp] theorem State.setVi_regions (s : State) (n : Nat) (v : Vi) : (s.setVi n v).regions = s.regions := rfl
@[simp] theorem State.setVi_clusters (s : State) (n : Nat) (v : Vi) : (s.setVi n v).clusters = s.clusters := rfl
@[simp] theorem State.setVi_engines (s : State) (n : Nat) (v : Vi) : (s.setVi n v).engines = s.engines := rfl
@[simp] theorem State.setVi_chans (s : State) (n : Nat) (v : Vi) : (s.setVi n v).chans = s.chans := rfl
@[simp] theorem State.setVi_streams (s : State) (n : Nat) (v : Vi) : (s.setVi n v).streams = s.streams := rfl
@[simp] theorem State.setVi_progs (s : State) (n : Nat) (v : Vi) : (s.setVi n v).progs = s.progs := rfl
@[simp] theorem State.setVi_waiting (s : State) (n : Nat) (v : Vi) : (s.setVi n v).waiting = s.waiting := rfl
@[simp] theorem State.setVi_opLooks (s : State) (n : Nat) (v : Vi) : (s.setVi n v).opLooks = s.opLooks := rfl
@[simp] theorem State.setVi_reqNo (s : State) (n : Nat) (v : Vi) : (s.setVi n v).reqNo = s.reqNo := rfl
@[simp] theorem State.setVi_outbox (s : State) (n : Nat) (v : Vi) : (s.setVi n v).outbox = s.outbox := rfl
@[simp] theorem State.setVi_fabric (s : State) (n : Nat) (v : Vi) : (s.setVi n v).fabric = s.fabric := rfl
@[simp] theorem State.setVi_sched (s : State) (n : Nat) (v : Vi) : (s.setVi n v).sched = s.sched := rfl
@[simp] theorem State.setVi_pair (s : State) (n : Nat) (v : Vi) : (s.setVi n v).pair = s.pair := rfl
@[simp] theorem State.setVi_cyc (s : State) (n : Nat) (v : Vi) : (s.setVi n v).cyc = s.cyc := rfl
@[simp] theorem State.setVi_complexes (s : State) (n : Nat) (v : Vi) : (s.setVi n v).complexes = s.complexes := rfl
@[simp] theorem State.setVi_hostPorts (s : State) (n : Nat) (v : Vi) : (s.setVi n v).hostPorts = s.hostPorts := rfl
@[simp] theorem State.setVi_revokes (s : State) (n : Nat) (v : Vi) : (s.setVi n v).revokes = s.revokes := rfl
@[simp] theorem State.setVi_drains (s : State) (n : Nat) (v : Vi) : (s.setVi n v).drains = s.drains := rfl
@[simp] theorem State.setVi_log (s : State) (n : Nat) (v : Vi) : (s.setVi n v).log = s.log := rfl
@[simp] theorem State.setVi_pending (s : State) (n : Nat) (v : Vi) : (s.setVi n v).pending = s.pending := rfl
@[simp] theorem State.setVi_get_win (s : State) (n : Nat) (v : Vi) (m : Nat) : (s.setVi n v).win m = s.win m := rfl
@[simp] theorem State.setVi_get_ext (s : State) (n : Nat) (v : Vi) (m : Nat) : (s.setVi n v).ext m = s.ext m := rfl
@[simp] theorem State.setVi_get_region (s : State) (n : Nat) (v : Vi) (m : Nat) : (s.setVi n v).region m = s.region m := rfl
@[simp] theorem State.setVi_get_cluster (s : State) (n : Nat) (v : Vi) (m : Nat) : (s.setVi n v).cluster m = s.cluster m := rfl
@[simp] theorem State.setVi_get_engine (s : State) (n : Nat) (v : Vi) (m : Nat) : (s.setVi n v).engine m = s.engine m := rfl
@[simp] theorem State.setVi_get_chan (s : State) (n : Nat) (v : Vi) (m : Nat) : (s.setVi n v).chan m = s.chan m := rfl
@[simp] theorem State.setVi_get_port (s : State) (n : Nat) (v : Vi) (m : Nat) : (s.setVi n v).port m = s.port m := rfl
@[simp] theorem State.setVi_get_die (s : State) (n : Nat) (v : Vi) (m : Nat) : (s.setVi n v).die m = s.die m := rfl
@[simp] theorem State.setVi_get_node (s : State) (n : Nat) (v : Vi) (m : Nat) : (s.setVi n v).node m = s.node m := rfl
@[simp] theorem State.setVi_get_complex (s : State) (n : Nat) (v : Vi) (m : Nat) : (s.setVi n v).complex m = s.complex m := rfl
@[simp] theorem State.setVi_get_hostPort (s : State) (n : Nat) (v : Vi) (m : Nat) : (s.setVi n v).hostPort m = s.hostPort m := rfl
@[simp] theorem State.setVi_get_diePower (s : State) (n : Nat) (v : Vi) (m : Nat) : (s.setVi n v).diePower m = s.diePower m := rfl
@[simp] theorem State.setVi_get_stream (s : State) (n : Nat) (v : Vi) (m : Nat) : (s.setVi n v).stream m = s.stream m := rfl
@[simp] theorem State.modVi_now (s : State) (n : Nat) (f : Vi → Vi) : (s.modVi n f).now = s.now := rfl
@[simp] theorem State.modVi_free (s : State) (n : Nat) (f : Vi → Vi) : (s.modVi n f).free = s.free := rfl
@[simp] theorem State.modVi_kAbsent (s : State) (n : Nat) (f : Vi → Vi) : (s.modVi n f).kAbsent = s.kAbsent := rfl
@[simp] theorem State.modVi_boot (s : State) (n : Nat) (f : Vi → Vi) : (s.modVi n f).boot = s.boot := rfl
@[simp] theorem State.modVi_aon (s : State) (n : Nat) (f : Vi → Vi) : (s.modVi n f).aon = s.aon := rfl
@[simp] theorem State.modVi_power (s : State) (n : Nat) (f : Vi → Vi) : (s.modVi n f).power = s.power := rfl
@[simp] theorem State.modVi_dram (s : State) (n : Nat) (f : Vi → Vi) : (s.modVi n f).dram = s.dram := rfl
@[simp] theorem State.modVi_wins (s : State) (n : Nat) (f : Vi → Vi) : (s.modVi n f).wins = s.wins := rfl
@[simp] theorem State.modVi_exts (s : State) (n : Nat) (f : Vi → Vi) : (s.modVi n f).exts = s.exts := rfl
@[simp] theorem State.modVi_home (s : State) (n : Nat) (f : Vi → Vi) : (s.modVi n f).home = s.home := rfl
@[simp] theorem State.modVi_regions (s : State) (n : Nat) (f : Vi → Vi) : (s.modVi n f).regions = s.regions := rfl
@[simp] theorem State.modVi_clusters (s : State) (n : Nat) (f : Vi → Vi) : (s.modVi n f).clusters = s.clusters := rfl
@[simp] theorem State.modVi_engines (s : State) (n : Nat) (f : Vi → Vi) : (s.modVi n f).engines = s.engines := rfl
@[simp] theorem State.modVi_chans (s : State) (n : Nat) (f : Vi → Vi) : (s.modVi n f).chans = s.chans := rfl
@[simp] theorem State.modVi_streams (s : State) (n : Nat) (f : Vi → Vi) : (s.modVi n f).streams = s.streams := rfl
@[simp] theorem State.modVi_progs (s : State) (n : Nat) (f : Vi → Vi) : (s.modVi n f).progs = s.progs := rfl
@[simp] theorem State.modVi_waiting (s : State) (n : Nat) (f : Vi → Vi) : (s.modVi n f).waiting = s.waiting := rfl
@[simp] theorem State.modVi_opLooks (s : State) (n : Nat) (f : Vi → Vi) : (s.modVi n f).opLooks = s.opLooks := rfl
@[simp] theorem State.modVi_reqNo (s : State) (n : Nat) (f : Vi → Vi) : (s.modVi n f).reqNo = s.reqNo := rfl
@[simp] theorem State.modVi_outbox (s : State) (n : Nat) (f : Vi → Vi) : (s.modVi n f).outbox = s.outbox := rfl
@[simp] theorem State.modVi_fabric (s : State) (n : Nat) (f : Vi → Vi) : (s.modVi n f).fabric = s.fabric := rfl
@[simp] theorem State.modVi_sched (s : State) (n : Nat) (f : Vi → Vi) : (s.modVi n f).sched = s.sched := rfl
@[simp] theorem State.modVi_pair (s : State) (n : Nat) (f : Vi → Vi) : (s.modVi n f).pair = s.pair := rfl
@[simp] theorem State.modVi_cyc (s : State) (n : Nat) (f : Vi → Vi) : (s.modVi n f).cyc = s.cyc := rfl
@[simp] theorem State.modVi_complexes (s : State) (n : Nat) (f : Vi → Vi) : (s.modVi n f).complexes = s.complexes := rfl
@[simp] theorem State.modVi_hostPorts (s : State) (n : Nat) (f : Vi → Vi) : (s.modVi n f).hostPorts = s.hostPorts := rfl
@[simp] theorem State.modVi_revokes (s : State) (n : Nat) (f : Vi → Vi) : (s.modVi n f).revokes = s.revokes := rfl
@[simp] theorem State.modVi_drains (s : State) (n : Nat) (f : Vi → Vi) : (s.modVi n f).drains = s.drains := rfl
@[simp] theorem State.modVi_log (s : State) (n : Nat) (f : Vi → Vi) : (s.modVi n f).log = s.log := rfl
@[simp] theorem State.modVi_pending (s : State) (n : Nat) (f : Vi → Vi) : (s.modVi n f).pending = s.pending := rfl
@[simp] theorem State.modVi_get_win (s : State) (n : Nat) (f : Vi → Vi) (m : Nat) : (s.modVi n f).win m = s.win m := rfl
@[simp] theorem State.modVi_get_ext (s : State) (n : Nat) (f : Vi → Vi) (m : Nat) : (s.modVi n f).ext m = s.ext m := rfl
@[simp] theorem State.modVi_get_region (s : State) (n : Nat) (f : Vi → Vi) (m : Nat) : (s.modVi n f).region m = s.region m := rfl
@[simp] theorem State.modVi_get_cluster (s : State) (n : Nat) (f : Vi → Vi) (m : Nat) : (s.modVi n f).cluster m = s.cluster m := rfl
@[simp] theorem State.modVi_get_engine (s : State) (n : Nat) (f : Vi → Vi) (m : Nat) : (s.modVi n f).engine m = s.engine m := rfl
@[simp] theorem State.modVi_get_chan (s : State) (n : Nat) (f : Vi → Vi) (m : Nat) : (s.modVi n f).chan m = s.chan m := rfl
@[simp] theorem State.modVi_get_port (s : State) (n : Nat) (f : Vi → Vi) (m : Nat) : (s.modVi n f).port m = s.port m := rfl
@[simp] theorem State.modVi_get_die (s : State) (n : Nat) (f : Vi → Vi) (m : Nat) : (s.modVi n f).die m = s.die m := rfl
@[simp] theorem State.modVi_get_node (s : State) (n : Nat) (f : Vi → Vi) (m : Nat) : (s.modVi n f).node m = s.node m := rfl
@[simp] theorem State.modVi_get_complex (s : State) (n : Nat) (f : Vi → Vi) (m : Nat) : (s.modVi n f).complex m = s.complex m := rfl
@[simp] theorem State.modVi_get_hostPort (s : State) (n : Nat) (f : Vi → Vi) (m : Nat) : (s.modVi n f).hostPort m = s.hostPort m := rfl
@[simp] theorem State.modVi_get_diePower (s : State) (n : Nat) (f : Vi → Vi) (m : Nat) : (s.modVi n f).diePower m = s.diePower m := rfl
@[simp] theorem State.modVi_get_stream (s : State) (n : Nat) (f : Vi → Vi) (m : Nat) : (s.modVi n f).stream m = s.stream m := rfl
@[simp] theorem State.modPage_now (s : State) (n : Nat) (f : Page → Page) : (s.modPage n f).now = s.now := rfl
@[simp] theorem State.modPage_free (s : State) (n : Nat) (f : Page → Page) : (s.modPage n f).free = s.free := rfl
@[simp] theorem State.modPage_kAbsent (s : State) (n : Nat) (f : Page → Page) : (s.modPage n f).kAbsent = s.kAbsent := rfl
@[simp] theorem State.modPage_boot (s : State) (n : Nat) (f : Page → Page) : (s.modPage n f).boot = s.boot := rfl
@[simp] theorem State.modPage_aon (s : State) (n : Nat) (f : Page → Page) : (s.modPage n f).aon = s.aon := rfl
@[simp] theorem State.modPage_power (s : State) (n : Nat) (f : Page → Page) : (s.modPage n f).power = s.power := rfl
@[simp] theorem State.modPage_dram (s : State) (n : Nat) (f : Page → Page) : (s.modPage n f).dram = s.dram := rfl
@[simp] theorem State.modPage_wins (s : State) (n : Nat) (f : Page → Page) : (s.modPage n f).wins = s.wins := rfl
@[simp] theorem State.modPage_exts (s : State) (n : Nat) (f : Page → Page) : (s.modPage n f).exts = s.exts := rfl
@[simp] theorem State.modPage_home (s : State) (n : Nat) (f : Page → Page) : (s.modPage n f).home = s.home := rfl
@[simp] theorem State.modPage_regions (s : State) (n : Nat) (f : Page → Page) : (s.modPage n f).regions = s.regions := rfl
@[simp] theorem State.modPage_clusters (s : State) (n : Nat) (f : Page → Page) : (s.modPage n f).clusters = s.clusters := rfl
@[simp] theorem State.modPage_engines (s : State) (n : Nat) (f : Page → Page) : (s.modPage n f).engines = s.engines := rfl
@[simp] theorem State.modPage_chans (s : State) (n : Nat) (f : Page → Page) : (s.modPage n f).chans = s.chans := rfl
@[simp] theorem State.modPage_streams (s : State) (n : Nat) (f : Page → Page) : (s.modPage n f).streams = s.streams := rfl
@[simp] theorem State.modPage_progs (s : State) (n : Nat) (f : Page → Page) : (s.modPage n f).progs = s.progs := rfl
@[simp] theorem State.modPage_waiting (s : State) (n : Nat) (f : Page → Page) : (s.modPage n f).waiting = s.waiting := rfl
@[simp] theorem State.modPage_opLooks (s : State) (n : Nat) (f : Page → Page) : (s.modPage n f).opLooks = s.opLooks := rfl
@[simp] theorem State.modPage_reqNo (s : State) (n : Nat) (f : Page → Page) : (s.modPage n f).reqNo = s.reqNo := rfl
@[simp] theorem State.modPage_outbox (s : State) (n : Nat) (f : Page → Page) : (s.modPage n f).outbox = s.outbox := rfl
@[simp] theorem State.modPage_fabric (s : State) (n : Nat) (f : Page → Page) : (s.modPage n f).fabric = s.fabric := rfl
@[simp] theorem State.modPage_sched (s : State) (n : Nat) (f : Page → Page) : (s.modPage n f).sched = s.sched := rfl
@[simp] theorem State.modPage_pair (s : State) (n : Nat) (f : Page → Page) : (s.modPage n f).pair = s.pair := rfl
@[simp] theorem State.modPage_cyc (s : State) (n : Nat) (f : Page → Page) : (s.modPage n f).cyc = s.cyc := rfl
@[simp] theorem State.modPage_complexes (s : State) (n : Nat) (f : Page → Page) : (s.modPage n f).complexes = s.complexes := rfl
@[simp] theorem State.modPage_hostPorts (s : State) (n : Nat) (f : Page → Page) : (s.modPage n f).hostPorts = s.hostPorts := rfl
@[simp] theorem State.modPage_revokes (s : State) (n : Nat) (f : Page → Page) : (s.modPage n f).revokes = s.revokes := rfl
@[simp] theorem State.modPage_drains (s : State) (n : Nat) (f : Page → Page) : (s.modPage n f).drains = s.drains := rfl
@[simp] theorem State.modPage_log (s : State) (n : Nat) (f : Page → Page) : (s.modPage n f).log = s.log := rfl
@[simp] theorem State.modPage_pending (s : State) (n : Nat) (f : Page → Page) : (s.modPage n f).pending = s.pending := rfl
@[simp] theorem State.modPage_get_win (s : State) (n : Nat) (f : Page → Page) (m : Nat) : (s.modPage n f).win m = s.win m := rfl
@[simp] theorem State.modPage_get_ext (s : State) (n : Nat) (f : Page → Page) (m : Nat) : (s.modPage n f).ext m = s.ext m := rfl
@[simp] theorem State.modPage_get_region (s : State) (n : Nat) (f : Page → Page) (m : Nat) : (s.modPage n f).region m = s.region m := rfl
@[simp] theorem State.modPage_get_cluster (s : State) (n : Nat) (f : Page → Page) (m : Nat) : (s.modPage n f).cluster m = s.cluster m := rfl
@[simp] theorem State.modPage_get_engine (s : State) (n : Nat) (f : Page → Page) (m : Nat) : (s.modPage n f).engine m = s.engine m := rfl
@[simp] theorem State.modPage_get_chan (s : State) (n : Nat) (f : Page → Page) (m : Nat) : (s.modPage n f).chan m = s.chan m := rfl
@[simp] theorem State.modPage_get_port (s : State) (n : Nat) (f : Page → Page) (m : Nat) : (s.modPage n f).port m = s.port m := rfl
@[simp] theorem State.modPage_get_die (s : State) (n : Nat) (f : Page → Page) (m : Nat) : (s.modPage n f).die m = s.die m := rfl
@[simp] theorem State.modPage_get_node (s : State) (n : Nat) (f : Page → Page) (m : Nat) : (s.modPage n f).node m = s.node m := rfl
@[simp] theorem State.modPage_get_complex (s : State) (n : Nat) (f : Page → Page) (m : Nat) : (s.modPage n f).complex m = s.complex m := rfl
@[simp] theorem State.modPage_get_hostPort (s : State) (n : Nat) (f : Page → Page) (m : Nat) : (s.modPage n f).hostPort m = s.hostPort m := rfl
@[simp] theorem State.modPage_get_diePower (s : State) (n : Nat) (f : Page → Page) (m : Nat) : (s.modPage n f).diePower m = s.diePower m := rfl
@[simp] theorem State.modPage_get_stream (s : State) (n : Nat) (f : Page → Page) (m : Nat) : (s.modPage n f).stream m = s.stream m := rfl
@[simp] theorem State.setWin_now (s : State) (n : Nat) (v : Win) : (s.setWin n v).now = s.now := rfl
@[simp] theorem State.setWin_free (s : State) (n : Nat) (v : Win) : (s.setWin n v).free = s.free := rfl
@[simp] theorem State.setWin_kAbsent (s : State) (n : Nat) (v : Win) : (s.setWin n v).kAbsent = s.kAbsent := rfl
@[simp] theorem State.setWin_boot (s : State) (n : Nat) (v : Win) : (s.setWin n v).boot = s.boot := rfl
@[simp] theorem State.setWin_aon (s : State) (n : Nat) (v : Win) : (s.setWin n v).aon = s.aon := rfl
@[simp] theorem State.setWin_power (s : State) (n : Nat) (v : Win) : (s.setWin n v).power = s.power := rfl
@[simp] theorem State.setWin_dram (s : State) (n : Nat) (v : Win) : (s.setWin n v).dram = s.dram := rfl
@[simp] theorem State.setWin_vis (s : State) (n : Nat) (v : Win) : (s.setWin n v).vis = s.vis := rfl
@[simp] theorem State.setWin_exts (s : State) (n : Nat) (v : Win) : (s.setWin n v).exts = s.exts := rfl
@[simp] theorem State.setWin_home (s : State) (n : Nat) (v : Win) : (s.setWin n v).home = s.home := rfl
@[simp] theorem State.setWin_regions (s : State) (n : Nat) (v : Win) : (s.setWin n v).regions = s.regions := rfl
@[simp] theorem State.setWin_clusters (s : State) (n : Nat) (v : Win) : (s.setWin n v).clusters = s.clusters := rfl
@[simp] theorem State.setWin_engines (s : State) (n : Nat) (v : Win) : (s.setWin n v).engines = s.engines := rfl
@[simp] theorem State.setWin_chans (s : State) (n : Nat) (v : Win) : (s.setWin n v).chans = s.chans := rfl
@[simp] theorem State.setWin_streams (s : State) (n : Nat) (v : Win) : (s.setWin n v).streams = s.streams := rfl
@[simp] theorem State.setWin_progs (s : State) (n : Nat) (v : Win) : (s.setWin n v).progs = s.progs := rfl
@[simp] theorem State.setWin_waiting (s : State) (n : Nat) (v : Win) : (s.setWin n v).waiting = s.waiting := rfl
@[simp] theorem State.setWin_opLooks (s : State) (n : Nat) (v : Win) : (s.setWin n v).opLooks = s.opLooks := rfl
@[simp] theorem State.setWin_reqNo (s : State) (n : Nat) (v : Win) : (s.setWin n v).reqNo = s.reqNo := rfl
@[simp] theorem State.setWin_outbox (s : State) (n : Nat) (v : Win) : (s.setWin n v).outbox = s.outbox := rfl
@[simp] theorem State.setWin_fabric (s : State) (n : Nat) (v : Win) : (s.setWin n v).fabric = s.fabric := rfl
@[simp] theorem State.setWin_sched (s : State) (n : Nat) (v : Win) : (s.setWin n v).sched = s.sched := rfl
@[simp] theorem State.setWin_pair (s : State) (n : Nat) (v : Win) : (s.setWin n v).pair = s.pair := rfl
@[simp] theorem State.setWin_cyc (s : State) (n : Nat) (v : Win) : (s.setWin n v).cyc = s.cyc := rfl
@[simp] theorem State.setWin_complexes (s : State) (n : Nat) (v : Win) : (s.setWin n v).complexes = s.complexes := rfl
@[simp] theorem State.setWin_hostPorts (s : State) (n : Nat) (v : Win) : (s.setWin n v).hostPorts = s.hostPorts := rfl
@[simp] theorem State.setWin_revokes (s : State) (n : Nat) (v : Win) : (s.setWin n v).revokes = s.revokes := rfl
@[simp] theorem State.setWin_drains (s : State) (n : Nat) (v : Win) : (s.setWin n v).drains = s.drains := rfl
@[simp] theorem State.setWin_log (s : State) (n : Nat) (v : Win) : (s.setWin n v).log = s.log := rfl
@[simp] theorem State.setWin_pending (s : State) (n : Nat) (v : Win) : (s.setWin n v).pending = s.pending := rfl
@[simp] theorem State.setWin_get_vi (s : State) (n : Nat) (v : Win) (m : Nat) : (s.setWin n v).vi m = s.vi m := rfl
@[simp] theorem State.setWin_get_ext (s : State) (n : Nat) (v : Win) (m : Nat) : (s.setWin n v).ext m = s.ext m := rfl
@[simp] theorem State.setWin_get_region (s : State) (n : Nat) (v : Win) (m : Nat) : (s.setWin n v).region m = s.region m := rfl
@[simp] theorem State.setWin_get_cluster (s : State) (n : Nat) (v : Win) (m : Nat) : (s.setWin n v).cluster m = s.cluster m := rfl
@[simp] theorem State.setWin_get_engine (s : State) (n : Nat) (v : Win) (m : Nat) : (s.setWin n v).engine m = s.engine m := rfl
@[simp] theorem State.setWin_get_chan (s : State) (n : Nat) (v : Win) (m : Nat) : (s.setWin n v).chan m = s.chan m := rfl
@[simp] theorem State.setWin_get_port (s : State) (n : Nat) (v : Win) (m : Nat) : (s.setWin n v).port m = s.port m := rfl
@[simp] theorem State.setWin_get_die (s : State) (n : Nat) (v : Win) (m : Nat) : (s.setWin n v).die m = s.die m := rfl
@[simp] theorem State.setWin_get_node (s : State) (n : Nat) (v : Win) (m : Nat) : (s.setWin n v).node m = s.node m := rfl
@[simp] theorem State.setWin_get_complex (s : State) (n : Nat) (v : Win) (m : Nat) : (s.setWin n v).complex m = s.complex m := rfl
@[simp] theorem State.setWin_get_hostPort (s : State) (n : Nat) (v : Win) (m : Nat) : (s.setWin n v).hostPort m = s.hostPort m := rfl
@[simp] theorem State.setWin_get_diePower (s : State) (n : Nat) (v : Win) (m : Nat) : (s.setWin n v).diePower m = s.diePower m := rfl
@[simp] theorem State.setWin_get_stream (s : State) (n : Nat) (v : Win) (m : Nat) : (s.setWin n v).stream m = s.stream m := rfl
@[simp] theorem State.setWin_get_page (s : State) (n : Nat) (v : Win) (m : Nat) : (s.setWin n v).page m = s.page m := rfl
@[simp] theorem State.setExt_now (s : State) (n : Nat) (v : Ext) : (s.setExt n v).now = s.now := rfl
@[simp] theorem State.setExt_free (s : State) (n : Nat) (v : Ext) : (s.setExt n v).free = s.free := rfl
@[simp] theorem State.setExt_kAbsent (s : State) (n : Nat) (v : Ext) : (s.setExt n v).kAbsent = s.kAbsent := rfl
@[simp] theorem State.setExt_boot (s : State) (n : Nat) (v : Ext) : (s.setExt n v).boot = s.boot := rfl
@[simp] theorem State.setExt_aon (s : State) (n : Nat) (v : Ext) : (s.setExt n v).aon = s.aon := rfl
@[simp] theorem State.setExt_power (s : State) (n : Nat) (v : Ext) : (s.setExt n v).power = s.power := rfl
@[simp] theorem State.setExt_dram (s : State) (n : Nat) (v : Ext) : (s.setExt n v).dram = s.dram := rfl
@[simp] theorem State.setExt_vis (s : State) (n : Nat) (v : Ext) : (s.setExt n v).vis = s.vis := rfl
@[simp] theorem State.setExt_wins (s : State) (n : Nat) (v : Ext) : (s.setExt n v).wins = s.wins := rfl
@[simp] theorem State.setExt_home (s : State) (n : Nat) (v : Ext) : (s.setExt n v).home = s.home := rfl
@[simp] theorem State.setExt_regions (s : State) (n : Nat) (v : Ext) : (s.setExt n v).regions = s.regions := rfl
@[simp] theorem State.setExt_clusters (s : State) (n : Nat) (v : Ext) : (s.setExt n v).clusters = s.clusters := rfl
@[simp] theorem State.setExt_engines (s : State) (n : Nat) (v : Ext) : (s.setExt n v).engines = s.engines := rfl
@[simp] theorem State.setExt_chans (s : State) (n : Nat) (v : Ext) : (s.setExt n v).chans = s.chans := rfl
@[simp] theorem State.setExt_streams (s : State) (n : Nat) (v : Ext) : (s.setExt n v).streams = s.streams := rfl
@[simp] theorem State.setExt_progs (s : State) (n : Nat) (v : Ext) : (s.setExt n v).progs = s.progs := rfl
@[simp] theorem State.setExt_waiting (s : State) (n : Nat) (v : Ext) : (s.setExt n v).waiting = s.waiting := rfl
@[simp] theorem State.setExt_opLooks (s : State) (n : Nat) (v : Ext) : (s.setExt n v).opLooks = s.opLooks := rfl
@[simp] theorem State.setExt_reqNo (s : State) (n : Nat) (v : Ext) : (s.setExt n v).reqNo = s.reqNo := rfl
@[simp] theorem State.setExt_outbox (s : State) (n : Nat) (v : Ext) : (s.setExt n v).outbox = s.outbox := rfl
@[simp] theorem State.setExt_fabric (s : State) (n : Nat) (v : Ext) : (s.setExt n v).fabric = s.fabric := rfl
@[simp] theorem State.setExt_sched (s : State) (n : Nat) (v : Ext) : (s.setExt n v).sched = s.sched := rfl
@[simp] theorem State.setExt_pair (s : State) (n : Nat) (v : Ext) : (s.setExt n v).pair = s.pair := rfl
@[simp] theorem State.setExt_cyc (s : State) (n : Nat) (v : Ext) : (s.setExt n v).cyc = s.cyc := rfl
@[simp] theorem State.setExt_complexes (s : State) (n : Nat) (v : Ext) : (s.setExt n v).complexes = s.complexes := rfl
@[simp] theorem State.setExt_hostPorts (s : State) (n : Nat) (v : Ext) : (s.setExt n v).hostPorts = s.hostPorts := rfl
@[simp] theorem State.setExt_revokes (s : State) (n : Nat) (v : Ext) : (s.setExt n v).revokes = s.revokes := rfl
@[simp] theorem State.setExt_drains (s : State) (n : Nat) (v : Ext) : (s.setExt n v).drains = s.drains := rfl
@[simp] theorem State.setExt_log (s : State) (n : Nat) (v : Ext) : (s.setExt n v).log = s.log := rfl
@[simp] theorem State.setExt_pending (s : State) (n : Nat) (v : Ext) : (s.setExt n v).pending = s.pending := rfl
@[simp] theorem State.setExt_get_vi (s : State) (n : Nat) (v : Ext) (m : Nat) : (s.setExt n v).vi m = s.vi m := rfl
@[simp] theorem State.setExt_get_win (s : State) (n : Nat) (v : Ext) (m : Nat) : (s.setExt n v).win m = s.win m := rfl
@[simp] theorem State.setExt_get_region (s : State) (n : Nat) (v : Ext) (m : Nat) : (s.setExt n v).region m = s.region m := rfl
@[simp] theorem State.setExt_get_cluster (s : State) (n : Nat) (v : Ext) (m : Nat) : (s.setExt n v).cluster m = s.cluster m := rfl
@[simp] theorem State.setExt_get_engine (s : State) (n : Nat) (v : Ext) (m : Nat) : (s.setExt n v).engine m = s.engine m := rfl
@[simp] theorem State.setExt_get_chan (s : State) (n : Nat) (v : Ext) (m : Nat) : (s.setExt n v).chan m = s.chan m := rfl
@[simp] theorem State.setExt_get_port (s : State) (n : Nat) (v : Ext) (m : Nat) : (s.setExt n v).port m = s.port m := rfl
@[simp] theorem State.setExt_get_die (s : State) (n : Nat) (v : Ext) (m : Nat) : (s.setExt n v).die m = s.die m := rfl
@[simp] theorem State.setExt_get_node (s : State) (n : Nat) (v : Ext) (m : Nat) : (s.setExt n v).node m = s.node m := rfl
@[simp] theorem State.setExt_get_complex (s : State) (n : Nat) (v : Ext) (m : Nat) : (s.setExt n v).complex m = s.complex m := rfl
@[simp] theorem State.setExt_get_hostPort (s : State) (n : Nat) (v : Ext) (m : Nat) : (s.setExt n v).hostPort m = s.hostPort m := rfl
@[simp] theorem State.setExt_get_diePower (s : State) (n : Nat) (v : Ext) (m : Nat) : (s.setExt n v).diePower m = s.diePower m := rfl
@[simp] theorem State.setExt_get_stream (s : State) (n : Nat) (v : Ext) (m : Nat) : (s.setExt n v).stream m = s.stream m := rfl
@[simp] theorem State.setExt_get_page (s : State) (n : Nat) (v : Ext) (m : Nat) : (s.setExt n v).page m = s.page m := rfl
@[simp] theorem State.setRegion_now (s : State) (n : Nat) (v : Region) : (s.setRegion n v).now = s.now := rfl
@[simp] theorem State.setRegion_free (s : State) (n : Nat) (v : Region) : (s.setRegion n v).free = s.free := rfl
@[simp] theorem State.setRegion_kAbsent (s : State) (n : Nat) (v : Region) : (s.setRegion n v).kAbsent = s.kAbsent := rfl
@[simp] theorem State.setRegion_boot (s : State) (n : Nat) (v : Region) : (s.setRegion n v).boot = s.boot := rfl
@[simp] theorem State.setRegion_aon (s : State) (n : Nat) (v : Region) : (s.setRegion n v).aon = s.aon := rfl
@[simp] theorem State.setRegion_power (s : State) (n : Nat) (v : Region) : (s.setRegion n v).power = s.power := rfl
@[simp] theorem State.setRegion_dram (s : State) (n : Nat) (v : Region) : (s.setRegion n v).dram = s.dram := rfl
@[simp] theorem State.setRegion_vis (s : State) (n : Nat) (v : Region) : (s.setRegion n v).vis = s.vis := rfl
@[simp] theorem State.setRegion_wins (s : State) (n : Nat) (v : Region) : (s.setRegion n v).wins = s.wins := rfl
@[simp] theorem State.setRegion_exts (s : State) (n : Nat) (v : Region) : (s.setRegion n v).exts = s.exts := rfl
@[simp] theorem State.setRegion_home (s : State) (n : Nat) (v : Region) : (s.setRegion n v).home = s.home := rfl
@[simp] theorem State.setRegion_clusters (s : State) (n : Nat) (v : Region) : (s.setRegion n v).clusters = s.clusters := rfl
@[simp] theorem State.setRegion_engines (s : State) (n : Nat) (v : Region) : (s.setRegion n v).engines = s.engines := rfl
@[simp] theorem State.setRegion_chans (s : State) (n : Nat) (v : Region) : (s.setRegion n v).chans = s.chans := rfl
@[simp] theorem State.setRegion_streams (s : State) (n : Nat) (v : Region) : (s.setRegion n v).streams = s.streams := rfl
@[simp] theorem State.setRegion_progs (s : State) (n : Nat) (v : Region) : (s.setRegion n v).progs = s.progs := rfl
@[simp] theorem State.setRegion_waiting (s : State) (n : Nat) (v : Region) : (s.setRegion n v).waiting = s.waiting := rfl
@[simp] theorem State.setRegion_opLooks (s : State) (n : Nat) (v : Region) : (s.setRegion n v).opLooks = s.opLooks := rfl
@[simp] theorem State.setRegion_reqNo (s : State) (n : Nat) (v : Region) : (s.setRegion n v).reqNo = s.reqNo := rfl
@[simp] theorem State.setRegion_outbox (s : State) (n : Nat) (v : Region) : (s.setRegion n v).outbox = s.outbox := rfl
@[simp] theorem State.setRegion_fabric (s : State) (n : Nat) (v : Region) : (s.setRegion n v).fabric = s.fabric := rfl
@[simp] theorem State.setRegion_sched (s : State) (n : Nat) (v : Region) : (s.setRegion n v).sched = s.sched := rfl
@[simp] theorem State.setRegion_pair (s : State) (n : Nat) (v : Region) : (s.setRegion n v).pair = s.pair := rfl
@[simp] theorem State.setRegion_cyc (s : State) (n : Nat) (v : Region) : (s.setRegion n v).cyc = s.cyc := rfl
@[simp] theorem State.setRegion_complexes (s : State) (n : Nat) (v : Region) : (s.setRegion n v).complexes = s.complexes := rfl
@[simp] theorem State.setRegion_hostPorts (s : State) (n : Nat) (v : Region) : (s.setRegion n v).hostPorts = s.hostPorts := rfl
@[simp] theorem State.setRegion_revokes (s : State) (n : Nat) (v : Region) : (s.setRegion n v).revokes = s.revokes := rfl
@[simp] theorem State.setRegion_drains (s : State) (n : Nat) (v : Region) : (s.setRegion n v).drains = s.drains := rfl
@[simp] theorem State.setRegion_log (s : State) (n : Nat) (v : Region) : (s.setRegion n v).log = s.log := rfl
@[simp] theorem State.setRegion_pending (s : State) (n : Nat) (v : Region) : (s.setRegion n v).pending = s.pending := rfl
@[simp] theorem State.setRegion_get_vi (s : State) (n : Nat) (v : Region) (m : Nat) : (s.setRegion n v).vi m = s.vi m := rfl
@[simp] theorem State.setRegion_get_win (s : State) (n : Nat) (v : Region) (m : Nat) : (s.setRegion n v).win m = s.win m := rfl
@[simp] theorem State.setRegion_get_ext (s : State) (n : Nat) (v : Region) (m : Nat) : (s.setRegion n v).ext m = s.ext m := rfl
@[simp] theorem State.setRegion_get_cluster (s : State) (n : Nat) (v : Region) (m : Nat) : (s.setRegion n v).cluster m = s.cluster m := rfl
@[simp] theorem State.setRegion_get_engine (s : State) (n : Nat) (v : Region) (m : Nat) : (s.setRegion n v).engine m = s.engine m := rfl
@[simp] theorem State.setRegion_get_chan (s : State) (n : Nat) (v : Region) (m : Nat) : (s.setRegion n v).chan m = s.chan m := rfl
@[simp] theorem State.setRegion_get_port (s : State) (n : Nat) (v : Region) (m : Nat) : (s.setRegion n v).port m = s.port m := rfl
@[simp] theorem State.setRegion_get_die (s : State) (n : Nat) (v : Region) (m : Nat) : (s.setRegion n v).die m = s.die m := rfl
@[simp] theorem State.setRegion_get_node (s : State) (n : Nat) (v : Region) (m : Nat) : (s.setRegion n v).node m = s.node m := rfl
@[simp] theorem State.setRegion_get_complex (s : State) (n : Nat) (v : Region) (m : Nat) : (s.setRegion n v).complex m = s.complex m := rfl
@[simp] theorem State.setRegion_get_hostPort (s : State) (n : Nat) (v : Region) (m : Nat) : (s.setRegion n v).hostPort m = s.hostPort m := rfl
@[simp] theorem State.setRegion_get_diePower (s : State) (n : Nat) (v : Region) (m : Nat) : (s.setRegion n v).diePower m = s.diePower m := rfl
@[simp] theorem State.setRegion_get_stream (s : State) (n : Nat) (v : Region) (m : Nat) : (s.setRegion n v).stream m = s.stream m := rfl
@[simp] theorem State.setRegion_get_page (s : State) (n : Nat) (v : Region) (m : Nat) : (s.setRegion n v).page m = s.page m := rfl
@[simp] theorem State.modRegion_now (s : State) (n : Nat) (f : Region → Region) : (s.modRegion n f).now = s.now := rfl
@[simp] theorem State.modRegion_free (s : State) (n : Nat) (f : Region → Region) : (s.modRegion n f).free = s.free := rfl
@[simp] theorem State.modRegion_kAbsent (s : State) (n : Nat) (f : Region → Region) : (s.modRegion n f).kAbsent = s.kAbsent := rfl
@[simp] theorem State.modRegion_boot (s : State) (n : Nat) (f : Region → Region) : (s.modRegion n f).boot = s.boot := rfl
@[simp] theorem State.modRegion_aon (s : State) (n : Nat) (f : Region → Region) : (s.modRegion n f).aon = s.aon := rfl
@[simp] theorem State.modRegion_power (s : State) (n : Nat) (f : Region → Region) : (s.modRegion n f).power = s.power := rfl
@[simp] theorem State.modRegion_dram (s : State) (n : Nat) (f : Region → Region) : (s.modRegion n f).dram = s.dram := rfl
@[simp] theorem State.modRegion_vis (s : State) (n : Nat) (f : Region → Region) : (s.modRegion n f).vis = s.vis := rfl
@[simp] theorem State.modRegion_wins (s : State) (n : Nat) (f : Region → Region) : (s.modRegion n f).wins = s.wins := rfl
@[simp] theorem State.modRegion_exts (s : State) (n : Nat) (f : Region → Region) : (s.modRegion n f).exts = s.exts := rfl
@[simp] theorem State.modRegion_home (s : State) (n : Nat) (f : Region → Region) : (s.modRegion n f).home = s.home := rfl
@[simp] theorem State.modRegion_clusters (s : State) (n : Nat) (f : Region → Region) : (s.modRegion n f).clusters = s.clusters := rfl
@[simp] theorem State.modRegion_engines (s : State) (n : Nat) (f : Region → Region) : (s.modRegion n f).engines = s.engines := rfl
@[simp] theorem State.modRegion_chans (s : State) (n : Nat) (f : Region → Region) : (s.modRegion n f).chans = s.chans := rfl
@[simp] theorem State.modRegion_streams (s : State) (n : Nat) (f : Region → Region) : (s.modRegion n f).streams = s.streams := rfl
@[simp] theorem State.modRegion_progs (s : State) (n : Nat) (f : Region → Region) : (s.modRegion n f).progs = s.progs := rfl
@[simp] theorem State.modRegion_waiting (s : State) (n : Nat) (f : Region → Region) : (s.modRegion n f).waiting = s.waiting := rfl
@[simp] theorem State.modRegion_opLooks (s : State) (n : Nat) (f : Region → Region) : (s.modRegion n f).opLooks = s.opLooks := rfl
@[simp] theorem State.modRegion_reqNo (s : State) (n : Nat) (f : Region → Region) : (s.modRegion n f).reqNo = s.reqNo := rfl
@[simp] theorem State.modRegion_outbox (s : State) (n : Nat) (f : Region → Region) : (s.modRegion n f).outbox = s.outbox := rfl
@[simp] theorem State.modRegion_fabric (s : State) (n : Nat) (f : Region → Region) : (s.modRegion n f).fabric = s.fabric := rfl
@[simp] theorem State.modRegion_sched (s : State) (n : Nat) (f : Region → Region) : (s.modRegion n f).sched = s.sched := rfl
@[simp] theorem State.modRegion_pair (s : State) (n : Nat) (f : Region → Region) : (s.modRegion n f).pair = s.pair := rfl
@[simp] theorem State.modRegion_cyc (s : State) (n : Nat) (f : Region → Region) : (s.modRegion n f).cyc = s.cyc := rfl
@[simp] theorem State.modRegion_complexes (s : State) (n : Nat) (f : Region → Region) : (s.modRegion n f).complexes = s.complexes := rfl
@[simp] theorem State.modRegion_hostPorts (s : State) (n : Nat) (f : Region → Region) : (s.modRegion n f).hostPorts = s.hostPorts := rfl
@[simp] theorem State.modRegion_revokes (s : State) (n : Nat) (f : Region → Region) : (s.modRegion n f).revokes = s.revokes := rfl
@[simp] theorem State.modRegion_drains (s : State) (n : Nat) (f : Region → Region) : (s.modRegion n f).drains = s.drains := rfl
@[simp] theorem State.modRegion_log (s : State) (n : Nat) (f : Region → Region) : (s.modRegion n f).log = s.log := rfl
@[simp] theorem State.modRegion_pending (s : State) (n : Nat) (f : Region → Region) : (s.modRegion n f).pending = s.pending := rfl
@[simp] theorem State.modRegion_get_vi (s : State) (n : Nat) (f : Region → Region) (m : Nat) : (s.modRegion n f).vi m = s.vi m := rfl
@[simp] theorem State.modRegion_get_win (s : State) (n : Nat) (f : Region → Region) (m : Nat) : (s.modRegion n f).win m = s.win m := rfl
@[simp] theorem State.modRegion_get_ext (s : State) (n : Nat) (f : Region → Region) (m : Nat) : (s.modRegion n f).ext m = s.ext m := rfl
@[simp] theorem State.modRegion_get_cluster (s : State) (n : Nat) (f : Region → Region) (m : Nat) : (s.modRegion n f).cluster m = s.cluster m := rfl
@[simp] theorem State.modRegion_get_engine (s : State) (n : Nat) (f : Region → Region) (m : Nat) : (s.modRegion n f).engine m = s.engine m := rfl
@[simp] theorem State.modRegion_get_chan (s : State) (n : Nat) (f : Region → Region) (m : Nat) : (s.modRegion n f).chan m = s.chan m := rfl
@[simp] theorem State.modRegion_get_port (s : State) (n : Nat) (f : Region → Region) (m : Nat) : (s.modRegion n f).port m = s.port m := rfl
@[simp] theorem State.modRegion_get_die (s : State) (n : Nat) (f : Region → Region) (m : Nat) : (s.modRegion n f).die m = s.die m := rfl
@[simp] theorem State.modRegion_get_node (s : State) (n : Nat) (f : Region → Region) (m : Nat) : (s.modRegion n f).node m = s.node m := rfl
@[simp] theorem State.modRegion_get_complex (s : State) (n : Nat) (f : Region → Region) (m : Nat) : (s.modRegion n f).complex m = s.complex m := rfl
@[simp] theorem State.modRegion_get_hostPort (s : State) (n : Nat) (f : Region → Region) (m : Nat) : (s.modRegion n f).hostPort m = s.hostPort m := rfl
@[simp] theorem State.modRegion_get_diePower (s : State) (n : Nat) (f : Region → Region) (m : Nat) : (s.modRegion n f).diePower m = s.diePower m := rfl
@[simp] theorem State.modRegion_get_stream (s : State) (n : Nat) (f : Region → Region) (m : Nat) : (s.modRegion n f).stream m = s.stream m := rfl
@[simp] theorem State.modRegion_get_page (s : State) (n : Nat) (f : Region → Region) (m : Nat) : (s.modRegion n f).page m = s.page m := rfl
@[simp] theorem State.setCluster_now (s : State) (n : Nat) (v : Cluster) : (s.setCluster n v).now = s.now := rfl
@[simp] theorem State.setCluster_free (s : State) (n : Nat) (v : Cluster) : (s.setCluster n v).free = s.free := rfl
@[simp] theorem State.setCluster_kAbsent (s : State) (n : Nat) (v : Cluster) : (s.setCluster n v).kAbsent = s.kAbsent := rfl
@[simp] theorem State.setCluster_boot (s : State) (n : Nat) (v : Cluster) : (s.setCluster n v).boot = s.boot := rfl
@[simp] theorem State.setCluster_aon (s : State) (n : Nat) (v : Cluster) : (s.setCluster n v).aon = s.aon := rfl
@[simp] theorem State.setCluster_power (s : State) (n : Nat) (v : Cluster) : (s.setCluster n v).power = s.power := rfl
@[simp] theorem State.setCluster_dram (s : State) (n : Nat) (v : Cluster) : (s.setCluster n v).dram = s.dram := rfl
@[simp] theorem State.setCluster_vis (s : State) (n : Nat) (v : Cluster) : (s.setCluster n v).vis = s.vis := rfl
@[simp] theorem State.setCluster_wins (s : State) (n : Nat) (v : Cluster) : (s.setCluster n v).wins = s.wins := rfl
@[simp] theorem State.setCluster_exts (s : State) (n : Nat) (v : Cluster) : (s.setCluster n v).exts = s.exts := rfl
@[simp] theorem State.setCluster_home (s : State) (n : Nat) (v : Cluster) : (s.setCluster n v).home = s.home := rfl
@[simp] theorem State.setCluster_regions (s : State) (n : Nat) (v : Cluster) : (s.setCluster n v).regions = s.regions := rfl
@[simp] theorem State.setCluster_engines (s : State) (n : Nat) (v : Cluster) : (s.setCluster n v).engines = s.engines := rfl
@[simp] theorem State.setCluster_chans (s : State) (n : Nat) (v : Cluster) : (s.setCluster n v).chans = s.chans := rfl
@[simp] theorem State.setCluster_streams (s : State) (n : Nat) (v : Cluster) : (s.setCluster n v).streams = s.streams := rfl
@[simp] theorem State.setCluster_progs (s : State) (n : Nat) (v : Cluster) : (s.setCluster n v).progs = s.progs := rfl
@[simp] theorem State.setCluster_waiting (s : State) (n : Nat) (v : Cluster) : (s.setCluster n v).waiting = s.waiting := rfl
@[simp] theorem State.setCluster_opLooks (s : State) (n : Nat) (v : Cluster) : (s.setCluster n v).opLooks = s.opLooks := rfl
@[simp] theorem State.setCluster_reqNo (s : State) (n : Nat) (v : Cluster) : (s.setCluster n v).reqNo = s.reqNo := rfl
@[simp] theorem State.setCluster_outbox (s : State) (n : Nat) (v : Cluster) : (s.setCluster n v).outbox = s.outbox := rfl
@[simp] theorem State.setCluster_fabric (s : State) (n : Nat) (v : Cluster) : (s.setCluster n v).fabric = s.fabric := rfl
@[simp] theorem State.setCluster_sched (s : State) (n : Nat) (v : Cluster) : (s.setCluster n v).sched = s.sched := rfl
@[simp] theorem State.setCluster_pair (s : State) (n : Nat) (v : Cluster) : (s.setCluster n v).pair = s.pair := rfl
@[simp] theorem State.setCluster_cyc (s : State) (n : Nat) (v : Cluster) : (s.setCluster n v).cyc = s.cyc := rfl
@[simp] theorem State.setCluster_complexes (s : State) (n : Nat) (v : Cluster) : (s.setCluster n v).complexes = s.complexes := rfl
@[simp] theorem State.setCluster_hostPorts (s : State) (n : Nat) (v : Cluster) : (s.setCluster n v).hostPorts = s.hostPorts := rfl
@[simp] theorem State.setCluster_revokes (s : State) (n : Nat) (v : Cluster) : (s.setCluster n v).revokes = s.revokes := rfl
@[simp] theorem State.setCluster_drains (s : State) (n : Nat) (v : Cluster) : (s.setCluster n v).drains = s.drains := rfl
@[simp] theorem State.setCluster_log (s : State) (n : Nat) (v : Cluster) : (s.setCluster n v).log = s.log := rfl
@[simp] theorem State.setCluster_pending (s : State) (n : Nat) (v : Cluster) : (s.setCluster n v).pending = s.pending := rfl
@[simp] theorem State.setCluster_get_vi (s : State) (n : Nat) (v : Cluster) (m : Nat) : (s.setCluster n v).vi m = s.vi m := rfl
@[simp] theorem State.setCluster_get_win (s : State) (n : Nat) (v : Cluster) (m : Nat) : (s.setCluster n v).win m = s.win m := rfl
@[simp] theorem State.setCluster_get_ext (s : State) (n : Nat) (v : Cluster) (m : Nat) : (s.setCluster n v).ext m = s.ext m := rfl
@[simp] theorem State.setCluster_get_region (s : State) (n : Nat) (v : Cluster) (m : Nat) : (s.setCluster n v).region m = s.region m := rfl
@[simp] theorem State.setCluster_get_engine (s : State) (n : Nat) (v : Cluster) (m : Nat) : (s.setCluster n v).engine m = s.engine m := rfl
@[simp] theorem State.setCluster_get_chan (s : State) (n : Nat) (v : Cluster) (m : Nat) : (s.setCluster n v).chan m = s.chan m := rfl
@[simp] theorem State.setCluster_get_port (s : State) (n : Nat) (v : Cluster) (m : Nat) : (s.setCluster n v).port m = s.port m := rfl
@[simp] theorem State.setCluster_get_die (s : State) (n : Nat) (v : Cluster) (m : Nat) : (s.setCluster n v).die m = s.die m := rfl
@[simp] theorem State.setCluster_get_node (s : State) (n : Nat) (v : Cluster) (m : Nat) : (s.setCluster n v).node m = s.node m := rfl
@[simp] theorem State.setCluster_get_complex (s : State) (n : Nat) (v : Cluster) (m : Nat) : (s.setCluster n v).complex m = s.complex m := rfl
@[simp] theorem State.setCluster_get_hostPort (s : State) (n : Nat) (v : Cluster) (m : Nat) : (s.setCluster n v).hostPort m = s.hostPort m := rfl
@[simp] theorem State.setCluster_get_diePower (s : State) (n : Nat) (v : Cluster) (m : Nat) : (s.setCluster n v).diePower m = s.diePower m := rfl
@[simp] theorem State.setCluster_get_stream (s : State) (n : Nat) (v : Cluster) (m : Nat) : (s.setCluster n v).stream m = s.stream m := rfl
@[simp] theorem State.setCluster_get_page (s : State) (n : Nat) (v : Cluster) (m : Nat) : (s.setCluster n v).page m = s.page m := rfl
@[simp] theorem State.modCluster_now (s : State) (n : Nat) (f : Cluster → Cluster) : (s.modCluster n f).now = s.now := rfl
@[simp] theorem State.modCluster_free (s : State) (n : Nat) (f : Cluster → Cluster) : (s.modCluster n f).free = s.free := rfl
@[simp] theorem State.modCluster_kAbsent (s : State) (n : Nat) (f : Cluster → Cluster) : (s.modCluster n f).kAbsent = s.kAbsent := rfl
@[simp] theorem State.modCluster_boot (s : State) (n : Nat) (f : Cluster → Cluster) : (s.modCluster n f).boot = s.boot := rfl
@[simp] theorem State.modCluster_aon (s : State) (n : Nat) (f : Cluster → Cluster) : (s.modCluster n f).aon = s.aon := rfl
@[simp] theorem State.modCluster_power (s : State) (n : Nat) (f : Cluster → Cluster) : (s.modCluster n f).power = s.power := rfl
@[simp] theorem State.modCluster_dram (s : State) (n : Nat) (f : Cluster → Cluster) : (s.modCluster n f).dram = s.dram := rfl
@[simp] theorem State.modCluster_vis (s : State) (n : Nat) (f : Cluster → Cluster) : (s.modCluster n f).vis = s.vis := rfl
@[simp] theorem State.modCluster_wins (s : State) (n : Nat) (f : Cluster → Cluster) : (s.modCluster n f).wins = s.wins := rfl
@[simp] theorem State.modCluster_exts (s : State) (n : Nat) (f : Cluster → Cluster) : (s.modCluster n f).exts = s.exts := rfl
@[simp] theorem State.modCluster_home (s : State) (n : Nat) (f : Cluster → Cluster) : (s.modCluster n f).home = s.home := rfl
@[simp] theorem State.modCluster_regions (s : State) (n : Nat) (f : Cluster → Cluster) : (s.modCluster n f).regions = s.regions := rfl
@[simp] theorem State.modCluster_engines (s : State) (n : Nat) (f : Cluster → Cluster) : (s.modCluster n f).engines = s.engines := rfl
@[simp] theorem State.modCluster_chans (s : State) (n : Nat) (f : Cluster → Cluster) : (s.modCluster n f).chans = s.chans := rfl
@[simp] theorem State.modCluster_streams (s : State) (n : Nat) (f : Cluster → Cluster) : (s.modCluster n f).streams = s.streams := rfl
@[simp] theorem State.modCluster_progs (s : State) (n : Nat) (f : Cluster → Cluster) : (s.modCluster n f).progs = s.progs := rfl
@[simp] theorem State.modCluster_waiting (s : State) (n : Nat) (f : Cluster → Cluster) : (s.modCluster n f).waiting = s.waiting := rfl
@[simp] theorem State.modCluster_opLooks (s : State) (n : Nat) (f : Cluster → Cluster) : (s.modCluster n f).opLooks = s.opLooks := rfl
@[simp] theorem State.modCluster_reqNo (s : State) (n : Nat) (f : Cluster → Cluster) : (s.modCluster n f).reqNo = s.reqNo := rfl
@[simp] theorem State.modCluster_outbox (s : State) (n : Nat) (f : Cluster → Cluster) : (s.modCluster n f).outbox = s.outbox := rfl
@[simp] theorem State.modCluster_fabric (s : State) (n : Nat) (f : Cluster → Cluster) : (s.modCluster n f).fabric = s.fabric := rfl
@[simp] theorem State.modCluster_sched (s : State) (n : Nat) (f : Cluster → Cluster) : (s.modCluster n f).sched = s.sched := rfl
@[simp] theorem State.modCluster_pair (s : State) (n : Nat) (f : Cluster → Cluster) : (s.modCluster n f).pair = s.pair := rfl
@[simp] theorem State.modCluster_cyc (s : State) (n : Nat) (f : Cluster → Cluster) : (s.modCluster n f).cyc = s.cyc := rfl
@[simp] theorem State.modCluster_complexes (s : State) (n : Nat) (f : Cluster → Cluster) : (s.modCluster n f).complexes = s.complexes := rfl
@[simp] theorem State.modCluster_hostPorts (s : State) (n : Nat) (f : Cluster → Cluster) : (s.modCluster n f).hostPorts = s.hostPorts := rfl
@[simp] theorem State.modCluster_revokes (s : State) (n : Nat) (f : Cluster → Cluster) : (s.modCluster n f).revokes = s.revokes := rfl
@[simp] theorem State.modCluster_drains (s : State) (n : Nat) (f : Cluster → Cluster) : (s.modCluster n f).drains = s.drains := rfl
@[simp] theorem State.modCluster_log (s : State) (n : Nat) (f : Cluster → Cluster) : (s.modCluster n f).log = s.log := rfl
@[simp] theorem State.modCluster_pending (s : State) (n : Nat) (f : Cluster → Cluster) : (s.modCluster n f).pending = s.pending := rfl
@[simp] theorem State.modCluster_get_vi (s : State) (n : Nat) (f : Cluster → Cluster) (m : Nat) : (s.modCluster n f).vi m = s.vi m := rfl
@[simp] theorem State.modCluster_get_win (s : State) (n : Nat) (f : Cluster → Cluster) (m : Nat) : (s.modCluster n f).win m = s.win m := rfl
@[simp] theorem State.modCluster_get_ext (s : State) (n : Nat) (f : Cluster → Cluster) (m : Nat) : (s.modCluster n f).ext m = s.ext m := rfl
@[simp] theorem State.modCluster_get_region (s : State) (n : Nat) (f : Cluster → Cluster) (m : Nat) : (s.modCluster n f).region m = s.region m := rfl
@[simp] theorem State.modCluster_get_engine (s : State) (n : Nat) (f : Cluster → Cluster) (m : Nat) : (s.modCluster n f).engine m = s.engine m := rfl
@[simp] theorem State.modCluster_get_chan (s : State) (n : Nat) (f : Cluster → Cluster) (m : Nat) : (s.modCluster n f).chan m = s.chan m := rfl
@[simp] theorem State.modCluster_get_port (s : State) (n : Nat) (f : Cluster → Cluster) (m : Nat) : (s.modCluster n f).port m = s.port m := rfl
@[simp] theorem State.modCluster_get_die (s : State) (n : Nat) (f : Cluster → Cluster) (m : Nat) : (s.modCluster n f).die m = s.die m := rfl
@[simp] theorem State.modCluster_get_node (s : State) (n : Nat) (f : Cluster → Cluster) (m : Nat) : (s.modCluster n f).node m = s.node m := rfl
@[simp] theorem State.modCluster_get_complex (s : State) (n : Nat) (f : Cluster → Cluster) (m : Nat) : (s.modCluster n f).complex m = s.complex m := rfl
@[simp] theorem State.modCluster_get_hostPort (s : State) (n : Nat) (f : Cluster → Cluster) (m : Nat) : (s.modCluster n f).hostPort m = s.hostPort m := rfl
@[simp] theorem State.modCluster_get_diePower (s : State) (n : Nat) (f : Cluster → Cluster) (m : Nat) : (s.modCluster n f).diePower m = s.diePower m := rfl
@[simp] theorem State.modCluster_get_stream (s : State) (n : Nat) (f : Cluster → Cluster) (m : Nat) : (s.modCluster n f).stream m = s.stream m := rfl
@[simp] theorem State.modCluster_get_page (s : State) (n : Nat) (f : Cluster → Cluster) (m : Nat) : (s.modCluster n f).page m = s.page m := rfl
@[simp] theorem State.setEngine_now (s : State) (n : Nat) (v : Engine) : (s.setEngine n v).now = s.now := rfl
@[simp] theorem State.setEngine_free (s : State) (n : Nat) (v : Engine) : (s.setEngine n v).free = s.free := rfl
@[simp] theorem State.setEngine_kAbsent (s : State) (n : Nat) (v : Engine) : (s.setEngine n v).kAbsent = s.kAbsent := rfl
@[simp] theorem State.setEngine_boot (s : State) (n : Nat) (v : Engine) : (s.setEngine n v).boot = s.boot := rfl
@[simp] theorem State.setEngine_aon (s : State) (n : Nat) (v : Engine) : (s.setEngine n v).aon = s.aon := rfl
@[simp] theorem State.setEngine_power (s : State) (n : Nat) (v : Engine) : (s.setEngine n v).power = s.power := rfl
@[simp] theorem State.setEngine_dram (s : State) (n : Nat) (v : Engine) : (s.setEngine n v).dram = s.dram := rfl
@[simp] theorem State.setEngine_vis (s : State) (n : Nat) (v : Engine) : (s.setEngine n v).vis = s.vis := rfl
@[simp] theorem State.setEngine_wins (s : State) (n : Nat) (v : Engine) : (s.setEngine n v).wins = s.wins := rfl
@[simp] theorem State.setEngine_exts (s : State) (n : Nat) (v : Engine) : (s.setEngine n v).exts = s.exts := rfl
@[simp] theorem State.setEngine_home (s : State) (n : Nat) (v : Engine) : (s.setEngine n v).home = s.home := rfl
@[simp] theorem State.setEngine_regions (s : State) (n : Nat) (v : Engine) : (s.setEngine n v).regions = s.regions := rfl
@[simp] theorem State.setEngine_clusters (s : State) (n : Nat) (v : Engine) : (s.setEngine n v).clusters = s.clusters := rfl
@[simp] theorem State.setEngine_chans (s : State) (n : Nat) (v : Engine) : (s.setEngine n v).chans = s.chans := rfl
@[simp] theorem State.setEngine_streams (s : State) (n : Nat) (v : Engine) : (s.setEngine n v).streams = s.streams := rfl
@[simp] theorem State.setEngine_progs (s : State) (n : Nat) (v : Engine) : (s.setEngine n v).progs = s.progs := rfl
@[simp] theorem State.setEngine_waiting (s : State) (n : Nat) (v : Engine) : (s.setEngine n v).waiting = s.waiting := rfl
@[simp] theorem State.setEngine_opLooks (s : State) (n : Nat) (v : Engine) : (s.setEngine n v).opLooks = s.opLooks := rfl
@[simp] theorem State.setEngine_reqNo (s : State) (n : Nat) (v : Engine) : (s.setEngine n v).reqNo = s.reqNo := rfl
@[simp] theorem State.setEngine_outbox (s : State) (n : Nat) (v : Engine) : (s.setEngine n v).outbox = s.outbox := rfl
@[simp] theorem State.setEngine_fabric (s : State) (n : Nat) (v : Engine) : (s.setEngine n v).fabric = s.fabric := rfl
@[simp] theorem State.setEngine_sched (s : State) (n : Nat) (v : Engine) : (s.setEngine n v).sched = s.sched := rfl
@[simp] theorem State.setEngine_pair (s : State) (n : Nat) (v : Engine) : (s.setEngine n v).pair = s.pair := rfl
@[simp] theorem State.setEngine_cyc (s : State) (n : Nat) (v : Engine) : (s.setEngine n v).cyc = s.cyc := rfl
@[simp] theorem State.setEngine_complexes (s : State) (n : Nat) (v : Engine) : (s.setEngine n v).complexes = s.complexes := rfl
@[simp] theorem State.setEngine_hostPorts (s : State) (n : Nat) (v : Engine) : (s.setEngine n v).hostPorts = s.hostPorts := rfl
@[simp] theorem State.setEngine_revokes (s : State) (n : Nat) (v : Engine) : (s.setEngine n v).revokes = s.revokes := rfl
@[simp] theorem State.setEngine_drains (s : State) (n : Nat) (v : Engine) : (s.setEngine n v).drains = s.drains := rfl
@[simp] theorem State.setEngine_log (s : State) (n : Nat) (v : Engine) : (s.setEngine n v).log = s.log := rfl
@[simp] theorem State.setEngine_pending (s : State) (n : Nat) (v : Engine) : (s.setEngine n v).pending = s.pending := rfl
@[simp] theorem State.setEngine_get_vi (s : State) (n : Nat) (v : Engine) (m : Nat) : (s.setEngine n v).vi m = s.vi m := rfl
@[simp] theorem State.setEngine_get_win (s : State) (n : Nat) (v : Engine) (m : Nat) : (s.setEngine n v).win m = s.win m := rfl
@[simp] theorem State.setEngine_get_ext (s : State) (n : Nat) (v : Engine) (m : Nat) : (s.setEngine n v).ext m = s.ext m := rfl
@[simp] theorem State.setEngine_get_region (s : State) (n : Nat) (v : Engine) (m : Nat) : (s.setEngine n v).region m = s.region m := rfl
@[simp] theorem State.setEngine_get_cluster (s : State) (n : Nat) (v : Engine) (m : Nat) : (s.setEngine n v).cluster m = s.cluster m := rfl
@[simp] theorem State.setEngine_get_chan (s : State) (n : Nat) (v : Engine) (m : Nat) : (s.setEngine n v).chan m = s.chan m := rfl
@[simp] theorem State.setEngine_get_port (s : State) (n : Nat) (v : Engine) (m : Nat) : (s.setEngine n v).port m = s.port m := rfl
@[simp] theorem State.setEngine_get_die (s : State) (n : Nat) (v : Engine) (m : Nat) : (s.setEngine n v).die m = s.die m := rfl
@[simp] theorem State.setEngine_get_node (s : State) (n : Nat) (v : Engine) (m : Nat) : (s.setEngine n v).node m = s.node m := rfl
@[simp] theorem State.setEngine_get_complex (s : State) (n : Nat) (v : Engine) (m : Nat) : (s.setEngine n v).complex m = s.complex m := rfl
@[simp] theorem State.setEngine_get_hostPort (s : State) (n : Nat) (v : Engine) (m : Nat) : (s.setEngine n v).hostPort m = s.hostPort m := rfl
@[simp] theorem State.setEngine_get_diePower (s : State) (n : Nat) (v : Engine) (m : Nat) : (s.setEngine n v).diePower m = s.diePower m := rfl
@[simp] theorem State.setEngine_get_stream (s : State) (n : Nat) (v : Engine) (m : Nat) : (s.setEngine n v).stream m = s.stream m := rfl
@[simp] theorem State.setEngine_get_page (s : State) (n : Nat) (v : Engine) (m : Nat) : (s.setEngine n v).page m = s.page m := rfl
@[simp] theorem State.modEngine_now (s : State) (n : Nat) (f : Engine → Engine) : (s.modEngine n f).now = s.now := rfl
@[simp] theorem State.modEngine_free (s : State) (n : Nat) (f : Engine → Engine) : (s.modEngine n f).free = s.free := rfl
@[simp] theorem State.modEngine_kAbsent (s : State) (n : Nat) (f : Engine → Engine) : (s.modEngine n f).kAbsent = s.kAbsent := rfl
@[simp] theorem State.modEngine_boot (s : State) (n : Nat) (f : Engine → Engine) : (s.modEngine n f).boot = s.boot := rfl
@[simp] theorem State.modEngine_aon (s : State) (n : Nat) (f : Engine → Engine) : (s.modEngine n f).aon = s.aon := rfl
@[simp] theorem State.modEngine_power (s : State) (n : Nat) (f : Engine → Engine) : (s.modEngine n f).power = s.power := rfl
@[simp] theorem State.modEngine_dram (s : State) (n : Nat) (f : Engine → Engine) : (s.modEngine n f).dram = s.dram := rfl
@[simp] theorem State.modEngine_vis (s : State) (n : Nat) (f : Engine → Engine) : (s.modEngine n f).vis = s.vis := rfl
@[simp] theorem State.modEngine_wins (s : State) (n : Nat) (f : Engine → Engine) : (s.modEngine n f).wins = s.wins := rfl
@[simp] theorem State.modEngine_exts (s : State) (n : Nat) (f : Engine → Engine) : (s.modEngine n f).exts = s.exts := rfl
@[simp] theorem State.modEngine_home (s : State) (n : Nat) (f : Engine → Engine) : (s.modEngine n f).home = s.home := rfl
@[simp] theorem State.modEngine_regions (s : State) (n : Nat) (f : Engine → Engine) : (s.modEngine n f).regions = s.regions := rfl
@[simp] theorem State.modEngine_clusters (s : State) (n : Nat) (f : Engine → Engine) : (s.modEngine n f).clusters = s.clusters := rfl
@[simp] theorem State.modEngine_chans (s : State) (n : Nat) (f : Engine → Engine) : (s.modEngine n f).chans = s.chans := rfl
@[simp] theorem State.modEngine_streams (s : State) (n : Nat) (f : Engine → Engine) : (s.modEngine n f).streams = s.streams := rfl
@[simp] theorem State.modEngine_progs (s : State) (n : Nat) (f : Engine → Engine) : (s.modEngine n f).progs = s.progs := rfl
@[simp] theorem State.modEngine_waiting (s : State) (n : Nat) (f : Engine → Engine) : (s.modEngine n f).waiting = s.waiting := rfl
@[simp] theorem State.modEngine_opLooks (s : State) (n : Nat) (f : Engine → Engine) : (s.modEngine n f).opLooks = s.opLooks := rfl
@[simp] theorem State.modEngine_reqNo (s : State) (n : Nat) (f : Engine → Engine) : (s.modEngine n f).reqNo = s.reqNo := rfl
@[simp] theorem State.modEngine_outbox (s : State) (n : Nat) (f : Engine → Engine) : (s.modEngine n f).outbox = s.outbox := rfl
@[simp] theorem State.modEngine_fabric (s : State) (n : Nat) (f : Engine → Engine) : (s.modEngine n f).fabric = s.fabric := rfl
@[simp] theorem State.modEngine_sched (s : State) (n : Nat) (f : Engine → Engine) : (s.modEngine n f).sched = s.sched := rfl
@[simp] theorem State.modEngine_pair (s : State) (n : Nat) (f : Engine → Engine) : (s.modEngine n f).pair = s.pair := rfl
@[simp] theorem State.modEngine_cyc (s : State) (n : Nat) (f : Engine → Engine) : (s.modEngine n f).cyc = s.cyc := rfl
@[simp] theorem State.modEngine_complexes (s : State) (n : Nat) (f : Engine → Engine) : (s.modEngine n f).complexes = s.complexes := rfl
@[simp] theorem State.modEngine_hostPorts (s : State) (n : Nat) (f : Engine → Engine) : (s.modEngine n f).hostPorts = s.hostPorts := rfl
@[simp] theorem State.modEngine_revokes (s : State) (n : Nat) (f : Engine → Engine) : (s.modEngine n f).revokes = s.revokes := rfl
@[simp] theorem State.modEngine_drains (s : State) (n : Nat) (f : Engine → Engine) : (s.modEngine n f).drains = s.drains := rfl
@[simp] theorem State.modEngine_log (s : State) (n : Nat) (f : Engine → Engine) : (s.modEngine n f).log = s.log := rfl
@[simp] theorem State.modEngine_pending (s : State) (n : Nat) (f : Engine → Engine) : (s.modEngine n f).pending = s.pending := rfl
@[simp] theorem State.modEngine_get_vi (s : State) (n : Nat) (f : Engine → Engine) (m : Nat) : (s.modEngine n f).vi m = s.vi m := rfl
@[simp] theorem State.modEngine_get_win (s : State) (n : Nat) (f : Engine → Engine) (m : Nat) : (s.modEngine n f).win m = s.win m := rfl
@[simp] theorem State.modEngine_get_ext (s : State) (n : Nat) (f : Engine → Engine) (m : Nat) : (s.modEngine n f).ext m = s.ext m := rfl
@[simp] theorem State.modEngine_get_region (s : State) (n : Nat) (f : Engine → Engine) (m : Nat) : (s.modEngine n f).region m = s.region m := rfl
@[simp] theorem State.modEngine_get_cluster (s : State) (n : Nat) (f : Engine → Engine) (m : Nat) : (s.modEngine n f).cluster m = s.cluster m := rfl
@[simp] theorem State.modEngine_get_chan (s : State) (n : Nat) (f : Engine → Engine) (m : Nat) : (s.modEngine n f).chan m = s.chan m := rfl
@[simp] theorem State.modEngine_get_port (s : State) (n : Nat) (f : Engine → Engine) (m : Nat) : (s.modEngine n f).port m = s.port m := rfl
@[simp] theorem State.modEngine_get_die (s : State) (n : Nat) (f : Engine → Engine) (m : Nat) : (s.modEngine n f).die m = s.die m := rfl
@[simp] theorem State.modEngine_get_node (s : State) (n : Nat) (f : Engine → Engine) (m : Nat) : (s.modEngine n f).node m = s.node m := rfl
@[simp] theorem State.modEngine_get_complex (s : State) (n : Nat) (f : Engine → Engine) (m : Nat) : (s.modEngine n f).complex m = s.complex m := rfl
@[simp] theorem State.modEngine_get_hostPort (s : State) (n : Nat) (f : Engine → Engine) (m : Nat) : (s.modEngine n f).hostPort m = s.hostPort m := rfl
@[simp] theorem State.modEngine_get_diePower (s : State) (n : Nat) (f : Engine → Engine) (m : Nat) : (s.modEngine n f).diePower m = s.diePower m := rfl
@[simp] theorem State.modEngine_get_stream (s : State) (n : Nat) (f : Engine → Engine) (m : Nat) : (s.modEngine n f).stream m = s.stream m := rfl
@[simp] theorem State.modEngine_get_page (s : State) (n : Nat) (f : Engine → Engine) (m : Nat) : (s.modEngine n f).page m = s.page m := rfl
@[simp] theorem State.setChan_now (s : State) (n : Nat) (v : Chan) : (s.setChan n v).now = s.now := rfl
@[simp] theorem State.setChan_free (s : State) (n : Nat) (v : Chan) : (s.setChan n v).free = s.free := rfl
@[simp] theorem State.setChan_kAbsent (s : State) (n : Nat) (v : Chan) : (s.setChan n v).kAbsent = s.kAbsent := rfl
@[simp] theorem State.setChan_boot (s : State) (n : Nat) (v : Chan) : (s.setChan n v).boot = s.boot := rfl
@[simp] theorem State.setChan_aon (s : State) (n : Nat) (v : Chan) : (s.setChan n v).aon = s.aon := rfl
@[simp] theorem State.setChan_power (s : State) (n : Nat) (v : Chan) : (s.setChan n v).power = s.power := rfl
@[simp] theorem State.setChan_dram (s : State) (n : Nat) (v : Chan) : (s.setChan n v).dram = s.dram := rfl
@[simp] theorem State.setChan_vis (s : State) (n : Nat) (v : Chan) : (s.setChan n v).vis = s.vis := rfl
@[simp] theorem State.setChan_wins (s : State) (n : Nat) (v : Chan) : (s.setChan n v).wins = s.wins := rfl
@[simp] theorem State.setChan_exts (s : State) (n : Nat) (v : Chan) : (s.setChan n v).exts = s.exts := rfl
@[simp] theorem State.setChan_home (s : State) (n : Nat) (v : Chan) : (s.setChan n v).home = s.home := rfl
@[simp] theorem State.setChan_regions (s : State) (n : Nat) (v : Chan) : (s.setChan n v).regions = s.regions := rfl
@[simp] theorem State.setChan_clusters (s : State) (n : Nat) (v : Chan) : (s.setChan n v).clusters = s.clusters := rfl
@[simp] theorem State.setChan_engines (s : State) (n : Nat) (v : Chan) : (s.setChan n v).engines = s.engines := rfl
@[simp] theorem State.setChan_streams (s : State) (n : Nat) (v : Chan) : (s.setChan n v).streams = s.streams := rfl
@[simp] theorem State.setChan_progs (s : State) (n : Nat) (v : Chan) : (s.setChan n v).progs = s.progs := rfl
@[simp] theorem State.setChan_waiting (s : State) (n : Nat) (v : Chan) : (s.setChan n v).waiting = s.waiting := rfl
@[simp] theorem State.setChan_opLooks (s : State) (n : Nat) (v : Chan) : (s.setChan n v).opLooks = s.opLooks := rfl
@[simp] theorem State.setChan_reqNo (s : State) (n : Nat) (v : Chan) : (s.setChan n v).reqNo = s.reqNo := rfl
@[simp] theorem State.setChan_outbox (s : State) (n : Nat) (v : Chan) : (s.setChan n v).outbox = s.outbox := rfl
@[simp] theorem State.setChan_fabric (s : State) (n : Nat) (v : Chan) : (s.setChan n v).fabric = s.fabric := rfl
@[simp] theorem State.setChan_sched (s : State) (n : Nat) (v : Chan) : (s.setChan n v).sched = s.sched := rfl
@[simp] theorem State.setChan_pair (s : State) (n : Nat) (v : Chan) : (s.setChan n v).pair = s.pair := rfl
@[simp] theorem State.setChan_cyc (s : State) (n : Nat) (v : Chan) : (s.setChan n v).cyc = s.cyc := rfl
@[simp] theorem State.setChan_complexes (s : State) (n : Nat) (v : Chan) : (s.setChan n v).complexes = s.complexes := rfl
@[simp] theorem State.setChan_hostPorts (s : State) (n : Nat) (v : Chan) : (s.setChan n v).hostPorts = s.hostPorts := rfl
@[simp] theorem State.setChan_revokes (s : State) (n : Nat) (v : Chan) : (s.setChan n v).revokes = s.revokes := rfl
@[simp] theorem State.setChan_drains (s : State) (n : Nat) (v : Chan) : (s.setChan n v).drains = s.drains := rfl
@[simp] theorem State.setChan_log (s : State) (n : Nat) (v : Chan) : (s.setChan n v).log = s.log := rfl
@[simp] theorem State.setChan_pending (s : State) (n : Nat) (v : Chan) : (s.setChan n v).pending = s.pending := rfl
@[simp] theorem State.setChan_get_vi (s : State) (n : Nat) (v : Chan) (m : Nat) : (s.setChan n v).vi m = s.vi m := rfl
@[simp] theorem State.setChan_get_win (s : State) (n : Nat) (v : Chan) (m : Nat) : (s.setChan n v).win m = s.win m := rfl
@[simp] theorem State.setChan_get_ext (s : State) (n : Nat) (v : Chan) (m : Nat) : (s.setChan n v).ext m = s.ext m := rfl
@[simp] theorem State.setChan_get_region (s : State) (n : Nat) (v : Chan) (m : Nat) : (s.setChan n v).region m = s.region m := rfl
@[simp] theorem State.setChan_get_cluster (s : State) (n : Nat) (v : Chan) (m : Nat) : (s.setChan n v).cluster m = s.cluster m := rfl
@[simp] theorem State.setChan_get_engine (s : State) (n : Nat) (v : Chan) (m : Nat) : (s.setChan n v).engine m = s.engine m := rfl
@[simp] theorem State.setChan_get_port (s : State) (n : Nat) (v : Chan) (m : Nat) : (s.setChan n v).port m = s.port m := rfl
@[simp] theorem State.setChan_get_die (s : State) (n : Nat) (v : Chan) (m : Nat) : (s.setChan n v).die m = s.die m := rfl
@[simp] theorem State.setChan_get_node (s : State) (n : Nat) (v : Chan) (m : Nat) : (s.setChan n v).node m = s.node m := rfl
@[simp] theorem State.setChan_get_complex (s : State) (n : Nat) (v : Chan) (m : Nat) : (s.setChan n v).complex m = s.complex m := rfl
@[simp] theorem State.setChan_get_hostPort (s : State) (n : Nat) (v : Chan) (m : Nat) : (s.setChan n v).hostPort m = s.hostPort m := rfl
@[simp] theorem State.setChan_get_diePower (s : State) (n : Nat) (v : Chan) (m : Nat) : (s.setChan n v).diePower m = s.diePower m := rfl
@[simp] theorem State.setChan_get_stream (s : State) (n : Nat) (v : Chan) (m : Nat) : (s.setChan n v).stream m = s.stream m := rfl
@[simp] theorem State.setChan_get_page (s : State) (n : Nat) (v : Chan) (m : Nat) : (s.setChan n v).page m = s.page m := rfl
@[simp] theorem State.modChan_now (s : State) (n : Nat) (f : Chan → Chan) : (s.modChan n f).now = s.now := rfl
@[simp] theorem State.modChan_free (s : State) (n : Nat) (f : Chan → Chan) : (s.modChan n f).free = s.free := rfl
@[simp] theorem State.modChan_kAbsent (s : State) (n : Nat) (f : Chan → Chan) : (s.modChan n f).kAbsent = s.kAbsent := rfl
@[simp] theorem State.modChan_boot (s : State) (n : Nat) (f : Chan → Chan) : (s.modChan n f).boot = s.boot := rfl
@[simp] theorem State.modChan_aon (s : State) (n : Nat) (f : Chan → Chan) : (s.modChan n f).aon = s.aon := rfl
@[simp] theorem State.modChan_power (s : State) (n : Nat) (f : Chan → Chan) : (s.modChan n f).power = s.power := rfl
@[simp] theorem State.modChan_dram (s : State) (n : Nat) (f : Chan → Chan) : (s.modChan n f).dram = s.dram := rfl
@[simp] theorem State.modChan_vis (s : State) (n : Nat) (f : Chan → Chan) : (s.modChan n f).vis = s.vis := rfl
@[simp] theorem State.modChan_wins (s : State) (n : Nat) (f : Chan → Chan) : (s.modChan n f).wins = s.wins := rfl
@[simp] theorem State.modChan_exts (s : State) (n : Nat) (f : Chan → Chan) : (s.modChan n f).exts = s.exts := rfl
@[simp] theorem State.modChan_home (s : State) (n : Nat) (f : Chan → Chan) : (s.modChan n f).home = s.home := rfl
@[simp] theorem State.modChan_regions (s : State) (n : Nat) (f : Chan → Chan) : (s.modChan n f).regions = s.regions := rfl
@[simp] theorem State.modChan_clusters (s : State) (n : Nat) (f : Chan → Chan) : (s.modChan n f).clusters = s.clusters := rfl
@[simp] theorem State.modChan_engines (s : State) (n : Nat) (f : Chan → Chan) : (s.modChan n f).engines = s.engines := rfl
@[simp] theorem State.modChan_streams (s : State) (n : Nat) (f : Chan → Chan) : (s.modChan n f).streams = s.streams := rfl
@[simp] theorem State.modChan_progs (s : State) (n : Nat) (f : Chan → Chan) : (s.modChan n f).progs = s.progs := rfl
@[simp] theorem State.modChan_waiting (s : State) (n : Nat) (f : Chan → Chan) : (s.modChan n f).waiting = s.waiting := rfl
@[simp] theorem State.modChan_opLooks (s : State) (n : Nat) (f : Chan → Chan) : (s.modChan n f).opLooks = s.opLooks := rfl
@[simp] theorem State.modChan_reqNo (s : State) (n : Nat) (f : Chan → Chan) : (s.modChan n f).reqNo = s.reqNo := rfl
@[simp] theorem State.modChan_outbox (s : State) (n : Nat) (f : Chan → Chan) : (s.modChan n f).outbox = s.outbox := rfl
@[simp] theorem State.modChan_fabric (s : State) (n : Nat) (f : Chan → Chan) : (s.modChan n f).fabric = s.fabric := rfl
@[simp] theorem State.modChan_sched (s : State) (n : Nat) (f : Chan → Chan) : (s.modChan n f).sched = s.sched := rfl
@[simp] theorem State.modChan_pair (s : State) (n : Nat) (f : Chan → Chan) : (s.modChan n f).pair = s.pair := rfl
@[simp] theorem State.modChan_cyc (s : State) (n : Nat) (f : Chan → Chan) : (s.modChan n f).cyc = s.cyc := rfl
@[simp] theorem State.modChan_complexes (s : State) (n : Nat) (f : Chan → Chan) : (s.modChan n f).complexes = s.complexes := rfl
@[simp] theorem State.modChan_hostPorts (s : State) (n : Nat) (f : Chan → Chan) : (s.modChan n f).hostPorts = s.hostPorts := rfl
@[simp] theorem State.modChan_revokes (s : State) (n : Nat) (f : Chan → Chan) : (s.modChan n f).revokes = s.revokes := rfl
@[simp] theorem State.modChan_drains (s : State) (n : Nat) (f : Chan → Chan) : (s.modChan n f).drains = s.drains := rfl
@[simp] theorem State.modChan_log (s : State) (n : Nat) (f : Chan → Chan) : (s.modChan n f).log = s.log := rfl
@[simp] theorem State.modChan_pending (s : State) (n : Nat) (f : Chan → Chan) : (s.modChan n f).pending = s.pending := rfl
@[simp] theorem State.modChan_get_vi (s : State) (n : Nat) (f : Chan → Chan) (m : Nat) : (s.modChan n f).vi m = s.vi m := rfl
@[simp] theorem State.modChan_get_win (s : State) (n : Nat) (f : Chan → Chan) (m : Nat) : (s.modChan n f).win m = s.win m := rfl
@[simp] theorem State.modChan_get_ext (s : State) (n : Nat) (f : Chan → Chan) (m : Nat) : (s.modChan n f).ext m = s.ext m := rfl
@[simp] theorem State.modChan_get_region (s : State) (n : Nat) (f : Chan → Chan) (m : Nat) : (s.modChan n f).region m = s.region m := rfl
@[simp] theorem State.modChan_get_cluster (s : State) (n : Nat) (f : Chan → Chan) (m : Nat) : (s.modChan n f).cluster m = s.cluster m := rfl
@[simp] theorem State.modChan_get_engine (s : State) (n : Nat) (f : Chan → Chan) (m : Nat) : (s.modChan n f).engine m = s.engine m := rfl
@[simp] theorem State.modChan_get_port (s : State) (n : Nat) (f : Chan → Chan) (m : Nat) : (s.modChan n f).port m = s.port m := rfl
@[simp] theorem State.modChan_get_die (s : State) (n : Nat) (f : Chan → Chan) (m : Nat) : (s.modChan n f).die m = s.die m := rfl
@[simp] theorem State.modChan_get_node (s : State) (n : Nat) (f : Chan → Chan) (m : Nat) : (s.modChan n f).node m = s.node m := rfl
@[simp] theorem State.modChan_get_complex (s : State) (n : Nat) (f : Chan → Chan) (m : Nat) : (s.modChan n f).complex m = s.complex m := rfl
@[simp] theorem State.modChan_get_hostPort (s : State) (n : Nat) (f : Chan → Chan) (m : Nat) : (s.modChan n f).hostPort m = s.hostPort m := rfl
@[simp] theorem State.modChan_get_diePower (s : State) (n : Nat) (f : Chan → Chan) (m : Nat) : (s.modChan n f).diePower m = s.diePower m := rfl
@[simp] theorem State.modChan_get_stream (s : State) (n : Nat) (f : Chan → Chan) (m : Nat) : (s.modChan n f).stream m = s.stream m := rfl
@[simp] theorem State.modChan_get_page (s : State) (n : Nat) (f : Chan → Chan) (m : Nat) : (s.modChan n f).page m = s.page m := rfl
@[simp] theorem State.setPort_now (s : State) (n : Nat) (v : Port) : (s.setPort n v).now = s.now := rfl
@[simp] theorem State.setPort_free (s : State) (n : Nat) (v : Port) : (s.setPort n v).free = s.free := rfl
@[simp] theorem State.setPort_kAbsent (s : State) (n : Nat) (v : Port) : (s.setPort n v).kAbsent = s.kAbsent := rfl
@[simp] theorem State.setPort_boot (s : State) (n : Nat) (v : Port) : (s.setPort n v).boot = s.boot := rfl
@[simp] theorem State.setPort_aon (s : State) (n : Nat) (v : Port) : (s.setPort n v).aon = s.aon := rfl
@[simp] theorem State.setPort_power (s : State) (n : Nat) (v : Port) : (s.setPort n v).power = s.power := rfl
@[simp] theorem State.setPort_dram (s : State) (n : Nat) (v : Port) : (s.setPort n v).dram = s.dram := rfl
@[simp] theorem State.setPort_vis (s : State) (n : Nat) (v : Port) : (s.setPort n v).vis = s.vis := rfl
@[simp] theorem State.setPort_wins (s : State) (n : Nat) (v : Port) : (s.setPort n v).wins = s.wins := rfl
@[simp] theorem State.setPort_exts (s : State) (n : Nat) (v : Port) : (s.setPort n v).exts = s.exts := rfl
@[simp] theorem State.setPort_home (s : State) (n : Nat) (v : Port) : (s.setPort n v).home = s.home := rfl
@[simp] theorem State.setPort_regions (s : State) (n : Nat) (v : Port) : (s.setPort n v).regions = s.regions := rfl
@[simp] theorem State.setPort_clusters (s : State) (n : Nat) (v : Port) : (s.setPort n v).clusters = s.clusters := rfl
@[simp] theorem State.setPort_engines (s : State) (n : Nat) (v : Port) : (s.setPort n v).engines = s.engines := rfl
@[simp] theorem State.setPort_chans (s : State) (n : Nat) (v : Port) : (s.setPort n v).chans = s.chans := rfl
@[simp] theorem State.setPort_streams (s : State) (n : Nat) (v : Port) : (s.setPort n v).streams = s.streams := rfl
@[simp] theorem State.setPort_progs (s : State) (n : Nat) (v : Port) : (s.setPort n v).progs = s.progs := rfl
@[simp] theorem State.setPort_waiting (s : State) (n : Nat) (v : Port) : (s.setPort n v).waiting = s.waiting := rfl
@[simp] theorem State.setPort_opLooks (s : State) (n : Nat) (v : Port) : (s.setPort n v).opLooks = s.opLooks := rfl
@[simp] theorem State.setPort_reqNo (s : State) (n : Nat) (v : Port) : (s.setPort n v).reqNo = s.reqNo := rfl
@[simp] theorem State.setPort_outbox (s : State) (n : Nat) (v : Port) : (s.setPort n v).outbox = s.outbox := rfl
@[simp] theorem State.setPort_sched (s : State) (n : Nat) (v : Port) : (s.setPort n v).sched = s.sched := rfl
@[simp] theorem State.setPort_pair (s : State) (n : Nat) (v : Port) : (s.setPort n v).pair = s.pair := rfl
@[simp] theorem State.setPort_cyc (s : State) (n : Nat) (v : Port) : (s.setPort n v).cyc = s.cyc := rfl
@[simp] theorem State.setPort_complexes (s : State) (n : Nat) (v : Port) : (s.setPort n v).complexes = s.complexes := rfl
@[simp] theorem State.setPort_hostPorts (s : State) (n : Nat) (v : Port) : (s.setPort n v).hostPorts = s.hostPorts := rfl
@[simp] theorem State.setPort_revokes (s : State) (n : Nat) (v : Port) : (s.setPort n v).revokes = s.revokes := rfl
@[simp] theorem State.setPort_drains (s : State) (n : Nat) (v : Port) : (s.setPort n v).drains = s.drains := rfl
@[simp] theorem State.setPort_log (s : State) (n : Nat) (v : Port) : (s.setPort n v).log = s.log := rfl
@[simp] theorem State.setPort_pending (s : State) (n : Nat) (v : Port) : (s.setPort n v).pending = s.pending := rfl
@[simp] theorem State.setPort_get_vi (s : State) (n : Nat) (v : Port) (m : Nat) : (s.setPort n v).vi m = s.vi m := rfl
@[simp] theorem State.setPort_get_win (s : State) (n : Nat) (v : Port) (m : Nat) : (s.setPort n v).win m = s.win m := rfl
@[simp] theorem State.setPort_get_ext (s : State) (n : Nat) (v : Port) (m : Nat) : (s.setPort n v).ext m = s.ext m := rfl
@[simp] theorem State.setPort_get_region (s : State) (n : Nat) (v : Port) (m : Nat) : (s.setPort n v).region m = s.region m := rfl
@[simp] theorem State.setPort_get_cluster (s : State) (n : Nat) (v : Port) (m : Nat) : (s.setPort n v).cluster m = s.cluster m := rfl
@[simp] theorem State.setPort_get_engine (s : State) (n : Nat) (v : Port) (m : Nat) : (s.setPort n v).engine m = s.engine m := rfl
@[simp] theorem State.setPort_get_chan (s : State) (n : Nat) (v : Port) (m : Nat) : (s.setPort n v).chan m = s.chan m := rfl
@[simp] theorem State.setPort_get_complex (s : State) (n : Nat) (v : Port) (m : Nat) : (s.setPort n v).complex m = s.complex m := rfl
@[simp] theorem State.setPort_get_hostPort (s : State) (n : Nat) (v : Port) (m : Nat) : (s.setPort n v).hostPort m = s.hostPort m := rfl
@[simp] theorem State.setPort_get_diePower (s : State) (n : Nat) (v : Port) (m : Nat) : (s.setPort n v).diePower m = s.diePower m := rfl
@[simp] theorem State.setPort_get_stream (s : State) (n : Nat) (v : Port) (m : Nat) : (s.setPort n v).stream m = s.stream m := rfl
@[simp] theorem State.setPort_get_page (s : State) (n : Nat) (v : Port) (m : Nat) : (s.setPort n v).page m = s.page m := rfl
@[simp] theorem State.modPort_now (s : State) (n : Nat) (f : Port → Port) : (s.modPort n f).now = s.now := rfl
@[simp] theorem State.modPort_free (s : State) (n : Nat) (f : Port → Port) : (s.modPort n f).free = s.free := rfl
@[simp] theorem State.modPort_kAbsent (s : State) (n : Nat) (f : Port → Port) : (s.modPort n f).kAbsent = s.kAbsent := rfl
@[simp] theorem State.modPort_boot (s : State) (n : Nat) (f : Port → Port) : (s.modPort n f).boot = s.boot := rfl
@[simp] theorem State.modPort_aon (s : State) (n : Nat) (f : Port → Port) : (s.modPort n f).aon = s.aon := rfl
@[simp] theorem State.modPort_power (s : State) (n : Nat) (f : Port → Port) : (s.modPort n f).power = s.power := rfl
@[simp] theorem State.modPort_dram (s : State) (n : Nat) (f : Port → Port) : (s.modPort n f).dram = s.dram := rfl
@[simp] theorem State.modPort_vis (s : State) (n : Nat) (f : Port → Port) : (s.modPort n f).vis = s.vis := rfl
@[simp] theorem State.modPort_wins (s : State) (n : Nat) (f : Port → Port) : (s.modPort n f).wins = s.wins := rfl
@[simp] theorem State.modPort_exts (s : State) (n : Nat) (f : Port → Port) : (s.modPort n f).exts = s.exts := rfl
@[simp] theorem State.modPort_home (s : State) (n : Nat) (f : Port → Port) : (s.modPort n f).home = s.home := rfl
@[simp] theorem State.modPort_regions (s : State) (n : Nat) (f : Port → Port) : (s.modPort n f).regions = s.regions := rfl
@[simp] theorem State.modPort_clusters (s : State) (n : Nat) (f : Port → Port) : (s.modPort n f).clusters = s.clusters := rfl
@[simp] theorem State.modPort_engines (s : State) (n : Nat) (f : Port → Port) : (s.modPort n f).engines = s.engines := rfl
@[simp] theorem State.modPort_chans (s : State) (n : Nat) (f : Port → Port) : (s.modPort n f).chans = s.chans := rfl
@[simp] theorem State.modPort_streams (s : State) (n : Nat) (f : Port → Port) : (s.modPort n f).streams = s.streams := rfl
@[simp] theorem State.modPort_progs (s : State) (n : Nat) (f : Port → Port) : (s.modPort n f).progs = s.progs := rfl
@[simp] theorem State.modPort_waiting (s : State) (n : Nat) (f : Port → Port) : (s.modPort n f).waiting = s.waiting := rfl
@[simp] theorem State.modPort_opLooks (s : State) (n : Nat) (f : Port → Port) : (s.modPort n f).opLooks = s.opLooks := rfl
@[simp] theorem State.modPort_reqNo (s : State) (n : Nat) (f : Port → Port) : (s.modPort n f).reqNo = s.reqNo := rfl
@[simp] theorem State.modPort_outbox (s : State) (n : Nat) (f : Port → Port) : (s.modPort n f).outbox = s.outbox := rfl
@[simp] theorem State.modPort_sched (s : State) (n : Nat) (f : Port → Port) : (s.modPort n f).sched = s.sched := rfl
@[simp] theorem State.modPort_pair (s : State) (n : Nat) (f : Port → Port) : (s.modPort n f).pair = s.pair := rfl
@[simp] theorem State.modPort_cyc (s : State) (n : Nat) (f : Port → Port) : (s.modPort n f).cyc = s.cyc := rfl
@[simp] theorem State.modPort_complexes (s : State) (n : Nat) (f : Port → Port) : (s.modPort n f).complexes = s.complexes := rfl
@[simp] theorem State.modPort_hostPorts (s : State) (n : Nat) (f : Port → Port) : (s.modPort n f).hostPorts = s.hostPorts := rfl
@[simp] theorem State.modPort_revokes (s : State) (n : Nat) (f : Port → Port) : (s.modPort n f).revokes = s.revokes := rfl
@[simp] theorem State.modPort_drains (s : State) (n : Nat) (f : Port → Port) : (s.modPort n f).drains = s.drains := rfl
@[simp] theorem State.modPort_log (s : State) (n : Nat) (f : Port → Port) : (s.modPort n f).log = s.log := rfl
@[simp] theorem State.modPort_pending (s : State) (n : Nat) (f : Port → Port) : (s.modPort n f).pending = s.pending := rfl
@[simp] theorem State.modPort_get_vi (s : State) (n : Nat) (f : Port → Port) (m : Nat) : (s.modPort n f).vi m = s.vi m := rfl
@[simp] theorem State.modPort_get_win (s : State) (n : Nat) (f : Port → Port) (m : Nat) : (s.modPort n f).win m = s.win m := rfl
@[simp] theorem State.modPort_get_ext (s : State) (n : Nat) (f : Port → Port) (m : Nat) : (s.modPort n f).ext m = s.ext m := rfl
@[simp] theorem State.modPort_get_region (s : State) (n : Nat) (f : Port → Port) (m : Nat) : (s.modPort n f).region m = s.region m := rfl
@[simp] theorem State.modPort_get_cluster (s : State) (n : Nat) (f : Port → Port) (m : Nat) : (s.modPort n f).cluster m = s.cluster m := rfl
@[simp] theorem State.modPort_get_engine (s : State) (n : Nat) (f : Port → Port) (m : Nat) : (s.modPort n f).engine m = s.engine m := rfl
@[simp] theorem State.modPort_get_chan (s : State) (n : Nat) (f : Port → Port) (m : Nat) : (s.modPort n f).chan m = s.chan m := rfl
@[simp] theorem State.modPort_get_complex (s : State) (n : Nat) (f : Port → Port) (m : Nat) : (s.modPort n f).complex m = s.complex m := rfl
@[simp] theorem State.modPort_get_hostPort (s : State) (n : Nat) (f : Port → Port) (m : Nat) : (s.modPort n f).hostPort m = s.hostPort m := rfl
@[simp] theorem State.modPort_get_diePower (s : State) (n : Nat) (f : Port → Port) (m : Nat) : (s.modPort n f).diePower m = s.diePower m := rfl
@[simp] theorem State.modPort_get_stream (s : State) (n : Nat) (f : Port → Port) (m : Nat) : (s.modPort n f).stream m = s.stream m := rfl
@[simp] theorem State.modPort_get_page (s : State) (n : Nat) (f : Port → Port) (m : Nat) : (s.modPort n f).page m = s.page m := rfl
@[simp] theorem State.setDie_now (s : State) (n : Nat) (v : LinkDie) : (s.setDie n v).now = s.now := rfl
@[simp] theorem State.setDie_free (s : State) (n : Nat) (v : LinkDie) : (s.setDie n v).free = s.free := rfl
@[simp] theorem State.setDie_kAbsent (s : State) (n : Nat) (v : LinkDie) : (s.setDie n v).kAbsent = s.kAbsent := rfl
@[simp] theorem State.setDie_boot (s : State) (n : Nat) (v : LinkDie) : (s.setDie n v).boot = s.boot := rfl
@[simp] theorem State.setDie_aon (s : State) (n : Nat) (v : LinkDie) : (s.setDie n v).aon = s.aon := rfl
@[simp] theorem State.setDie_power (s : State) (n : Nat) (v : LinkDie) : (s.setDie n v).power = s.power := rfl
@[simp] theorem State.setDie_dram (s : State) (n : Nat) (v : LinkDie) : (s.setDie n v).dram = s.dram := rfl
@[simp] theorem State.setDie_vis (s : State) (n : Nat) (v : LinkDie) : (s.setDie n v).vis = s.vis := rfl
@[simp] theorem State.setDie_wins (s : State) (n : Nat) (v : LinkDie) : (s.setDie n v).wins = s.wins := rfl
@[simp] theorem State.setDie_exts (s : State) (n : Nat) (v : LinkDie) : (s.setDie n v).exts = s.exts := rfl
@[simp] theorem State.setDie_home (s : State) (n : Nat) (v : LinkDie) : (s.setDie n v).home = s.home := rfl
@[simp] theorem State.setDie_regions (s : State) (n : Nat) (v : LinkDie) : (s.setDie n v).regions = s.regions := rfl
@[simp] theorem State.setDie_clusters (s : State) (n : Nat) (v : LinkDie) : (s.setDie n v).clusters = s.clusters := rfl
@[simp] theorem State.setDie_engines (s : State) (n : Nat) (v : LinkDie) : (s.setDie n v).engines = s.engines := rfl
@[simp] theorem State.setDie_chans (s : State) (n : Nat) (v : LinkDie) : (s.setDie n v).chans = s.chans := rfl
@[simp] theorem State.setDie_streams (s : State) (n : Nat) (v : LinkDie) : (s.setDie n v).streams = s.streams := rfl
@[simp] theorem State.setDie_progs (s : State) (n : Nat) (v : LinkDie) : (s.setDie n v).progs = s.progs := rfl
@[simp] theorem State.setDie_waiting (s : State) (n : Nat) (v : LinkDie) : (s.setDie n v).waiting = s.waiting := rfl
@[simp] theorem State.setDie_opLooks (s : State) (n : Nat) (v : LinkDie) : (s.setDie n v).opLooks = s.opLooks := rfl
@[simp] theorem State.setDie_reqNo (s : State) (n : Nat) (v : LinkDie) : (s.setDie n v).reqNo = s.reqNo := rfl
@[simp] theorem State.setDie_outbox (s : State) (n : Nat) (v : LinkDie) : (s.setDie n v).outbox = s.outbox := rfl
@[simp] theorem State.setDie_sched (s : State) (n : Nat) (v : LinkDie) : (s.setDie n v).sched = s.sched := rfl
@[simp] theorem State.setDie_pair (s : State) (n : Nat) (v : LinkDie) : (s.setDie n v).pair = s.pair := rfl
@[simp] theorem State.setDie_cyc (s : State) (n : Nat) (v : LinkDie) : (s.setDie n v).cyc = s.cyc := rfl
@[simp] theorem State.setDie_complexes (s : State) (n : Nat) (v : LinkDie) : (s.setDie n v).complexes = s.complexes := rfl
@[simp] theorem State.setDie_hostPorts (s : State) (n : Nat) (v : LinkDie) : (s.setDie n v).hostPorts = s.hostPorts := rfl
@[simp] theorem State.setDie_revokes (s : State) (n : Nat) (v : LinkDie) : (s.setDie n v).revokes = s.revokes := rfl
@[simp] theorem State.setDie_drains (s : State) (n : Nat) (v : LinkDie) : (s.setDie n v).drains = s.drains := rfl
@[simp] theorem State.setDie_log (s : State) (n : Nat) (v : LinkDie) : (s.setDie n v).log = s.log := rfl
@[simp] theorem State.setDie_pending (s : State) (n : Nat) (v : LinkDie) : (s.setDie n v).pending = s.pending := rfl
@[simp] theorem State.setDie_get_vi (s : State) (n : Nat) (v : LinkDie) (m : Nat) : (s.setDie n v).vi m = s.vi m := rfl
@[simp] theorem State.setDie_get_win (s : State) (n : Nat) (v : LinkDie) (m : Nat) : (s.setDie n v).win m = s.win m := rfl
@[simp] theorem State.setDie_get_ext (s : State) (n : Nat) (v : LinkDie) (m : Nat) : (s.setDie n v).ext m = s.ext m := rfl
@[simp] theorem State.setDie_get_region (s : State) (n : Nat) (v : LinkDie) (m : Nat) : (s.setDie n v).region m = s.region m := rfl
@[simp] theorem State.setDie_get_cluster (s : State) (n : Nat) (v : LinkDie) (m : Nat) : (s.setDie n v).cluster m = s.cluster m := rfl
@[simp] theorem State.setDie_get_engine (s : State) (n : Nat) (v : LinkDie) (m : Nat) : (s.setDie n v).engine m = s.engine m := rfl
@[simp] theorem State.setDie_get_chan (s : State) (n : Nat) (v : LinkDie) (m : Nat) : (s.setDie n v).chan m = s.chan m := rfl
@[simp] theorem State.setDie_get_complex (s : State) (n : Nat) (v : LinkDie) (m : Nat) : (s.setDie n v).complex m = s.complex m := rfl
@[simp] theorem State.setDie_get_hostPort (s : State) (n : Nat) (v : LinkDie) (m : Nat) : (s.setDie n v).hostPort m = s.hostPort m := rfl
@[simp] theorem State.setDie_get_diePower (s : State) (n : Nat) (v : LinkDie) (m : Nat) : (s.setDie n v).diePower m = s.diePower m := rfl
@[simp] theorem State.setDie_get_stream (s : State) (n : Nat) (v : LinkDie) (m : Nat) : (s.setDie n v).stream m = s.stream m := rfl
@[simp] theorem State.setDie_get_page (s : State) (n : Nat) (v : LinkDie) (m : Nat) : (s.setDie n v).page m = s.page m := rfl
@[simp] theorem State.modDie_now (s : State) (n : Nat) (f : LinkDie → LinkDie) : (s.modDie n f).now = s.now := rfl
@[simp] theorem State.modDie_free (s : State) (n : Nat) (f : LinkDie → LinkDie) : (s.modDie n f).free = s.free := rfl
@[simp] theorem State.modDie_kAbsent (s : State) (n : Nat) (f : LinkDie → LinkDie) : (s.modDie n f).kAbsent = s.kAbsent := rfl
@[simp] theorem State.modDie_boot (s : State) (n : Nat) (f : LinkDie → LinkDie) : (s.modDie n f).boot = s.boot := rfl
@[simp] theorem State.modDie_aon (s : State) (n : Nat) (f : LinkDie → LinkDie) : (s.modDie n f).aon = s.aon := rfl
@[simp] theorem State.modDie_power (s : State) (n : Nat) (f : LinkDie → LinkDie) : (s.modDie n f).power = s.power := rfl
@[simp] theorem State.modDie_dram (s : State) (n : Nat) (f : LinkDie → LinkDie) : (s.modDie n f).dram = s.dram := rfl
@[simp] theorem State.modDie_vis (s : State) (n : Nat) (f : LinkDie → LinkDie) : (s.modDie n f).vis = s.vis := rfl
@[simp] theorem State.modDie_wins (s : State) (n : Nat) (f : LinkDie → LinkDie) : (s.modDie n f).wins = s.wins := rfl
@[simp] theorem State.modDie_exts (s : State) (n : Nat) (f : LinkDie → LinkDie) : (s.modDie n f).exts = s.exts := rfl
@[simp] theorem State.modDie_home (s : State) (n : Nat) (f : LinkDie → LinkDie) : (s.modDie n f).home = s.home := rfl
@[simp] theorem State.modDie_regions (s : State) (n : Nat) (f : LinkDie → LinkDie) : (s.modDie n f).regions = s.regions := rfl
@[simp] theorem State.modDie_clusters (s : State) (n : Nat) (f : LinkDie → LinkDie) : (s.modDie n f).clusters = s.clusters := rfl
@[simp] theorem State.modDie_engines (s : State) (n : Nat) (f : LinkDie → LinkDie) : (s.modDie n f).engines = s.engines := rfl
@[simp] theorem State.modDie_chans (s : State) (n : Nat) (f : LinkDie → LinkDie) : (s.modDie n f).chans = s.chans := rfl
@[simp] theorem State.modDie_streams (s : State) (n : Nat) (f : LinkDie → LinkDie) : (s.modDie n f).streams = s.streams := rfl
@[simp] theorem State.modDie_progs (s : State) (n : Nat) (f : LinkDie → LinkDie) : (s.modDie n f).progs = s.progs := rfl
@[simp] theorem State.modDie_waiting (s : State) (n : Nat) (f : LinkDie → LinkDie) : (s.modDie n f).waiting = s.waiting := rfl
@[simp] theorem State.modDie_opLooks (s : State) (n : Nat) (f : LinkDie → LinkDie) : (s.modDie n f).opLooks = s.opLooks := rfl
@[simp] theorem State.modDie_reqNo (s : State) (n : Nat) (f : LinkDie → LinkDie) : (s.modDie n f).reqNo = s.reqNo := rfl
@[simp] theorem State.modDie_outbox (s : State) (n : Nat) (f : LinkDie → LinkDie) : (s.modDie n f).outbox = s.outbox := rfl
@[simp] theorem State.modDie_sched (s : State) (n : Nat) (f : LinkDie → LinkDie) : (s.modDie n f).sched = s.sched := rfl
@[simp] theorem State.modDie_pair (s : State) (n : Nat) (f : LinkDie → LinkDie) : (s.modDie n f).pair = s.pair := rfl
@[simp] theorem State.modDie_cyc (s : State) (n : Nat) (f : LinkDie → LinkDie) : (s.modDie n f).cyc = s.cyc := rfl
@[simp] theorem State.modDie_complexes (s : State) (n : Nat) (f : LinkDie → LinkDie) : (s.modDie n f).complexes = s.complexes := rfl
@[simp] theorem State.modDie_hostPorts (s : State) (n : Nat) (f : LinkDie → LinkDie) : (s.modDie n f).hostPorts = s.hostPorts := rfl
@[simp] theorem State.modDie_revokes (s : State) (n : Nat) (f : LinkDie → LinkDie) : (s.modDie n f).revokes = s.revokes := rfl
@[simp] theorem State.modDie_drains (s : State) (n : Nat) (f : LinkDie → LinkDie) : (s.modDie n f).drains = s.drains := rfl
@[simp] theorem State.modDie_log (s : State) (n : Nat) (f : LinkDie → LinkDie) : (s.modDie n f).log = s.log := rfl
@[simp] theorem State.modDie_pending (s : State) (n : Nat) (f : LinkDie → LinkDie) : (s.modDie n f).pending = s.pending := rfl
@[simp] theorem State.modDie_get_vi (s : State) (n : Nat) (f : LinkDie → LinkDie) (m : Nat) : (s.modDie n f).vi m = s.vi m := rfl
@[simp] theorem State.modDie_get_win (s : State) (n : Nat) (f : LinkDie → LinkDie) (m : Nat) : (s.modDie n f).win m = s.win m := rfl
@[simp] theorem State.modDie_get_ext (s : State) (n : Nat) (f : LinkDie → LinkDie) (m : Nat) : (s.modDie n f).ext m = s.ext m := rfl
@[simp] theorem State.modDie_get_region (s : State) (n : Nat) (f : LinkDie → LinkDie) (m : Nat) : (s.modDie n f).region m = s.region m := rfl
@[simp] theorem State.modDie_get_cluster (s : State) (n : Nat) (f : LinkDie → LinkDie) (m : Nat) : (s.modDie n f).cluster m = s.cluster m := rfl
@[simp] theorem State.modDie_get_engine (s : State) (n : Nat) (f : LinkDie → LinkDie) (m : Nat) : (s.modDie n f).engine m = s.engine m := rfl
@[simp] theorem State.modDie_get_chan (s : State) (n : Nat) (f : LinkDie → LinkDie) (m : Nat) : (s.modDie n f).chan m = s.chan m := rfl
@[simp] theorem State.modDie_get_complex (s : State) (n : Nat) (f : LinkDie → LinkDie) (m : Nat) : (s.modDie n f).complex m = s.complex m := rfl
@[simp] theorem State.modDie_get_hostPort (s : State) (n : Nat) (f : LinkDie → LinkDie) (m : Nat) : (s.modDie n f).hostPort m = s.hostPort m := rfl
@[simp] theorem State.modDie_get_diePower (s : State) (n : Nat) (f : LinkDie → LinkDie) (m : Nat) : (s.modDie n f).diePower m = s.diePower m := rfl
@[simp] theorem State.modDie_get_stream (s : State) (n : Nat) (f : LinkDie → LinkDie) (m : Nat) : (s.modDie n f).stream m = s.stream m := rfl
@[simp] theorem State.modDie_get_page (s : State) (n : Nat) (f : LinkDie → LinkDie) (m : Nat) : (s.modDie n f).page m = s.page m := rfl
@[simp] theorem State.setNode_now (s : State) (n : Nat) (v : NodeEnt) : (s.setNode n v).now = s.now := rfl
@[simp] theorem State.setNode_free (s : State) (n : Nat) (v : NodeEnt) : (s.setNode n v).free = s.free := rfl
@[simp] theorem State.setNode_kAbsent (s : State) (n : Nat) (v : NodeEnt) : (s.setNode n v).kAbsent = s.kAbsent := rfl
@[simp] theorem State.setNode_boot (s : State) (n : Nat) (v : NodeEnt) : (s.setNode n v).boot = s.boot := rfl
@[simp] theorem State.setNode_aon (s : State) (n : Nat) (v : NodeEnt) : (s.setNode n v).aon = s.aon := rfl
@[simp] theorem State.setNode_power (s : State) (n : Nat) (v : NodeEnt) : (s.setNode n v).power = s.power := rfl
@[simp] theorem State.setNode_dram (s : State) (n : Nat) (v : NodeEnt) : (s.setNode n v).dram = s.dram := rfl
@[simp] theorem State.setNode_vis (s : State) (n : Nat) (v : NodeEnt) : (s.setNode n v).vis = s.vis := rfl
@[simp] theorem State.setNode_wins (s : State) (n : Nat) (v : NodeEnt) : (s.setNode n v).wins = s.wins := rfl
@[simp] theorem State.setNode_exts (s : State) (n : Nat) (v : NodeEnt) : (s.setNode n v).exts = s.exts := rfl
@[simp] theorem State.setNode_home (s : State) (n : Nat) (v : NodeEnt) : (s.setNode n v).home = s.home := rfl
@[simp] theorem State.setNode_regions (s : State) (n : Nat) (v : NodeEnt) : (s.setNode n v).regions = s.regions := rfl
@[simp] theorem State.setNode_clusters (s : State) (n : Nat) (v : NodeEnt) : (s.setNode n v).clusters = s.clusters := rfl
@[simp] theorem State.setNode_engines (s : State) (n : Nat) (v : NodeEnt) : (s.setNode n v).engines = s.engines := rfl
@[simp] theorem State.setNode_chans (s : State) (n : Nat) (v : NodeEnt) : (s.setNode n v).chans = s.chans := rfl
@[simp] theorem State.setNode_streams (s : State) (n : Nat) (v : NodeEnt) : (s.setNode n v).streams = s.streams := rfl
@[simp] theorem State.setNode_progs (s : State) (n : Nat) (v : NodeEnt) : (s.setNode n v).progs = s.progs := rfl
@[simp] theorem State.setNode_waiting (s : State) (n : Nat) (v : NodeEnt) : (s.setNode n v).waiting = s.waiting := rfl
@[simp] theorem State.setNode_opLooks (s : State) (n : Nat) (v : NodeEnt) : (s.setNode n v).opLooks = s.opLooks := rfl
@[simp] theorem State.setNode_reqNo (s : State) (n : Nat) (v : NodeEnt) : (s.setNode n v).reqNo = s.reqNo := rfl
@[simp] theorem State.setNode_outbox (s : State) (n : Nat) (v : NodeEnt) : (s.setNode n v).outbox = s.outbox := rfl
@[simp] theorem State.setNode_sched (s : State) (n : Nat) (v : NodeEnt) : (s.setNode n v).sched = s.sched := rfl
@[simp] theorem State.setNode_pair (s : State) (n : Nat) (v : NodeEnt) : (s.setNode n v).pair = s.pair := rfl
@[simp] theorem State.setNode_cyc (s : State) (n : Nat) (v : NodeEnt) : (s.setNode n v).cyc = s.cyc := rfl
@[simp] theorem State.setNode_complexes (s : State) (n : Nat) (v : NodeEnt) : (s.setNode n v).complexes = s.complexes := rfl
@[simp] theorem State.setNode_hostPorts (s : State) (n : Nat) (v : NodeEnt) : (s.setNode n v).hostPorts = s.hostPorts := rfl
@[simp] theorem State.setNode_revokes (s : State) (n : Nat) (v : NodeEnt) : (s.setNode n v).revokes = s.revokes := rfl
@[simp] theorem State.setNode_drains (s : State) (n : Nat) (v : NodeEnt) : (s.setNode n v).drains = s.drains := rfl
@[simp] theorem State.setNode_log (s : State) (n : Nat) (v : NodeEnt) : (s.setNode n v).log = s.log := rfl
@[simp] theorem State.setNode_pending (s : State) (n : Nat) (v : NodeEnt) : (s.setNode n v).pending = s.pending := rfl
@[simp] theorem State.setNode_get_vi (s : State) (n : Nat) (v : NodeEnt) (m : Nat) : (s.setNode n v).vi m = s.vi m := rfl
@[simp] theorem State.setNode_get_win (s : State) (n : Nat) (v : NodeEnt) (m : Nat) : (s.setNode n v).win m = s.win m := rfl
@[simp] theorem State.setNode_get_ext (s : State) (n : Nat) (v : NodeEnt) (m : Nat) : (s.setNode n v).ext m = s.ext m := rfl
@[simp] theorem State.setNode_get_region (s : State) (n : Nat) (v : NodeEnt) (m : Nat) : (s.setNode n v).region m = s.region m := rfl
@[simp] theorem State.setNode_get_cluster (s : State) (n : Nat) (v : NodeEnt) (m : Nat) : (s.setNode n v).cluster m = s.cluster m := rfl
@[simp] theorem State.setNode_get_engine (s : State) (n : Nat) (v : NodeEnt) (m : Nat) : (s.setNode n v).engine m = s.engine m := rfl
@[simp] theorem State.setNode_get_chan (s : State) (n : Nat) (v : NodeEnt) (m : Nat) : (s.setNode n v).chan m = s.chan m := rfl
@[simp] theorem State.setNode_get_complex (s : State) (n : Nat) (v : NodeEnt) (m : Nat) : (s.setNode n v).complex m = s.complex m := rfl
@[simp] theorem State.setNode_get_hostPort (s : State) (n : Nat) (v : NodeEnt) (m : Nat) : (s.setNode n v).hostPort m = s.hostPort m := rfl
@[simp] theorem State.setNode_get_diePower (s : State) (n : Nat) (v : NodeEnt) (m : Nat) : (s.setNode n v).diePower m = s.diePower m := rfl
@[simp] theorem State.setNode_get_stream (s : State) (n : Nat) (v : NodeEnt) (m : Nat) : (s.setNode n v).stream m = s.stream m := rfl
@[simp] theorem State.setNode_get_page (s : State) (n : Nat) (v : NodeEnt) (m : Nat) : (s.setNode n v).page m = s.page m := rfl
@[simp] theorem State.setComplex_now (s : State) (n : Nat) (v : Complex) : (s.setComplex n v).now = s.now := rfl
@[simp] theorem State.setComplex_free (s : State) (n : Nat) (v : Complex) : (s.setComplex n v).free = s.free := rfl
@[simp] theorem State.setComplex_kAbsent (s : State) (n : Nat) (v : Complex) : (s.setComplex n v).kAbsent = s.kAbsent := rfl
@[simp] theorem State.setComplex_boot (s : State) (n : Nat) (v : Complex) : (s.setComplex n v).boot = s.boot := rfl
@[simp] theorem State.setComplex_aon (s : State) (n : Nat) (v : Complex) : (s.setComplex n v).aon = s.aon := rfl
@[simp] theorem State.setComplex_power (s : State) (n : Nat) (v : Complex) : (s.setComplex n v).power = s.power := rfl
@[simp] theorem State.setComplex_dram (s : State) (n : Nat) (v : Complex) : (s.setComplex n v).dram = s.dram := rfl
@[simp] theorem State.setComplex_vis (s : State) (n : Nat) (v : Complex) : (s.setComplex n v).vis = s.vis := rfl
@[simp] theorem State.setComplex_wins (s : State) (n : Nat) (v : Complex) : (s.setComplex n v).wins = s.wins := rfl
@[simp] theorem State.setComplex_exts (s : State) (n : Nat) (v : Complex) : (s.setComplex n v).exts = s.exts := rfl
@[simp] theorem State.setComplex_home (s : State) (n : Nat) (v : Complex) : (s.setComplex n v).home = s.home := rfl
@[simp] theorem State.setComplex_regions (s : State) (n : Nat) (v : Complex) : (s.setComplex n v).regions = s.regions := rfl
@[simp] theorem State.setComplex_clusters (s : State) (n : Nat) (v : Complex) : (s.setComplex n v).clusters = s.clusters := rfl
@[simp] theorem State.setComplex_engines (s : State) (n : Nat) (v : Complex) : (s.setComplex n v).engines = s.engines := rfl
@[simp] theorem State.setComplex_chans (s : State) (n : Nat) (v : Complex) : (s.setComplex n v).chans = s.chans := rfl
@[simp] theorem State.setComplex_streams (s : State) (n : Nat) (v : Complex) : (s.setComplex n v).streams = s.streams := rfl
@[simp] theorem State.setComplex_progs (s : State) (n : Nat) (v : Complex) : (s.setComplex n v).progs = s.progs := rfl
@[simp] theorem State.setComplex_waiting (s : State) (n : Nat) (v : Complex) : (s.setComplex n v).waiting = s.waiting := rfl
@[simp] theorem State.setComplex_opLooks (s : State) (n : Nat) (v : Complex) : (s.setComplex n v).opLooks = s.opLooks := rfl
@[simp] theorem State.setComplex_reqNo (s : State) (n : Nat) (v : Complex) : (s.setComplex n v).reqNo = s.reqNo := rfl
@[simp] theorem State.setComplex_outbox (s : State) (n : Nat) (v : Complex) : (s.setComplex n v).outbox = s.outbox := rfl
@[simp] theorem State.setComplex_fabric (s : State) (n : Nat) (v : Complex) : (s.setComplex n v).fabric = s.fabric := rfl
@[simp] theorem State.setComplex_sched (s : State) (n : Nat) (v : Complex) : (s.setComplex n v).sched = s.sched := rfl
@[simp] theorem State.setComplex_pair (s : State) (n : Nat) (v : Complex) : (s.setComplex n v).pair = s.pair := rfl
@[simp] theorem State.setComplex_cyc (s : State) (n : Nat) (v : Complex) : (s.setComplex n v).cyc = s.cyc := rfl
@[simp] theorem State.setComplex_hostPorts (s : State) (n : Nat) (v : Complex) : (s.setComplex n v).hostPorts = s.hostPorts := rfl
@[simp] theorem State.setComplex_revokes (s : State) (n : Nat) (v : Complex) : (s.setComplex n v).revokes = s.revokes := rfl
@[simp] theorem State.setComplex_drains (s : State) (n : Nat) (v : Complex) : (s.setComplex n v).drains = s.drains := rfl
@[simp] theorem State.setComplex_log (s : State) (n : Nat) (v : Complex) : (s.setComplex n v).log = s.log := rfl
@[simp] theorem State.setComplex_pending (s : State) (n : Nat) (v : Complex) : (s.setComplex n v).pending = s.pending := rfl
@[simp] theorem State.setComplex_get_vi (s : State) (n : Nat) (v : Complex) (m : Nat) : (s.setComplex n v).vi m = s.vi m := rfl
@[simp] theorem State.setComplex_get_win (s : State) (n : Nat) (v : Complex) (m : Nat) : (s.setComplex n v).win m = s.win m := rfl
@[simp] theorem State.setComplex_get_ext (s : State) (n : Nat) (v : Complex) (m : Nat) : (s.setComplex n v).ext m = s.ext m := rfl
@[simp] theorem State.setComplex_get_region (s : State) (n : Nat) (v : Complex) (m : Nat) : (s.setComplex n v).region m = s.region m := rfl
@[simp] theorem State.setComplex_get_cluster (s : State) (n : Nat) (v : Complex) (m : Nat) : (s.setComplex n v).cluster m = s.cluster m := rfl
@[simp] theorem State.setComplex_get_engine (s : State) (n : Nat) (v : Complex) (m : Nat) : (s.setComplex n v).engine m = s.engine m := rfl
@[simp] theorem State.setComplex_get_chan (s : State) (n : Nat) (v : Complex) (m : Nat) : (s.setComplex n v).chan m = s.chan m := rfl
@[simp] theorem State.setComplex_get_port (s : State) (n : Nat) (v : Complex) (m : Nat) : (s.setComplex n v).port m = s.port m := rfl
@[simp] theorem State.setComplex_get_die (s : State) (n : Nat) (v : Complex) (m : Nat) : (s.setComplex n v).die m = s.die m := rfl
@[simp] theorem State.setComplex_get_node (s : State) (n : Nat) (v : Complex) (m : Nat) : (s.setComplex n v).node m = s.node m := rfl
@[simp] theorem State.setComplex_get_hostPort (s : State) (n : Nat) (v : Complex) (m : Nat) : (s.setComplex n v).hostPort m = s.hostPort m := rfl
@[simp] theorem State.setComplex_get_diePower (s : State) (n : Nat) (v : Complex) (m : Nat) : (s.setComplex n v).diePower m = s.diePower m := rfl
@[simp] theorem State.setComplex_get_stream (s : State) (n : Nat) (v : Complex) (m : Nat) : (s.setComplex n v).stream m = s.stream m := rfl
@[simp] theorem State.setComplex_get_page (s : State) (n : Nat) (v : Complex) (m : Nat) : (s.setComplex n v).page m = s.page m := rfl
@[simp] theorem State.modComplex_now (s : State) (n : Nat) (f : Complex → Complex) : (s.modComplex n f).now = s.now := rfl
@[simp] theorem State.modComplex_free (s : State) (n : Nat) (f : Complex → Complex) : (s.modComplex n f).free = s.free := rfl
@[simp] theorem State.modComplex_kAbsent (s : State) (n : Nat) (f : Complex → Complex) : (s.modComplex n f).kAbsent = s.kAbsent := rfl
@[simp] theorem State.modComplex_boot (s : State) (n : Nat) (f : Complex → Complex) : (s.modComplex n f).boot = s.boot := rfl
@[simp] theorem State.modComplex_aon (s : State) (n : Nat) (f : Complex → Complex) : (s.modComplex n f).aon = s.aon := rfl
@[simp] theorem State.modComplex_power (s : State) (n : Nat) (f : Complex → Complex) : (s.modComplex n f).power = s.power := rfl
@[simp] theorem State.modComplex_dram (s : State) (n : Nat) (f : Complex → Complex) : (s.modComplex n f).dram = s.dram := rfl
@[simp] theorem State.modComplex_vis (s : State) (n : Nat) (f : Complex → Complex) : (s.modComplex n f).vis = s.vis := rfl
@[simp] theorem State.modComplex_wins (s : State) (n : Nat) (f : Complex → Complex) : (s.modComplex n f).wins = s.wins := rfl
@[simp] theorem State.modComplex_exts (s : State) (n : Nat) (f : Complex → Complex) : (s.modComplex n f).exts = s.exts := rfl
@[simp] theorem State.modComplex_home (s : State) (n : Nat) (f : Complex → Complex) : (s.modComplex n f).home = s.home := rfl
@[simp] theorem State.modComplex_regions (s : State) (n : Nat) (f : Complex → Complex) : (s.modComplex n f).regions = s.regions := rfl
@[simp] theorem State.modComplex_clusters (s : State) (n : Nat) (f : Complex → Complex) : (s.modComplex n f).clusters = s.clusters := rfl
@[simp] theorem State.modComplex_engines (s : State) (n : Nat) (f : Complex → Complex) : (s.modComplex n f).engines = s.engines := rfl
@[simp] theorem State.modComplex_chans (s : State) (n : Nat) (f : Complex → Complex) : (s.modComplex n f).chans = s.chans := rfl
@[simp] theorem State.modComplex_streams (s : State) (n : Nat) (f : Complex → Complex) : (s.modComplex n f).streams = s.streams := rfl
@[simp] theorem State.modComplex_progs (s : State) (n : Nat) (f : Complex → Complex) : (s.modComplex n f).progs = s.progs := rfl
@[simp] theorem State.modComplex_waiting (s : State) (n : Nat) (f : Complex → Complex) : (s.modComplex n f).waiting = s.waiting := rfl
@[simp] theorem State.modComplex_opLooks (s : State) (n : Nat) (f : Complex → Complex) : (s.modComplex n f).opLooks = s.opLooks := rfl
@[simp] theorem State.modComplex_reqNo (s : State) (n : Nat) (f : Complex → Complex) : (s.modComplex n f).reqNo = s.reqNo := rfl
@[simp] theorem State.modComplex_outbox (s : State) (n : Nat) (f : Complex → Complex) : (s.modComplex n f).outbox = s.outbox := rfl
@[simp] theorem State.modComplex_fabric (s : State) (n : Nat) (f : Complex → Complex) : (s.modComplex n f).fabric = s.fabric := rfl
@[simp] theorem State.modComplex_sched (s : State) (n : Nat) (f : Complex → Complex) : (s.modComplex n f).sched = s.sched := rfl
@[simp] theorem State.modComplex_pair (s : State) (n : Nat) (f : Complex → Complex) : (s.modComplex n f).pair = s.pair := rfl
@[simp] theorem State.modComplex_cyc (s : State) (n : Nat) (f : Complex → Complex) : (s.modComplex n f).cyc = s.cyc := rfl
@[simp] theorem State.modComplex_hostPorts (s : State) (n : Nat) (f : Complex → Complex) : (s.modComplex n f).hostPorts = s.hostPorts := rfl
@[simp] theorem State.modComplex_revokes (s : State) (n : Nat) (f : Complex → Complex) : (s.modComplex n f).revokes = s.revokes := rfl
@[simp] theorem State.modComplex_drains (s : State) (n : Nat) (f : Complex → Complex) : (s.modComplex n f).drains = s.drains := rfl
@[simp] theorem State.modComplex_log (s : State) (n : Nat) (f : Complex → Complex) : (s.modComplex n f).log = s.log := rfl
@[simp] theorem State.modComplex_pending (s : State) (n : Nat) (f : Complex → Complex) : (s.modComplex n f).pending = s.pending := rfl
@[simp] theorem State.modComplex_get_vi (s : State) (n : Nat) (f : Complex → Complex) (m : Nat) : (s.modComplex n f).vi m = s.vi m := rfl
@[simp] theorem State.modComplex_get_win (s : State) (n : Nat) (f : Complex → Complex) (m : Nat) : (s.modComplex n f).win m = s.win m := rfl
@[simp] theorem State.modComplex_get_ext (s : State) (n : Nat) (f : Complex → Complex) (m : Nat) : (s.modComplex n f).ext m = s.ext m := rfl
@[simp] theorem State.modComplex_get_region (s : State) (n : Nat) (f : Complex → Complex) (m : Nat) : (s.modComplex n f).region m = s.region m := rfl
@[simp] theorem State.modComplex_get_cluster (s : State) (n : Nat) (f : Complex → Complex) (m : Nat) : (s.modComplex n f).cluster m = s.cluster m := rfl
@[simp] theorem State.modComplex_get_engine (s : State) (n : Nat) (f : Complex → Complex) (m : Nat) : (s.modComplex n f).engine m = s.engine m := rfl
@[simp] theorem State.modComplex_get_chan (s : State) (n : Nat) (f : Complex → Complex) (m : Nat) : (s.modComplex n f).chan m = s.chan m := rfl
@[simp] theorem State.modComplex_get_port (s : State) (n : Nat) (f : Complex → Complex) (m : Nat) : (s.modComplex n f).port m = s.port m := rfl
@[simp] theorem State.modComplex_get_die (s : State) (n : Nat) (f : Complex → Complex) (m : Nat) : (s.modComplex n f).die m = s.die m := rfl
@[simp] theorem State.modComplex_get_node (s : State) (n : Nat) (f : Complex → Complex) (m : Nat) : (s.modComplex n f).node m = s.node m := rfl
@[simp] theorem State.modComplex_get_hostPort (s : State) (n : Nat) (f : Complex → Complex) (m : Nat) : (s.modComplex n f).hostPort m = s.hostPort m := rfl
@[simp] theorem State.modComplex_get_diePower (s : State) (n : Nat) (f : Complex → Complex) (m : Nat) : (s.modComplex n f).diePower m = s.diePower m := rfl
@[simp] theorem State.modComplex_get_stream (s : State) (n : Nat) (f : Complex → Complex) (m : Nat) : (s.modComplex n f).stream m = s.stream m := rfl
@[simp] theorem State.modComplex_get_page (s : State) (n : Nat) (f : Complex → Complex) (m : Nat) : (s.modComplex n f).page m = s.page m := rfl
@[simp] theorem State.setHostPort_now (s : State) (n : Nat) (v : HostPort) : (s.setHostPort n v).now = s.now := rfl
@[simp] theorem State.setHostPort_free (s : State) (n : Nat) (v : HostPort) : (s.setHostPort n v).free = s.free := rfl
@[simp] theorem State.setHostPort_kAbsent (s : State) (n : Nat) (v : HostPort) : (s.setHostPort n v).kAbsent = s.kAbsent := rfl
@[simp] theorem State.setHostPort_boot (s : State) (n : Nat) (v : HostPort) : (s.setHostPort n v).boot = s.boot := rfl
@[simp] theorem State.setHostPort_aon (s : State) (n : Nat) (v : HostPort) : (s.setHostPort n v).aon = s.aon := rfl
@[simp] theorem State.setHostPort_power (s : State) (n : Nat) (v : HostPort) : (s.setHostPort n v).power = s.power := rfl
@[simp] theorem State.setHostPort_dram (s : State) (n : Nat) (v : HostPort) : (s.setHostPort n v).dram = s.dram := rfl
@[simp] theorem State.setHostPort_vis (s : State) (n : Nat) (v : HostPort) : (s.setHostPort n v).vis = s.vis := rfl
@[simp] theorem State.setHostPort_wins (s : State) (n : Nat) (v : HostPort) : (s.setHostPort n v).wins = s.wins := rfl
@[simp] theorem State.setHostPort_exts (s : State) (n : Nat) (v : HostPort) : (s.setHostPort n v).exts = s.exts := rfl
@[simp] theorem State.setHostPort_home (s : State) (n : Nat) (v : HostPort) : (s.setHostPort n v).home = s.home := rfl
@[simp] theorem State.setHostPort_regions (s : State) (n : Nat) (v : HostPort) : (s.setHostPort n v).regions = s.regions := rfl
@[simp] theorem State.setHostPort_clusters (s : State) (n : Nat) (v : HostPort) : (s.setHostPort n v).clusters = s.clusters := rfl
@[simp] theorem State.setHostPort_engines (s : State) (n : Nat) (v : HostPort) : (s.setHostPort n v).engines = s.engines := rfl
@[simp] theorem State.setHostPort_chans (s : State) (n : Nat) (v : HostPort) : (s.setHostPort n v).chans = s.chans := rfl
@[simp] theorem State.setHostPort_streams (s : State) (n : Nat) (v : HostPort) : (s.setHostPort n v).streams = s.streams := rfl
@[simp] theorem State.setHostPort_progs (s : State) (n : Nat) (v : HostPort) : (s.setHostPort n v).progs = s.progs := rfl
@[simp] theorem State.setHostPort_waiting (s : State) (n : Nat) (v : HostPort) : (s.setHostPort n v).waiting = s.waiting := rfl
@[simp] theorem State.setHostPort_opLooks (s : State) (n : Nat) (v : HostPort) : (s.setHostPort n v).opLooks = s.opLooks := rfl
@[simp] theorem State.setHostPort_reqNo (s : State) (n : Nat) (v : HostPort) : (s.setHostPort n v).reqNo = s.reqNo := rfl
@[simp] theorem State.setHostPort_outbox (s : State) (n : Nat) (v : HostPort) : (s.setHostPort n v).outbox = s.outbox := rfl
@[simp] theorem State.setHostPort_fabric (s : State) (n : Nat) (v : HostPort) : (s.setHostPort n v).fabric = s.fabric := rfl
@[simp] theorem State.setHostPort_sched (s : State) (n : Nat) (v : HostPort) : (s.setHostPort n v).sched = s.sched := rfl
@[simp] theorem State.setHostPort_pair (s : State) (n : Nat) (v : HostPort) : (s.setHostPort n v).pair = s.pair := rfl
@[simp] theorem State.setHostPort_cyc (s : State) (n : Nat) (v : HostPort) : (s.setHostPort n v).cyc = s.cyc := rfl
@[simp] theorem State.setHostPort_complexes (s : State) (n : Nat) (v : HostPort) : (s.setHostPort n v).complexes = s.complexes := rfl
@[simp] theorem State.setHostPort_revokes (s : State) (n : Nat) (v : HostPort) : (s.setHostPort n v).revokes = s.revokes := rfl
@[simp] theorem State.setHostPort_drains (s : State) (n : Nat) (v : HostPort) : (s.setHostPort n v).drains = s.drains := rfl
@[simp] theorem State.setHostPort_log (s : State) (n : Nat) (v : HostPort) : (s.setHostPort n v).log = s.log := rfl
@[simp] theorem State.setHostPort_pending (s : State) (n : Nat) (v : HostPort) : (s.setHostPort n v).pending = s.pending := rfl
@[simp] theorem State.setHostPort_get_vi (s : State) (n : Nat) (v : HostPort) (m : Nat) : (s.setHostPort n v).vi m = s.vi m := rfl
@[simp] theorem State.setHostPort_get_win (s : State) (n : Nat) (v : HostPort) (m : Nat) : (s.setHostPort n v).win m = s.win m := rfl
@[simp] theorem State.setHostPort_get_ext (s : State) (n : Nat) (v : HostPort) (m : Nat) : (s.setHostPort n v).ext m = s.ext m := rfl
@[simp] theorem State.setHostPort_get_region (s : State) (n : Nat) (v : HostPort) (m : Nat) : (s.setHostPort n v).region m = s.region m := rfl
@[simp] theorem State.setHostPort_get_cluster (s : State) (n : Nat) (v : HostPort) (m : Nat) : (s.setHostPort n v).cluster m = s.cluster m := rfl
@[simp] theorem State.setHostPort_get_engine (s : State) (n : Nat) (v : HostPort) (m : Nat) : (s.setHostPort n v).engine m = s.engine m := rfl
@[simp] theorem State.setHostPort_get_chan (s : State) (n : Nat) (v : HostPort) (m : Nat) : (s.setHostPort n v).chan m = s.chan m := rfl
@[simp] theorem State.setHostPort_get_port (s : State) (n : Nat) (v : HostPort) (m : Nat) : (s.setHostPort n v).port m = s.port m := rfl
@[simp] theorem State.setHostPort_get_die (s : State) (n : Nat) (v : HostPort) (m : Nat) : (s.setHostPort n v).die m = s.die m := rfl
@[simp] theorem State.setHostPort_get_node (s : State) (n : Nat) (v : HostPort) (m : Nat) : (s.setHostPort n v).node m = s.node m := rfl
@[simp] theorem State.setHostPort_get_complex (s : State) (n : Nat) (v : HostPort) (m : Nat) : (s.setHostPort n v).complex m = s.complex m := rfl
@[simp] theorem State.setHostPort_get_diePower (s : State) (n : Nat) (v : HostPort) (m : Nat) : (s.setHostPort n v).diePower m = s.diePower m := rfl
@[simp] theorem State.setHostPort_get_stream (s : State) (n : Nat) (v : HostPort) (m : Nat) : (s.setHostPort n v).stream m = s.stream m := rfl
@[simp] theorem State.setHostPort_get_page (s : State) (n : Nat) (v : HostPort) (m : Nat) : (s.setHostPort n v).page m = s.page m := rfl
@[simp] theorem State.setDiePower_now (s : State) (n : Nat) (v : DiePower) : (s.setDiePower n v).now = s.now := rfl
@[simp] theorem State.setDiePower_free (s : State) (n : Nat) (v : DiePower) : (s.setDiePower n v).free = s.free := rfl
@[simp] theorem State.setDiePower_kAbsent (s : State) (n : Nat) (v : DiePower) : (s.setDiePower n v).kAbsent = s.kAbsent := rfl
@[simp] theorem State.setDiePower_boot (s : State) (n : Nat) (v : DiePower) : (s.setDiePower n v).boot = s.boot := rfl
@[simp] theorem State.setDiePower_aon (s : State) (n : Nat) (v : DiePower) : (s.setDiePower n v).aon = s.aon := rfl
@[simp] theorem State.setDiePower_dram (s : State) (n : Nat) (v : DiePower) : (s.setDiePower n v).dram = s.dram := rfl
@[simp] theorem State.setDiePower_vis (s : State) (n : Nat) (v : DiePower) : (s.setDiePower n v).vis = s.vis := rfl
@[simp] theorem State.setDiePower_wins (s : State) (n : Nat) (v : DiePower) : (s.setDiePower n v).wins = s.wins := rfl
@[simp] theorem State.setDiePower_exts (s : State) (n : Nat) (v : DiePower) : (s.setDiePower n v).exts = s.exts := rfl
@[simp] theorem State.setDiePower_home (s : State) (n : Nat) (v : DiePower) : (s.setDiePower n v).home = s.home := rfl
@[simp] theorem State.setDiePower_regions (s : State) (n : Nat) (v : DiePower) : (s.setDiePower n v).regions = s.regions := rfl
@[simp] theorem State.setDiePower_clusters (s : State) (n : Nat) (v : DiePower) : (s.setDiePower n v).clusters = s.clusters := rfl
@[simp] theorem State.setDiePower_engines (s : State) (n : Nat) (v : DiePower) : (s.setDiePower n v).engines = s.engines := rfl
@[simp] theorem State.setDiePower_chans (s : State) (n : Nat) (v : DiePower) : (s.setDiePower n v).chans = s.chans := rfl
@[simp] theorem State.setDiePower_streams (s : State) (n : Nat) (v : DiePower) : (s.setDiePower n v).streams = s.streams := rfl
@[simp] theorem State.setDiePower_progs (s : State) (n : Nat) (v : DiePower) : (s.setDiePower n v).progs = s.progs := rfl
@[simp] theorem State.setDiePower_waiting (s : State) (n : Nat) (v : DiePower) : (s.setDiePower n v).waiting = s.waiting := rfl
@[simp] theorem State.setDiePower_opLooks (s : State) (n : Nat) (v : DiePower) : (s.setDiePower n v).opLooks = s.opLooks := rfl
@[simp] theorem State.setDiePower_reqNo (s : State) (n : Nat) (v : DiePower) : (s.setDiePower n v).reqNo = s.reqNo := rfl
@[simp] theorem State.setDiePower_outbox (s : State) (n : Nat) (v : DiePower) : (s.setDiePower n v).outbox = s.outbox := rfl
@[simp] theorem State.setDiePower_fabric (s : State) (n : Nat) (v : DiePower) : (s.setDiePower n v).fabric = s.fabric := rfl
@[simp] theorem State.setDiePower_sched (s : State) (n : Nat) (v : DiePower) : (s.setDiePower n v).sched = s.sched := rfl
@[simp] theorem State.setDiePower_pair (s : State) (n : Nat) (v : DiePower) : (s.setDiePower n v).pair = s.pair := rfl
@[simp] theorem State.setDiePower_cyc (s : State) (n : Nat) (v : DiePower) : (s.setDiePower n v).cyc = s.cyc := rfl
@[simp] theorem State.setDiePower_complexes (s : State) (n : Nat) (v : DiePower) : (s.setDiePower n v).complexes = s.complexes := rfl
@[simp] theorem State.setDiePower_hostPorts (s : State) (n : Nat) (v : DiePower) : (s.setDiePower n v).hostPorts = s.hostPorts := rfl
@[simp] theorem State.setDiePower_revokes (s : State) (n : Nat) (v : DiePower) : (s.setDiePower n v).revokes = s.revokes := rfl
@[simp] theorem State.setDiePower_drains (s : State) (n : Nat) (v : DiePower) : (s.setDiePower n v).drains = s.drains := rfl
@[simp] theorem State.setDiePower_log (s : State) (n : Nat) (v : DiePower) : (s.setDiePower n v).log = s.log := rfl
@[simp] theorem State.setDiePower_pending (s : State) (n : Nat) (v : DiePower) : (s.setDiePower n v).pending = s.pending := rfl
@[simp] theorem State.setDiePower_get_vi (s : State) (n : Nat) (v : DiePower) (m : Nat) : (s.setDiePower n v).vi m = s.vi m := rfl
@[simp] theorem State.setDiePower_get_win (s : State) (n : Nat) (v : DiePower) (m : Nat) : (s.setDiePower n v).win m = s.win m := rfl
@[simp] theorem State.setDiePower_get_ext (s : State) (n : Nat) (v : DiePower) (m : Nat) : (s.setDiePower n v).ext m = s.ext m := rfl
@[simp] theorem State.setDiePower_get_region (s : State) (n : Nat) (v : DiePower) (m : Nat) : (s.setDiePower n v).region m = s.region m := rfl
@[simp] theorem State.setDiePower_get_cluster (s : State) (n : Nat) (v : DiePower) (m : Nat) : (s.setDiePower n v).cluster m = s.cluster m := rfl
@[simp] theorem State.setDiePower_get_engine (s : State) (n : Nat) (v : DiePower) (m : Nat) : (s.setDiePower n v).engine m = s.engine m := rfl
@[simp] theorem State.setDiePower_get_chan (s : State) (n : Nat) (v : DiePower) (m : Nat) : (s.setDiePower n v).chan m = s.chan m := rfl
@[simp] theorem State.setDiePower_get_port (s : State) (n : Nat) (v : DiePower) (m : Nat) : (s.setDiePower n v).port m = s.port m := rfl
@[simp] theorem State.setDiePower_get_die (s : State) (n : Nat) (v : DiePower) (m : Nat) : (s.setDiePower n v).die m = s.die m := rfl
@[simp] theorem State.setDiePower_get_node (s : State) (n : Nat) (v : DiePower) (m : Nat) : (s.setDiePower n v).node m = s.node m := rfl
@[simp] theorem State.setDiePower_get_complex (s : State) (n : Nat) (v : DiePower) (m : Nat) : (s.setDiePower n v).complex m = s.complex m := rfl
@[simp] theorem State.setDiePower_get_hostPort (s : State) (n : Nat) (v : DiePower) (m : Nat) : (s.setDiePower n v).hostPort m = s.hostPort m := rfl
@[simp] theorem State.setDiePower_get_stream (s : State) (n : Nat) (v : DiePower) (m : Nat) : (s.setDiePower n v).stream m = s.stream m := rfl
@[simp] theorem State.setDiePower_get_page (s : State) (n : Nat) (v : DiePower) (m : Nat) : (s.setDiePower n v).page m = s.page m := rfl
@[simp] theorem State.modStream_now (s : State) (n : Nat) (f : Stream → Stream) : (s.modStream n f).now = s.now := rfl
@[simp] theorem State.modStream_free (s : State) (n : Nat) (f : Stream → Stream) : (s.modStream n f).free = s.free := rfl
@[simp] theorem State.modStream_kAbsent (s : State) (n : Nat) (f : Stream → Stream) : (s.modStream n f).kAbsent = s.kAbsent := rfl
@[simp] theorem State.modStream_boot (s : State) (n : Nat) (f : Stream → Stream) : (s.modStream n f).boot = s.boot := rfl
@[simp] theorem State.modStream_aon (s : State) (n : Nat) (f : Stream → Stream) : (s.modStream n f).aon = s.aon := rfl
@[simp] theorem State.modStream_power (s : State) (n : Nat) (f : Stream → Stream) : (s.modStream n f).power = s.power := rfl
@[simp] theorem State.modStream_dram (s : State) (n : Nat) (f : Stream → Stream) : (s.modStream n f).dram = s.dram := rfl
@[simp] theorem State.modStream_vis (s : State) (n : Nat) (f : Stream → Stream) : (s.modStream n f).vis = s.vis := rfl
@[simp] theorem State.modStream_wins (s : State) (n : Nat) (f : Stream → Stream) : (s.modStream n f).wins = s.wins := rfl
@[simp] theorem State.modStream_exts (s : State) (n : Nat) (f : Stream → Stream) : (s.modStream n f).exts = s.exts := rfl
@[simp] theorem State.modStream_home (s : State) (n : Nat) (f : Stream → Stream) : (s.modStream n f).home = s.home := rfl
@[simp] theorem State.modStream_regions (s : State) (n : Nat) (f : Stream → Stream) : (s.modStream n f).regions = s.regions := rfl
@[simp] theorem State.modStream_clusters (s : State) (n : Nat) (f : Stream → Stream) : (s.modStream n f).clusters = s.clusters := rfl
@[simp] theorem State.modStream_engines (s : State) (n : Nat) (f : Stream → Stream) : (s.modStream n f).engines = s.engines := rfl
@[simp] theorem State.modStream_chans (s : State) (n : Nat) (f : Stream → Stream) : (s.modStream n f).chans = s.chans := rfl
@[simp] theorem State.modStream_progs (s : State) (n : Nat) (f : Stream → Stream) : (s.modStream n f).progs = s.progs := rfl
@[simp] theorem State.modStream_waiting (s : State) (n : Nat) (f : Stream → Stream) : (s.modStream n f).waiting = s.waiting := rfl
@[simp] theorem State.modStream_opLooks (s : State) (n : Nat) (f : Stream → Stream) : (s.modStream n f).opLooks = s.opLooks := rfl
@[simp] theorem State.modStream_reqNo (s : State) (n : Nat) (f : Stream → Stream) : (s.modStream n f).reqNo = s.reqNo := rfl
@[simp] theorem State.modStream_outbox (s : State) (n : Nat) (f : Stream → Stream) : (s.modStream n f).outbox = s.outbox := rfl
@[simp] theorem State.modStream_fabric (s : State) (n : Nat) (f : Stream → Stream) : (s.modStream n f).fabric = s.fabric := rfl
@[simp] theorem State.modStream_sched (s : State) (n : Nat) (f : Stream → Stream) : (s.modStream n f).sched = s.sched := rfl
@[simp] theorem State.modStream_pair (s : State) (n : Nat) (f : Stream → Stream) : (s.modStream n f).pair = s.pair := rfl
@[simp] theorem State.modStream_cyc (s : State) (n : Nat) (f : Stream → Stream) : (s.modStream n f).cyc = s.cyc := rfl
@[simp] theorem State.modStream_complexes (s : State) (n : Nat) (f : Stream → Stream) : (s.modStream n f).complexes = s.complexes := rfl
@[simp] theorem State.modStream_hostPorts (s : State) (n : Nat) (f : Stream → Stream) : (s.modStream n f).hostPorts = s.hostPorts := rfl
@[simp] theorem State.modStream_revokes (s : State) (n : Nat) (f : Stream → Stream) : (s.modStream n f).revokes = s.revokes := rfl
@[simp] theorem State.modStream_drains (s : State) (n : Nat) (f : Stream → Stream) : (s.modStream n f).drains = s.drains := rfl
@[simp] theorem State.modStream_log (s : State) (n : Nat) (f : Stream → Stream) : (s.modStream n f).log = s.log := rfl
@[simp] theorem State.modStream_pending (s : State) (n : Nat) (f : Stream → Stream) : (s.modStream n f).pending = s.pending := rfl
@[simp] theorem State.modStream_get_vi (s : State) (n : Nat) (f : Stream → Stream) (m : Nat) : (s.modStream n f).vi m = s.vi m := rfl
@[simp] theorem State.modStream_get_win (s : State) (n : Nat) (f : Stream → Stream) (m : Nat) : (s.modStream n f).win m = s.win m := rfl
@[simp] theorem State.modStream_get_ext (s : State) (n : Nat) (f : Stream → Stream) (m : Nat) : (s.modStream n f).ext m = s.ext m := rfl
@[simp] theorem State.modStream_get_region (s : State) (n : Nat) (f : Stream → Stream) (m : Nat) : (s.modStream n f).region m = s.region m := rfl
@[simp] theorem State.modStream_get_cluster (s : State) (n : Nat) (f : Stream → Stream) (m : Nat) : (s.modStream n f).cluster m = s.cluster m := rfl
@[simp] theorem State.modStream_get_engine (s : State) (n : Nat) (f : Stream → Stream) (m : Nat) : (s.modStream n f).engine m = s.engine m := rfl
@[simp] theorem State.modStream_get_chan (s : State) (n : Nat) (f : Stream → Stream) (m : Nat) : (s.modStream n f).chan m = s.chan m := rfl
@[simp] theorem State.modStream_get_port (s : State) (n : Nat) (f : Stream → Stream) (m : Nat) : (s.modStream n f).port m = s.port m := rfl
@[simp] theorem State.modStream_get_die (s : State) (n : Nat) (f : Stream → Stream) (m : Nat) : (s.modStream n f).die m = s.die m := rfl
@[simp] theorem State.modStream_get_node (s : State) (n : Nat) (f : Stream → Stream) (m : Nat) : (s.modStream n f).node m = s.node m := rfl
@[simp] theorem State.modStream_get_complex (s : State) (n : Nat) (f : Stream → Stream) (m : Nat) : (s.modStream n f).complex m = s.complex m := rfl
@[simp] theorem State.modStream_get_hostPort (s : State) (n : Nat) (f : Stream → Stream) (m : Nat) : (s.modStream n f).hostPort m = s.hostPort m := rfl
@[simp] theorem State.modStream_get_diePower (s : State) (n : Nat) (f : Stream → Stream) (m : Nat) : (s.modStream n f).diePower m = s.diePower m := rfl
@[simp] theorem State.modStream_get_page (s : State) (n : Nat) (f : Stream → Stream) (m : Nat) : (s.modStream n f).page m = s.page m := rfl
@[simp] theorem State.modPair_now (s : State) (f : Pair → Pair) : (s.modPair f).now = s.now := rfl
@[simp] theorem State.modPair_free (s : State) (f : Pair → Pair) : (s.modPair f).free = s.free := rfl
@[simp] theorem State.modPair_kAbsent (s : State) (f : Pair → Pair) : (s.modPair f).kAbsent = s.kAbsent := rfl
@[simp] theorem State.modPair_boot (s : State) (f : Pair → Pair) : (s.modPair f).boot = s.boot := rfl
@[simp] theorem State.modPair_aon (s : State) (f : Pair → Pair) : (s.modPair f).aon = s.aon := rfl
@[simp] theorem State.modPair_power (s : State) (f : Pair → Pair) : (s.modPair f).power = s.power := rfl
@[simp] theorem State.modPair_dram (s : State) (f : Pair → Pair) : (s.modPair f).dram = s.dram := rfl
@[simp] theorem State.modPair_vis (s : State) (f : Pair → Pair) : (s.modPair f).vis = s.vis := rfl
@[simp] theorem State.modPair_wins (s : State) (f : Pair → Pair) : (s.modPair f).wins = s.wins := rfl
@[simp] theorem State.modPair_exts (s : State) (f : Pair → Pair) : (s.modPair f).exts = s.exts := rfl
@[simp] theorem State.modPair_home (s : State) (f : Pair → Pair) : (s.modPair f).home = s.home := rfl
@[simp] theorem State.modPair_regions (s : State) (f : Pair → Pair) : (s.modPair f).regions = s.regions := rfl
@[simp] theorem State.modPair_clusters (s : State) (f : Pair → Pair) : (s.modPair f).clusters = s.clusters := rfl
@[simp] theorem State.modPair_engines (s : State) (f : Pair → Pair) : (s.modPair f).engines = s.engines := rfl
@[simp] theorem State.modPair_chans (s : State) (f : Pair → Pair) : (s.modPair f).chans = s.chans := rfl
@[simp] theorem State.modPair_streams (s : State) (f : Pair → Pair) : (s.modPair f).streams = s.streams := rfl
@[simp] theorem State.modPair_progs (s : State) (f : Pair → Pair) : (s.modPair f).progs = s.progs := rfl
@[simp] theorem State.modPair_waiting (s : State) (f : Pair → Pair) : (s.modPair f).waiting = s.waiting := rfl
@[simp] theorem State.modPair_opLooks (s : State) (f : Pair → Pair) : (s.modPair f).opLooks = s.opLooks := rfl
@[simp] theorem State.modPair_reqNo (s : State) (f : Pair → Pair) : (s.modPair f).reqNo = s.reqNo := rfl
@[simp] theorem State.modPair_outbox (s : State) (f : Pair → Pair) : (s.modPair f).outbox = s.outbox := rfl
@[simp] theorem State.modPair_fabric (s : State) (f : Pair → Pair) : (s.modPair f).fabric = s.fabric := rfl
@[simp] theorem State.modPair_sched (s : State) (f : Pair → Pair) : (s.modPair f).sched = s.sched := rfl
@[simp] theorem State.modPair_cyc (s : State) (f : Pair → Pair) : (s.modPair f).cyc = s.cyc := rfl
@[simp] theorem State.modPair_complexes (s : State) (f : Pair → Pair) : (s.modPair f).complexes = s.complexes := rfl
@[simp] theorem State.modPair_hostPorts (s : State) (f : Pair → Pair) : (s.modPair f).hostPorts = s.hostPorts := rfl
@[simp] theorem State.modPair_revokes (s : State) (f : Pair → Pair) : (s.modPair f).revokes = s.revokes := rfl
@[simp] theorem State.modPair_drains (s : State) (f : Pair → Pair) : (s.modPair f).drains = s.drains := rfl
@[simp] theorem State.modPair_log (s : State) (f : Pair → Pair) : (s.modPair f).log = s.log := rfl
@[simp] theorem State.modPair_pending (s : State) (f : Pair → Pair) : (s.modPair f).pending = s.pending := rfl
@[simp] theorem State.modPair_get_vi (s : State) (f : Pair → Pair) (m : Nat) : (s.modPair f).vi m = s.vi m := rfl
@[simp] theorem State.modPair_get_win (s : State) (f : Pair → Pair) (m : Nat) : (s.modPair f).win m = s.win m := rfl
@[simp] theorem State.modPair_get_ext (s : State) (f : Pair → Pair) (m : Nat) : (s.modPair f).ext m = s.ext m := rfl
@[simp] theorem State.modPair_get_region (s : State) (f : Pair → Pair) (m : Nat) : (s.modPair f).region m = s.region m := rfl
@[simp] theorem State.modPair_get_cluster (s : State) (f : Pair → Pair) (m : Nat) : (s.modPair f).cluster m = s.cluster m := rfl
@[simp] theorem State.modPair_get_engine (s : State) (f : Pair → Pair) (m : Nat) : (s.modPair f).engine m = s.engine m := rfl
@[simp] theorem State.modPair_get_chan (s : State) (f : Pair → Pair) (m : Nat) : (s.modPair f).chan m = s.chan m := rfl
@[simp] theorem State.modPair_get_port (s : State) (f : Pair → Pair) (m : Nat) : (s.modPair f).port m = s.port m := rfl
@[simp] theorem State.modPair_get_die (s : State) (f : Pair → Pair) (m : Nat) : (s.modPair f).die m = s.die m := rfl
@[simp] theorem State.modPair_get_node (s : State) (f : Pair → Pair) (m : Nat) : (s.modPair f).node m = s.node m := rfl
@[simp] theorem State.modPair_get_complex (s : State) (f : Pair → Pair) (m : Nat) : (s.modPair f).complex m = s.complex m := rfl
@[simp] theorem State.modPair_get_hostPort (s : State) (f : Pair → Pair) (m : Nat) : (s.modPair f).hostPort m = s.hostPort m := rfl
@[simp] theorem State.modPair_get_diePower (s : State) (f : Pair → Pair) (m : Nat) : (s.modPair f).diePower m = s.diePower m := rfl
@[simp] theorem State.modPair_get_stream (s : State) (f : Pair → Pair) (m : Nat) : (s.modPair f).stream m = s.stream m := rfl
@[simp] theorem State.modPair_get_page (s : State) (f : Pair → Pair) (m : Nat) : (s.modPair f).page m = s.page m := rfl
@[simp] theorem State.modCyc_now (s : State) (f : Cycles → Cycles) : (s.modCyc f).now = s.now := rfl
@[simp] theorem State.modCyc_free (s : State) (f : Cycles → Cycles) : (s.modCyc f).free = s.free := rfl
@[simp] theorem State.modCyc_kAbsent (s : State) (f : Cycles → Cycles) : (s.modCyc f).kAbsent = s.kAbsent := rfl
@[simp] theorem State.modCyc_boot (s : State) (f : Cycles → Cycles) : (s.modCyc f).boot = s.boot := rfl
@[simp] theorem State.modCyc_aon (s : State) (f : Cycles → Cycles) : (s.modCyc f).aon = s.aon := rfl
@[simp] theorem State.modCyc_power (s : State) (f : Cycles → Cycles) : (s.modCyc f).power = s.power := rfl
@[simp] theorem State.modCyc_dram (s : State) (f : Cycles → Cycles) : (s.modCyc f).dram = s.dram := rfl
@[simp] theorem State.modCyc_vis (s : State) (f : Cycles → Cycles) : (s.modCyc f).vis = s.vis := rfl
@[simp] theorem State.modCyc_wins (s : State) (f : Cycles → Cycles) : (s.modCyc f).wins = s.wins := rfl
@[simp] theorem State.modCyc_exts (s : State) (f : Cycles → Cycles) : (s.modCyc f).exts = s.exts := rfl
@[simp] theorem State.modCyc_home (s : State) (f : Cycles → Cycles) : (s.modCyc f).home = s.home := rfl
@[simp] theorem State.modCyc_regions (s : State) (f : Cycles → Cycles) : (s.modCyc f).regions = s.regions := rfl
@[simp] theorem State.modCyc_clusters (s : State) (f : Cycles → Cycles) : (s.modCyc f).clusters = s.clusters := rfl
@[simp] theorem State.modCyc_engines (s : State) (f : Cycles → Cycles) : (s.modCyc f).engines = s.engines := rfl
@[simp] theorem State.modCyc_chans (s : State) (f : Cycles → Cycles) : (s.modCyc f).chans = s.chans := rfl
@[simp] theorem State.modCyc_streams (s : State) (f : Cycles → Cycles) : (s.modCyc f).streams = s.streams := rfl
@[simp] theorem State.modCyc_progs (s : State) (f : Cycles → Cycles) : (s.modCyc f).progs = s.progs := rfl
@[simp] theorem State.modCyc_waiting (s : State) (f : Cycles → Cycles) : (s.modCyc f).waiting = s.waiting := rfl
@[simp] theorem State.modCyc_opLooks (s : State) (f : Cycles → Cycles) : (s.modCyc f).opLooks = s.opLooks := rfl
@[simp] theorem State.modCyc_reqNo (s : State) (f : Cycles → Cycles) : (s.modCyc f).reqNo = s.reqNo := rfl
@[simp] theorem State.modCyc_outbox (s : State) (f : Cycles → Cycles) : (s.modCyc f).outbox = s.outbox := rfl
@[simp] theorem State.modCyc_fabric (s : State) (f : Cycles → Cycles) : (s.modCyc f).fabric = s.fabric := rfl
@[simp] theorem State.modCyc_sched (s : State) (f : Cycles → Cycles) : (s.modCyc f).sched = s.sched := rfl
@[simp] theorem State.modCyc_pair (s : State) (f : Cycles → Cycles) : (s.modCyc f).pair = s.pair := rfl
@[simp] theorem State.modCyc_complexes (s : State) (f : Cycles → Cycles) : (s.modCyc f).complexes = s.complexes := rfl
@[simp] theorem State.modCyc_hostPorts (s : State) (f : Cycles → Cycles) : (s.modCyc f).hostPorts = s.hostPorts := rfl
@[simp] theorem State.modCyc_revokes (s : State) (f : Cycles → Cycles) : (s.modCyc f).revokes = s.revokes := rfl
@[simp] theorem State.modCyc_drains (s : State) (f : Cycles → Cycles) : (s.modCyc f).drains = s.drains := rfl
@[simp] theorem State.modCyc_log (s : State) (f : Cycles → Cycles) : (s.modCyc f).log = s.log := rfl
@[simp] theorem State.modCyc_pending (s : State) (f : Cycles → Cycles) : (s.modCyc f).pending = s.pending := rfl
@[simp] theorem State.modCyc_get_vi (s : State) (f : Cycles → Cycles) (m : Nat) : (s.modCyc f).vi m = s.vi m := rfl
@[simp] theorem State.modCyc_get_win (s : State) (f : Cycles → Cycles) (m : Nat) : (s.modCyc f).win m = s.win m := rfl
@[simp] theorem State.modCyc_get_ext (s : State) (f : Cycles → Cycles) (m : Nat) : (s.modCyc f).ext m = s.ext m := rfl
@[simp] theorem State.modCyc_get_region (s : State) (f : Cycles → Cycles) (m : Nat) : (s.modCyc f).region m = s.region m := rfl
@[simp] theorem State.modCyc_get_cluster (s : State) (f : Cycles → Cycles) (m : Nat) : (s.modCyc f).cluster m = s.cluster m := rfl
@[simp] theorem State.modCyc_get_engine (s : State) (f : Cycles → Cycles) (m : Nat) : (s.modCyc f).engine m = s.engine m := rfl
@[simp] theorem State.modCyc_get_chan (s : State) (f : Cycles → Cycles) (m : Nat) : (s.modCyc f).chan m = s.chan m := rfl
@[simp] theorem State.modCyc_get_port (s : State) (f : Cycles → Cycles) (m : Nat) : (s.modCyc f).port m = s.port m := rfl
@[simp] theorem State.modCyc_get_die (s : State) (f : Cycles → Cycles) (m : Nat) : (s.modCyc f).die m = s.die m := rfl
@[simp] theorem State.modCyc_get_node (s : State) (f : Cycles → Cycles) (m : Nat) : (s.modCyc f).node m = s.node m := rfl
@[simp] theorem State.modCyc_get_complex (s : State) (f : Cycles → Cycles) (m : Nat) : (s.modCyc f).complex m = s.complex m := rfl
@[simp] theorem State.modCyc_get_hostPort (s : State) (f : Cycles → Cycles) (m : Nat) : (s.modCyc f).hostPort m = s.hostPort m := rfl
@[simp] theorem State.modCyc_get_diePower (s : State) (f : Cycles → Cycles) (m : Nat) : (s.modCyc f).diePower m = s.diePower m := rfl
@[simp] theorem State.modCyc_get_stream (s : State) (f : Cycles → Cycles) (m : Nat) : (s.modCyc f).stream m = s.stream m := rfl
@[simp] theorem State.modCyc_get_page (s : State) (f : Cycles → Cycles) (m : Nat) : (s.modCyc f).page m = s.page m := rfl
@[simp] theorem State.modHome_now (s : State) (f : Home → Home) : (s.modHome f).now = s.now := rfl
@[simp] theorem State.modHome_free (s : State) (f : Home → Home) : (s.modHome f).free = s.free := rfl
@[simp] theorem State.modHome_kAbsent (s : State) (f : Home → Home) : (s.modHome f).kAbsent = s.kAbsent := rfl
@[simp] theorem State.modHome_boot (s : State) (f : Home → Home) : (s.modHome f).boot = s.boot := rfl
@[simp] theorem State.modHome_aon (s : State) (f : Home → Home) : (s.modHome f).aon = s.aon := rfl
@[simp] theorem State.modHome_power (s : State) (f : Home → Home) : (s.modHome f).power = s.power := rfl
@[simp] theorem State.modHome_dram (s : State) (f : Home → Home) : (s.modHome f).dram = s.dram := rfl
@[simp] theorem State.modHome_vis (s : State) (f : Home → Home) : (s.modHome f).vis = s.vis := rfl
@[simp] theorem State.modHome_wins (s : State) (f : Home → Home) : (s.modHome f).wins = s.wins := rfl
@[simp] theorem State.modHome_exts (s : State) (f : Home → Home) : (s.modHome f).exts = s.exts := rfl
@[simp] theorem State.modHome_regions (s : State) (f : Home → Home) : (s.modHome f).regions = s.regions := rfl
@[simp] theorem State.modHome_clusters (s : State) (f : Home → Home) : (s.modHome f).clusters = s.clusters := rfl
@[simp] theorem State.modHome_engines (s : State) (f : Home → Home) : (s.modHome f).engines = s.engines := rfl
@[simp] theorem State.modHome_chans (s : State) (f : Home → Home) : (s.modHome f).chans = s.chans := rfl
@[simp] theorem State.modHome_streams (s : State) (f : Home → Home) : (s.modHome f).streams = s.streams := rfl
@[simp] theorem State.modHome_progs (s : State) (f : Home → Home) : (s.modHome f).progs = s.progs := rfl
@[simp] theorem State.modHome_waiting (s : State) (f : Home → Home) : (s.modHome f).waiting = s.waiting := rfl
@[simp] theorem State.modHome_opLooks (s : State) (f : Home → Home) : (s.modHome f).opLooks = s.opLooks := rfl
@[simp] theorem State.modHome_reqNo (s : State) (f : Home → Home) : (s.modHome f).reqNo = s.reqNo := rfl
@[simp] theorem State.modHome_outbox (s : State) (f : Home → Home) : (s.modHome f).outbox = s.outbox := rfl
@[simp] theorem State.modHome_fabric (s : State) (f : Home → Home) : (s.modHome f).fabric = s.fabric := rfl
@[simp] theorem State.modHome_sched (s : State) (f : Home → Home) : (s.modHome f).sched = s.sched := rfl
@[simp] theorem State.modHome_pair (s : State) (f : Home → Home) : (s.modHome f).pair = s.pair := rfl
@[simp] theorem State.modHome_cyc (s : State) (f : Home → Home) : (s.modHome f).cyc = s.cyc := rfl
@[simp] theorem State.modHome_complexes (s : State) (f : Home → Home) : (s.modHome f).complexes = s.complexes := rfl
@[simp] theorem State.modHome_hostPorts (s : State) (f : Home → Home) : (s.modHome f).hostPorts = s.hostPorts := rfl
@[simp] theorem State.modHome_revokes (s : State) (f : Home → Home) : (s.modHome f).revokes = s.revokes := rfl
@[simp] theorem State.modHome_drains (s : State) (f : Home → Home) : (s.modHome f).drains = s.drains := rfl
@[simp] theorem State.modHome_log (s : State) (f : Home → Home) : (s.modHome f).log = s.log := rfl
@[simp] theorem State.modHome_pending (s : State) (f : Home → Home) : (s.modHome f).pending = s.pending := rfl
@[simp] theorem State.modHome_get_vi (s : State) (f : Home → Home) (m : Nat) : (s.modHome f).vi m = s.vi m := rfl
@[simp] theorem State.modHome_get_win (s : State) (f : Home → Home) (m : Nat) : (s.modHome f).win m = s.win m := rfl
@[simp] theorem State.modHome_get_ext (s : State) (f : Home → Home) (m : Nat) : (s.modHome f).ext m = s.ext m := rfl
@[simp] theorem State.modHome_get_region (s : State) (f : Home → Home) (m : Nat) : (s.modHome f).region m = s.region m := rfl
@[simp] theorem State.modHome_get_cluster (s : State) (f : Home → Home) (m : Nat) : (s.modHome f).cluster m = s.cluster m := rfl
@[simp] theorem State.modHome_get_engine (s : State) (f : Home → Home) (m : Nat) : (s.modHome f).engine m = s.engine m := rfl
@[simp] theorem State.modHome_get_chan (s : State) (f : Home → Home) (m : Nat) : (s.modHome f).chan m = s.chan m := rfl
@[simp] theorem State.modHome_get_port (s : State) (f : Home → Home) (m : Nat) : (s.modHome f).port m = s.port m := rfl
@[simp] theorem State.modHome_get_die (s : State) (f : Home → Home) (m : Nat) : (s.modHome f).die m = s.die m := rfl
@[simp] theorem State.modHome_get_node (s : State) (f : Home → Home) (m : Nat) : (s.modHome f).node m = s.node m := rfl
@[simp] theorem State.modHome_get_complex (s : State) (f : Home → Home) (m : Nat) : (s.modHome f).complex m = s.complex m := rfl
@[simp] theorem State.modHome_get_hostPort (s : State) (f : Home → Home) (m : Nat) : (s.modHome f).hostPort m = s.hostPort m := rfl
@[simp] theorem State.modHome_get_diePower (s : State) (f : Home → Home) (m : Nat) : (s.modHome f).diePower m = s.diePower m := rfl
@[simp] theorem State.modHome_get_stream (s : State) (f : Home → Home) (m : Nat) : (s.modHome f).stream m = s.stream m := rfl
@[simp] theorem State.modHome_get_page (s : State) (f : Home → Home) (m : Nat) : (s.modHome f).page m = s.page m := rfl
@[simp] theorem State.modBoot_now (s : State) (f : Boot → Boot) : (s.modBoot f).now = s.now := rfl
@[simp] theorem State.modBoot_free (s : State) (f : Boot → Boot) : (s.modBoot f).free = s.free := rfl
@[simp] theorem State.modBoot_kAbsent (s : State) (f : Boot → Boot) : (s.modBoot f).kAbsent = s.kAbsent := rfl
@[simp] theorem State.modBoot_aon (s : State) (f : Boot → Boot) : (s.modBoot f).aon = s.aon := rfl
@[simp] theorem State.modBoot_power (s : State) (f : Boot → Boot) : (s.modBoot f).power = s.power := rfl
@[simp] theorem State.modBoot_dram (s : State) (f : Boot → Boot) : (s.modBoot f).dram = s.dram := rfl
@[simp] theorem State.modBoot_vis (s : State) (f : Boot → Boot) : (s.modBoot f).vis = s.vis := rfl
@[simp] theorem State.modBoot_wins (s : State) (f : Boot → Boot) : (s.modBoot f).wins = s.wins := rfl
@[simp] theorem State.modBoot_exts (s : State) (f : Boot → Boot) : (s.modBoot f).exts = s.exts := rfl
@[simp] theorem State.modBoot_home (s : State) (f : Boot → Boot) : (s.modBoot f).home = s.home := rfl
@[simp] theorem State.modBoot_regions (s : State) (f : Boot → Boot) : (s.modBoot f).regions = s.regions := rfl
@[simp] theorem State.modBoot_clusters (s : State) (f : Boot → Boot) : (s.modBoot f).clusters = s.clusters := rfl
@[simp] theorem State.modBoot_engines (s : State) (f : Boot → Boot) : (s.modBoot f).engines = s.engines := rfl
@[simp] theorem State.modBoot_chans (s : State) (f : Boot → Boot) : (s.modBoot f).chans = s.chans := rfl
@[simp] theorem State.modBoot_streams (s : State) (f : Boot → Boot) : (s.modBoot f).streams = s.streams := rfl
@[simp] theorem State.modBoot_progs (s : State) (f : Boot → Boot) : (s.modBoot f).progs = s.progs := rfl
@[simp] theorem State.modBoot_waiting (s : State) (f : Boot → Boot) : (s.modBoot f).waiting = s.waiting := rfl
@[simp] theorem State.modBoot_opLooks (s : State) (f : Boot → Boot) : (s.modBoot f).opLooks = s.opLooks := rfl
@[simp] theorem State.modBoot_reqNo (s : State) (f : Boot → Boot) : (s.modBoot f).reqNo = s.reqNo := rfl
@[simp] theorem State.modBoot_outbox (s : State) (f : Boot → Boot) : (s.modBoot f).outbox = s.outbox := rfl
@[simp] theorem State.modBoot_fabric (s : State) (f : Boot → Boot) : (s.modBoot f).fabric = s.fabric := rfl
@[simp] theorem State.modBoot_sched (s : State) (f : Boot → Boot) : (s.modBoot f).sched = s.sched := rfl
@[simp] theorem State.modBoot_pair (s : State) (f : Boot → Boot) : (s.modBoot f).pair = s.pair := rfl
@[simp] theorem State.modBoot_cyc (s : State) (f : Boot → Boot) : (s.modBoot f).cyc = s.cyc := rfl
@[simp] theorem State.modBoot_complexes (s : State) (f : Boot → Boot) : (s.modBoot f).complexes = s.complexes := rfl
@[simp] theorem State.modBoot_hostPorts (s : State) (f : Boot → Boot) : (s.modBoot f).hostPorts = s.hostPorts := rfl
@[simp] theorem State.modBoot_revokes (s : State) (f : Boot → Boot) : (s.modBoot f).revokes = s.revokes := rfl
@[simp] theorem State.modBoot_drains (s : State) (f : Boot → Boot) : (s.modBoot f).drains = s.drains := rfl
@[simp] theorem State.modBoot_log (s : State) (f : Boot → Boot) : (s.modBoot f).log = s.log := rfl
@[simp] theorem State.modBoot_pending (s : State) (f : Boot → Boot) : (s.modBoot f).pending = s.pending := rfl
@[simp] theorem State.modBoot_get_vi (s : State) (f : Boot → Boot) (m : Nat) : (s.modBoot f).vi m = s.vi m := rfl
@[simp] theorem State.modBoot_get_win (s : State) (f : Boot → Boot) (m : Nat) : (s.modBoot f).win m = s.win m := rfl
@[simp] theorem State.modBoot_get_ext (s : State) (f : Boot → Boot) (m : Nat) : (s.modBoot f).ext m = s.ext m := rfl
@[simp] theorem State.modBoot_get_region (s : State) (f : Boot → Boot) (m : Nat) : (s.modBoot f).region m = s.region m := rfl
@[simp] theorem State.modBoot_get_cluster (s : State) (f : Boot → Boot) (m : Nat) : (s.modBoot f).cluster m = s.cluster m := rfl
@[simp] theorem State.modBoot_get_engine (s : State) (f : Boot → Boot) (m : Nat) : (s.modBoot f).engine m = s.engine m := rfl
@[simp] theorem State.modBoot_get_chan (s : State) (f : Boot → Boot) (m : Nat) : (s.modBoot f).chan m = s.chan m := rfl
@[simp] theorem State.modBoot_get_port (s : State) (f : Boot → Boot) (m : Nat) : (s.modBoot f).port m = s.port m := rfl
@[simp] theorem State.modBoot_get_die (s : State) (f : Boot → Boot) (m : Nat) : (s.modBoot f).die m = s.die m := rfl
@[simp] theorem State.modBoot_get_node (s : State) (f : Boot → Boot) (m : Nat) : (s.modBoot f).node m = s.node m := rfl
@[simp] theorem State.modBoot_get_complex (s : State) (f : Boot → Boot) (m : Nat) : (s.modBoot f).complex m = s.complex m := rfl
@[simp] theorem State.modBoot_get_hostPort (s : State) (f : Boot → Boot) (m : Nat) : (s.modBoot f).hostPort m = s.hostPort m := rfl
@[simp] theorem State.modBoot_get_diePower (s : State) (f : Boot → Boot) (m : Nat) : (s.modBoot f).diePower m = s.diePower m := rfl
@[simp] theorem State.modBoot_get_stream (s : State) (f : Boot → Boot) (m : Nat) : (s.modBoot f).stream m = s.stream m := rfl
@[simp] theorem State.modBoot_get_page (s : State) (f : Boot → Boot) (m : Nat) : (s.modBoot f).page m = s.page m := rfl
@[simp] theorem State.modAon_now (s : State) (f : AlwaysOn → AlwaysOn) : (s.modAon f).now = s.now := rfl
@[simp] theorem State.modAon_free (s : State) (f : AlwaysOn → AlwaysOn) : (s.modAon f).free = s.free := rfl
@[simp] theorem State.modAon_kAbsent (s : State) (f : AlwaysOn → AlwaysOn) : (s.modAon f).kAbsent = s.kAbsent := rfl
@[simp] theorem State.modAon_boot (s : State) (f : AlwaysOn → AlwaysOn) : (s.modAon f).boot = s.boot := rfl
@[simp] theorem State.modAon_power (s : State) (f : AlwaysOn → AlwaysOn) : (s.modAon f).power = s.power := rfl
@[simp] theorem State.modAon_dram (s : State) (f : AlwaysOn → AlwaysOn) : (s.modAon f).dram = s.dram := rfl
@[simp] theorem State.modAon_vis (s : State) (f : AlwaysOn → AlwaysOn) : (s.modAon f).vis = s.vis := rfl
@[simp] theorem State.modAon_wins (s : State) (f : AlwaysOn → AlwaysOn) : (s.modAon f).wins = s.wins := rfl
@[simp] theorem State.modAon_exts (s : State) (f : AlwaysOn → AlwaysOn) : (s.modAon f).exts = s.exts := rfl
@[simp] theorem State.modAon_home (s : State) (f : AlwaysOn → AlwaysOn) : (s.modAon f).home = s.home := rfl
@[simp] theorem State.modAon_regions (s : State) (f : AlwaysOn → AlwaysOn) : (s.modAon f).regions = s.regions := rfl
@[simp] theorem State.modAon_clusters (s : State) (f : AlwaysOn → AlwaysOn) : (s.modAon f).clusters = s.clusters := rfl
@[simp] theorem State.modAon_engines (s : State) (f : AlwaysOn → AlwaysOn) : (s.modAon f).engines = s.engines := rfl
@[simp] theorem State.modAon_chans (s : State) (f : AlwaysOn → AlwaysOn) : (s.modAon f).chans = s.chans := rfl
@[simp] theorem State.modAon_streams (s : State) (f : AlwaysOn → AlwaysOn) : (s.modAon f).streams = s.streams := rfl
@[simp] theorem State.modAon_progs (s : State) (f : AlwaysOn → AlwaysOn) : (s.modAon f).progs = s.progs := rfl
@[simp] theorem State.modAon_waiting (s : State) (f : AlwaysOn → AlwaysOn) : (s.modAon f).waiting = s.waiting := rfl
@[simp] theorem State.modAon_opLooks (s : State) (f : AlwaysOn → AlwaysOn) : (s.modAon f).opLooks = s.opLooks := rfl
@[simp] theorem State.modAon_reqNo (s : State) (f : AlwaysOn → AlwaysOn) : (s.modAon f).reqNo = s.reqNo := rfl
@[simp] theorem State.modAon_outbox (s : State) (f : AlwaysOn → AlwaysOn) : (s.modAon f).outbox = s.outbox := rfl
@[simp] theorem State.modAon_fabric (s : State) (f : AlwaysOn → AlwaysOn) : (s.modAon f).fabric = s.fabric := rfl
@[simp] theorem State.modAon_sched (s : State) (f : AlwaysOn → AlwaysOn) : (s.modAon f).sched = s.sched := rfl
@[simp] theorem State.modAon_pair (s : State) (f : AlwaysOn → AlwaysOn) : (s.modAon f).pair = s.pair := rfl
@[simp] theorem State.modAon_cyc (s : State) (f : AlwaysOn → AlwaysOn) : (s.modAon f).cyc = s.cyc := rfl
@[simp] theorem State.modAon_complexes (s : State) (f : AlwaysOn → AlwaysOn) : (s.modAon f).complexes = s.complexes := rfl
@[simp] theorem State.modAon_hostPorts (s : State) (f : AlwaysOn → AlwaysOn) : (s.modAon f).hostPorts = s.hostPorts := rfl
@[simp] theorem State.modAon_revokes (s : State) (f : AlwaysOn → AlwaysOn) : (s.modAon f).revokes = s.revokes := rfl
@[simp] theorem State.modAon_drains (s : State) (f : AlwaysOn → AlwaysOn) : (s.modAon f).drains = s.drains := rfl
@[simp] theorem State.modAon_log (s : State) (f : AlwaysOn → AlwaysOn) : (s.modAon f).log = s.log := rfl
@[simp] theorem State.modAon_pending (s : State) (f : AlwaysOn → AlwaysOn) : (s.modAon f).pending = s.pending := rfl
@[simp] theorem State.modAon_get_vi (s : State) (f : AlwaysOn → AlwaysOn) (m : Nat) : (s.modAon f).vi m = s.vi m := rfl
@[simp] theorem State.modAon_get_win (s : State) (f : AlwaysOn → AlwaysOn) (m : Nat) : (s.modAon f).win m = s.win m := rfl
@[simp] theorem State.modAon_get_ext (s : State) (f : AlwaysOn → AlwaysOn) (m : Nat) : (s.modAon f).ext m = s.ext m := rfl
@[simp] theorem State.modAon_get_region (s : State) (f : AlwaysOn → AlwaysOn) (m : Nat) : (s.modAon f).region m = s.region m := rfl
@[simp] theorem State.modAon_get_cluster (s : State) (f : AlwaysOn → AlwaysOn) (m : Nat) : (s.modAon f).cluster m = s.cluster m := rfl
@[simp] theorem State.modAon_get_engine (s : State) (f : AlwaysOn → AlwaysOn) (m : Nat) : (s.modAon f).engine m = s.engine m := rfl
@[simp] theorem State.modAon_get_chan (s : State) (f : AlwaysOn → AlwaysOn) (m : Nat) : (s.modAon f).chan m = s.chan m := rfl
@[simp] theorem State.modAon_get_port (s : State) (f : AlwaysOn → AlwaysOn) (m : Nat) : (s.modAon f).port m = s.port m := rfl
@[simp] theorem State.modAon_get_die (s : State) (f : AlwaysOn → AlwaysOn) (m : Nat) : (s.modAon f).die m = s.die m := rfl
@[simp] theorem State.modAon_get_node (s : State) (f : AlwaysOn → AlwaysOn) (m : Nat) : (s.modAon f).node m = s.node m := rfl
@[simp] theorem State.modAon_get_complex (s : State) (f : AlwaysOn → AlwaysOn) (m : Nat) : (s.modAon f).complex m = s.complex m := rfl
@[simp] theorem State.modAon_get_hostPort (s : State) (f : AlwaysOn → AlwaysOn) (m : Nat) : (s.modAon f).hostPort m = s.hostPort m := rfl
@[simp] theorem State.modAon_get_diePower (s : State) (f : AlwaysOn → AlwaysOn) (m : Nat) : (s.modAon f).diePower m = s.diePower m := rfl
@[simp] theorem State.modAon_get_stream (s : State) (f : AlwaysOn → AlwaysOn) (m : Nat) : (s.modAon f).stream m = s.stream m := rfl
@[simp] theorem State.modAon_get_page (s : State) (f : AlwaysOn → AlwaysOn) (m : Nat) : (s.modAon f).page m = s.page m := rfl
@[simp] theorem State.modFabric_now (s : State) (f : Fabric → Fabric) : (s.modFabric f).now = s.now := rfl
@[simp] theorem State.modFabric_free (s : State) (f : Fabric → Fabric) : (s.modFabric f).free = s.free := rfl
@[simp] theorem State.modFabric_kAbsent (s : State) (f : Fabric → Fabric) : (s.modFabric f).kAbsent = s.kAbsent := rfl
@[simp] theorem State.modFabric_boot (s : State) (f : Fabric → Fabric) : (s.modFabric f).boot = s.boot := rfl
@[simp] theorem State.modFabric_aon (s : State) (f : Fabric → Fabric) : (s.modFabric f).aon = s.aon := rfl
@[simp] theorem State.modFabric_power (s : State) (f : Fabric → Fabric) : (s.modFabric f).power = s.power := rfl
@[simp] theorem State.modFabric_dram (s : State) (f : Fabric → Fabric) : (s.modFabric f).dram = s.dram := rfl
@[simp] theorem State.modFabric_vis (s : State) (f : Fabric → Fabric) : (s.modFabric f).vis = s.vis := rfl
@[simp] theorem State.modFabric_wins (s : State) (f : Fabric → Fabric) : (s.modFabric f).wins = s.wins := rfl
@[simp] theorem State.modFabric_exts (s : State) (f : Fabric → Fabric) : (s.modFabric f).exts = s.exts := rfl
@[simp] theorem State.modFabric_home (s : State) (f : Fabric → Fabric) : (s.modFabric f).home = s.home := rfl
@[simp] theorem State.modFabric_regions (s : State) (f : Fabric → Fabric) : (s.modFabric f).regions = s.regions := rfl
@[simp] theorem State.modFabric_clusters (s : State) (f : Fabric → Fabric) : (s.modFabric f).clusters = s.clusters := rfl
@[simp] theorem State.modFabric_engines (s : State) (f : Fabric → Fabric) : (s.modFabric f).engines = s.engines := rfl
@[simp] theorem State.modFabric_chans (s : State) (f : Fabric → Fabric) : (s.modFabric f).chans = s.chans := rfl
@[simp] theorem State.modFabric_streams (s : State) (f : Fabric → Fabric) : (s.modFabric f).streams = s.streams := rfl
@[simp] theorem State.modFabric_progs (s : State) (f : Fabric → Fabric) : (s.modFabric f).progs = s.progs := rfl
@[simp] theorem State.modFabric_waiting (s : State) (f : Fabric → Fabric) : (s.modFabric f).waiting = s.waiting := rfl
@[simp] theorem State.modFabric_opLooks (s : State) (f : Fabric → Fabric) : (s.modFabric f).opLooks = s.opLooks := rfl
@[simp] theorem State.modFabric_reqNo (s : State) (f : Fabric → Fabric) : (s.modFabric f).reqNo = s.reqNo := rfl
@[simp] theorem State.modFabric_outbox (s : State) (f : Fabric → Fabric) : (s.modFabric f).outbox = s.outbox := rfl
@[simp] theorem State.modFabric_sched (s : State) (f : Fabric → Fabric) : (s.modFabric f).sched = s.sched := rfl
@[simp] theorem State.modFabric_pair (s : State) (f : Fabric → Fabric) : (s.modFabric f).pair = s.pair := rfl
@[simp] theorem State.modFabric_cyc (s : State) (f : Fabric → Fabric) : (s.modFabric f).cyc = s.cyc := rfl
@[simp] theorem State.modFabric_complexes (s : State) (f : Fabric → Fabric) : (s.modFabric f).complexes = s.complexes := rfl
@[simp] theorem State.modFabric_hostPorts (s : State) (f : Fabric → Fabric) : (s.modFabric f).hostPorts = s.hostPorts := rfl
@[simp] theorem State.modFabric_revokes (s : State) (f : Fabric → Fabric) : (s.modFabric f).revokes = s.revokes := rfl
@[simp] theorem State.modFabric_drains (s : State) (f : Fabric → Fabric) : (s.modFabric f).drains = s.drains := rfl
@[simp] theorem State.modFabric_log (s : State) (f : Fabric → Fabric) : (s.modFabric f).log = s.log := rfl
@[simp] theorem State.modFabric_pending (s : State) (f : Fabric → Fabric) : (s.modFabric f).pending = s.pending := rfl
@[simp] theorem State.modFabric_get_vi (s : State) (f : Fabric → Fabric) (m : Nat) : (s.modFabric f).vi m = s.vi m := rfl
@[simp] theorem State.modFabric_get_win (s : State) (f : Fabric → Fabric) (m : Nat) : (s.modFabric f).win m = s.win m := rfl
@[simp] theorem State.modFabric_get_ext (s : State) (f : Fabric → Fabric) (m : Nat) : (s.modFabric f).ext m = s.ext m := rfl
@[simp] theorem State.modFabric_get_region (s : State) (f : Fabric → Fabric) (m : Nat) : (s.modFabric f).region m = s.region m := rfl
@[simp] theorem State.modFabric_get_cluster (s : State) (f : Fabric → Fabric) (m : Nat) : (s.modFabric f).cluster m = s.cluster m := rfl
@[simp] theorem State.modFabric_get_engine (s : State) (f : Fabric → Fabric) (m : Nat) : (s.modFabric f).engine m = s.engine m := rfl
@[simp] theorem State.modFabric_get_chan (s : State) (f : Fabric → Fabric) (m : Nat) : (s.modFabric f).chan m = s.chan m := rfl
@[simp] theorem State.modFabric_get_complex (s : State) (f : Fabric → Fabric) (m : Nat) : (s.modFabric f).complex m = s.complex m := rfl
@[simp] theorem State.modFabric_get_hostPort (s : State) (f : Fabric → Fabric) (m : Nat) : (s.modFabric f).hostPort m = s.hostPort m := rfl
@[simp] theorem State.modFabric_get_diePower (s : State) (f : Fabric → Fabric) (m : Nat) : (s.modFabric f).diePower m = s.diePower m := rfl
@[simp] theorem State.modFabric_get_stream (s : State) (f : Fabric → Fabric) (m : Nat) : (s.modFabric f).stream m = s.stream m := rfl
@[simp] theorem State.modFabric_get_page (s : State) (f : Fabric → Fabric) (m : Nat) : (s.modFabric f).page m = s.page m := rfl
@[simp] theorem State.modSched_now (s : State) (f : Sched → Sched) : (s.modSched f).now = s.now := rfl
@[simp] theorem State.modSched_free (s : State) (f : Sched → Sched) : (s.modSched f).free = s.free := rfl
@[simp] theorem State.modSched_kAbsent (s : State) (f : Sched → Sched) : (s.modSched f).kAbsent = s.kAbsent := rfl
@[simp] theorem State.modSched_boot (s : State) (f : Sched → Sched) : (s.modSched f).boot = s.boot := rfl
@[simp] theorem State.modSched_aon (s : State) (f : Sched → Sched) : (s.modSched f).aon = s.aon := rfl
@[simp] theorem State.modSched_power (s : State) (f : Sched → Sched) : (s.modSched f).power = s.power := rfl
@[simp] theorem State.modSched_dram (s : State) (f : Sched → Sched) : (s.modSched f).dram = s.dram := rfl
@[simp] theorem State.modSched_vis (s : State) (f : Sched → Sched) : (s.modSched f).vis = s.vis := rfl
@[simp] theorem State.modSched_wins (s : State) (f : Sched → Sched) : (s.modSched f).wins = s.wins := rfl
@[simp] theorem State.modSched_exts (s : State) (f : Sched → Sched) : (s.modSched f).exts = s.exts := rfl
@[simp] theorem State.modSched_home (s : State) (f : Sched → Sched) : (s.modSched f).home = s.home := rfl
@[simp] theorem State.modSched_regions (s : State) (f : Sched → Sched) : (s.modSched f).regions = s.regions := rfl
@[simp] theorem State.modSched_clusters (s : State) (f : Sched → Sched) : (s.modSched f).clusters = s.clusters := rfl
@[simp] theorem State.modSched_engines (s : State) (f : Sched → Sched) : (s.modSched f).engines = s.engines := rfl
@[simp] theorem State.modSched_chans (s : State) (f : Sched → Sched) : (s.modSched f).chans = s.chans := rfl
@[simp] theorem State.modSched_streams (s : State) (f : Sched → Sched) : (s.modSched f).streams = s.streams := rfl
@[simp] theorem State.modSched_progs (s : State) (f : Sched → Sched) : (s.modSched f).progs = s.progs := rfl
@[simp] theorem State.modSched_waiting (s : State) (f : Sched → Sched) : (s.modSched f).waiting = s.waiting := rfl
@[simp] theorem State.modSched_opLooks (s : State) (f : Sched → Sched) : (s.modSched f).opLooks = s.opLooks := rfl
@[simp] theorem State.modSched_reqNo (s : State) (f : Sched → Sched) : (s.modSched f).reqNo = s.reqNo := rfl
@[simp] theorem State.modSched_outbox (s : State) (f : Sched → Sched) : (s.modSched f).outbox = s.outbox := rfl
@[simp] theorem State.modSched_fabric (s : State) (f : Sched → Sched) : (s.modSched f).fabric = s.fabric := rfl
@[simp] theorem State.modSched_pair (s : State) (f : Sched → Sched) : (s.modSched f).pair = s.pair := rfl
@[simp] theorem State.modSched_cyc (s : State) (f : Sched → Sched) : (s.modSched f).cyc = s.cyc := rfl
@[simp] theorem State.modSched_complexes (s : State) (f : Sched → Sched) : (s.modSched f).complexes = s.complexes := rfl
@[simp] theorem State.modSched_hostPorts (s : State) (f : Sched → Sched) : (s.modSched f).hostPorts = s.hostPorts := rfl
@[simp] theorem State.modSched_revokes (s : State) (f : Sched → Sched) : (s.modSched f).revokes = s.revokes := rfl
@[simp] theorem State.modSched_drains (s : State) (f : Sched → Sched) : (s.modSched f).drains = s.drains := rfl
@[simp] theorem State.modSched_log (s : State) (f : Sched → Sched) : (s.modSched f).log = s.log := rfl
@[simp] theorem State.modSched_pending (s : State) (f : Sched → Sched) : (s.modSched f).pending = s.pending := rfl
@[simp] theorem State.modSched_get_vi (s : State) (f : Sched → Sched) (m : Nat) : (s.modSched f).vi m = s.vi m := rfl
@[simp] theorem State.modSched_get_win (s : State) (f : Sched → Sched) (m : Nat) : (s.modSched f).win m = s.win m := rfl
@[simp] theorem State.modSched_get_ext (s : State) (f : Sched → Sched) (m : Nat) : (s.modSched f).ext m = s.ext m := rfl
@[simp] theorem State.modSched_get_region (s : State) (f : Sched → Sched) (m : Nat) : (s.modSched f).region m = s.region m := rfl
@[simp] theorem State.modSched_get_cluster (s : State) (f : Sched → Sched) (m : Nat) : (s.modSched f).cluster m = s.cluster m := rfl
@[simp] theorem State.modSched_get_engine (s : State) (f : Sched → Sched) (m : Nat) : (s.modSched f).engine m = s.engine m := rfl
@[simp] theorem State.modSched_get_chan (s : State) (f : Sched → Sched) (m : Nat) : (s.modSched f).chan m = s.chan m := rfl
@[simp] theorem State.modSched_get_port (s : State) (f : Sched → Sched) (m : Nat) : (s.modSched f).port m = s.port m := rfl
@[simp] theorem State.modSched_get_die (s : State) (f : Sched → Sched) (m : Nat) : (s.modSched f).die m = s.die m := rfl
@[simp] theorem State.modSched_get_node (s : State) (f : Sched → Sched) (m : Nat) : (s.modSched f).node m = s.node m := rfl
@[simp] theorem State.modSched_get_complex (s : State) (f : Sched → Sched) (m : Nat) : (s.modSched f).complex m = s.complex m := rfl
@[simp] theorem State.modSched_get_hostPort (s : State) (f : Sched → Sched) (m : Nat) : (s.modSched f).hostPort m = s.hostPort m := rfl
@[simp] theorem State.modSched_get_diePower (s : State) (f : Sched → Sched) (m : Nat) : (s.modSched f).diePower m = s.diePower m := rfl
@[simp] theorem State.modSched_get_stream (s : State) (f : Sched → Sched) (m : Nat) : (s.modSched f).stream m = s.stream m := rfl
@[simp] theorem State.modSched_get_page (s : State) (f : Sched → Sched) (m : Nat) : (s.modSched f).page m = s.page m := rfl
@[simp] theorem State.modPower_now (s : State) (f : Power → Power) : (s.modPower f).now = s.now := rfl
@[simp] theorem State.modPower_free (s : State) (f : Power → Power) : (s.modPower f).free = s.free := rfl
@[simp] theorem State.modPower_kAbsent (s : State) (f : Power → Power) : (s.modPower f).kAbsent = s.kAbsent := rfl
@[simp] theorem State.modPower_boot (s : State) (f : Power → Power) : (s.modPower f).boot = s.boot := rfl
@[simp] theorem State.modPower_aon (s : State) (f : Power → Power) : (s.modPower f).aon = s.aon := rfl
@[simp] theorem State.modPower_dram (s : State) (f : Power → Power) : (s.modPower f).dram = s.dram := rfl
@[simp] theorem State.modPower_vis (s : State) (f : Power → Power) : (s.modPower f).vis = s.vis := rfl
@[simp] theorem State.modPower_wins (s : State) (f : Power → Power) : (s.modPower f).wins = s.wins := rfl
@[simp] theorem State.modPower_exts (s : State) (f : Power → Power) : (s.modPower f).exts = s.exts := rfl
@[simp] theorem State.modPower_home (s : State) (f : Power → Power) : (s.modPower f).home = s.home := rfl
@[simp] theorem State.modPower_regions (s : State) (f : Power → Power) : (s.modPower f).regions = s.regions := rfl
@[simp] theorem State.modPower_clusters (s : State) (f : Power → Power) : (s.modPower f).clusters = s.clusters := rfl
@[simp] theorem State.modPower_engines (s : State) (f : Power → Power) : (s.modPower f).engines = s.engines := rfl
@[simp] theorem State.modPower_chans (s : State) (f : Power → Power) : (s.modPower f).chans = s.chans := rfl
@[simp] theorem State.modPower_streams (s : State) (f : Power → Power) : (s.modPower f).streams = s.streams := rfl
@[simp] theorem State.modPower_progs (s : State) (f : Power → Power) : (s.modPower f).progs = s.progs := rfl
@[simp] theorem State.modPower_waiting (s : State) (f : Power → Power) : (s.modPower f).waiting = s.waiting := rfl
@[simp] theorem State.modPower_opLooks (s : State) (f : Power → Power) : (s.modPower f).opLooks = s.opLooks := rfl
@[simp] theorem State.modPower_reqNo (s : State) (f : Power → Power) : (s.modPower f).reqNo = s.reqNo := rfl
@[simp] theorem State.modPower_outbox (s : State) (f : Power → Power) : (s.modPower f).outbox = s.outbox := rfl
@[simp] theorem State.modPower_fabric (s : State) (f : Power → Power) : (s.modPower f).fabric = s.fabric := rfl
@[simp] theorem State.modPower_sched (s : State) (f : Power → Power) : (s.modPower f).sched = s.sched := rfl
@[simp] theorem State.modPower_pair (s : State) (f : Power → Power) : (s.modPower f).pair = s.pair := rfl
@[simp] theorem State.modPower_cyc (s : State) (f : Power → Power) : (s.modPower f).cyc = s.cyc := rfl
@[simp] theorem State.modPower_complexes (s : State) (f : Power → Power) : (s.modPower f).complexes = s.complexes := rfl
@[simp] theorem State.modPower_hostPorts (s : State) (f : Power → Power) : (s.modPower f).hostPorts = s.hostPorts := rfl
@[simp] theorem State.modPower_revokes (s : State) (f : Power → Power) : (s.modPower f).revokes = s.revokes := rfl
@[simp] theorem State.modPower_drains (s : State) (f : Power → Power) : (s.modPower f).drains = s.drains := rfl
@[simp] theorem State.modPower_log (s : State) (f : Power → Power) : (s.modPower f).log = s.log := rfl
@[simp] theorem State.modPower_pending (s : State) (f : Power → Power) : (s.modPower f).pending = s.pending := rfl
@[simp] theorem State.modPower_get_vi (s : State) (f : Power → Power) (m : Nat) : (s.modPower f).vi m = s.vi m := rfl
@[simp] theorem State.modPower_get_win (s : State) (f : Power → Power) (m : Nat) : (s.modPower f).win m = s.win m := rfl
@[simp] theorem State.modPower_get_ext (s : State) (f : Power → Power) (m : Nat) : (s.modPower f).ext m = s.ext m := rfl
@[simp] theorem State.modPower_get_region (s : State) (f : Power → Power) (m : Nat) : (s.modPower f).region m = s.region m := rfl
@[simp] theorem State.modPower_get_cluster (s : State) (f : Power → Power) (m : Nat) : (s.modPower f).cluster m = s.cluster m := rfl
@[simp] theorem State.modPower_get_engine (s : State) (f : Power → Power) (m : Nat) : (s.modPower f).engine m = s.engine m := rfl
@[simp] theorem State.modPower_get_chan (s : State) (f : Power → Power) (m : Nat) : (s.modPower f).chan m = s.chan m := rfl
@[simp] theorem State.modPower_get_port (s : State) (f : Power → Power) (m : Nat) : (s.modPower f).port m = s.port m := rfl
@[simp] theorem State.modPower_get_die (s : State) (f : Power → Power) (m : Nat) : (s.modPower f).die m = s.die m := rfl
@[simp] theorem State.modPower_get_node (s : State) (f : Power → Power) (m : Nat) : (s.modPower f).node m = s.node m := rfl
@[simp] theorem State.modPower_get_complex (s : State) (f : Power → Power) (m : Nat) : (s.modPower f).complex m = s.complex m := rfl
@[simp] theorem State.modPower_get_hostPort (s : State) (f : Power → Power) (m : Nat) : (s.modPower f).hostPort m = s.hostPort m := rfl
@[simp] theorem State.modPower_get_stream (s : State) (f : Power → Power) (m : Nat) : (s.modPower f).stream m = s.stream m := rfl
@[simp] theorem State.modPower_get_page (s : State) (f : Power → Power) (m : Nat) : (s.modPower f).page m = s.page m := rfl
@[simp] theorem State.emit_now (s : State) (o : OutPkt) : (s.emit o).now = s.now := rfl
@[simp] theorem State.emit_free (s : State) (o : OutPkt) : (s.emit o).free = s.free := rfl
@[simp] theorem State.emit_kAbsent (s : State) (o : OutPkt) : (s.emit o).kAbsent = s.kAbsent := rfl
@[simp] theorem State.emit_boot (s : State) (o : OutPkt) : (s.emit o).boot = s.boot := rfl
@[simp] theorem State.emit_aon (s : State) (o : OutPkt) : (s.emit o).aon = s.aon := rfl
@[simp] theorem State.emit_power (s : State) (o : OutPkt) : (s.emit o).power = s.power := rfl
@[simp] theorem State.emit_dram (s : State) (o : OutPkt) : (s.emit o).dram = s.dram := rfl
@[simp] theorem State.emit_vis (s : State) (o : OutPkt) : (s.emit o).vis = s.vis := rfl
@[simp] theorem State.emit_wins (s : State) (o : OutPkt) : (s.emit o).wins = s.wins := rfl
@[simp] theorem State.emit_exts (s : State) (o : OutPkt) : (s.emit o).exts = s.exts := rfl
@[simp] theorem State.emit_home (s : State) (o : OutPkt) : (s.emit o).home = s.home := rfl
@[simp] theorem State.emit_regions (s : State) (o : OutPkt) : (s.emit o).regions = s.regions := rfl
@[simp] theorem State.emit_clusters (s : State) (o : OutPkt) : (s.emit o).clusters = s.clusters := rfl
@[simp] theorem State.emit_engines (s : State) (o : OutPkt) : (s.emit o).engines = s.engines := rfl
@[simp] theorem State.emit_chans (s : State) (o : OutPkt) : (s.emit o).chans = s.chans := rfl
@[simp] theorem State.emit_streams (s : State) (o : OutPkt) : (s.emit o).streams = s.streams := rfl
@[simp] theorem State.emit_progs (s : State) (o : OutPkt) : (s.emit o).progs = s.progs := rfl
@[simp] theorem State.emit_waiting (s : State) (o : OutPkt) : (s.emit o).waiting = s.waiting := rfl
@[simp] theorem State.emit_opLooks (s : State) (o : OutPkt) : (s.emit o).opLooks = s.opLooks := rfl
@[simp] theorem State.emit_reqNo (s : State) (o : OutPkt) : (s.emit o).reqNo = s.reqNo := rfl
@[simp] theorem State.emit_fabric (s : State) (o : OutPkt) : (s.emit o).fabric = s.fabric := rfl
@[simp] theorem State.emit_sched (s : State) (o : OutPkt) : (s.emit o).sched = s.sched := rfl
@[simp] theorem State.emit_pair (s : State) (o : OutPkt) : (s.emit o).pair = s.pair := rfl
@[simp] theorem State.emit_cyc (s : State) (o : OutPkt) : (s.emit o).cyc = s.cyc := rfl
@[simp] theorem State.emit_complexes (s : State) (o : OutPkt) : (s.emit o).complexes = s.complexes := rfl
@[simp] theorem State.emit_hostPorts (s : State) (o : OutPkt) : (s.emit o).hostPorts = s.hostPorts := rfl
@[simp] theorem State.emit_revokes (s : State) (o : OutPkt) : (s.emit o).revokes = s.revokes := rfl
@[simp] theorem State.emit_drains (s : State) (o : OutPkt) : (s.emit o).drains = s.drains := rfl
@[simp] theorem State.emit_log (s : State) (o : OutPkt) : (s.emit o).log = s.log := rfl
@[simp] theorem State.emit_pending (s : State) (o : OutPkt) : (s.emit o).pending = s.pending := rfl
@[simp] theorem State.emit_get_vi (s : State) (o : OutPkt) (m : Nat) : (s.emit o).vi m = s.vi m := rfl
@[simp] theorem State.emit_get_win (s : State) (o : OutPkt) (m : Nat) : (s.emit o).win m = s.win m := rfl
@[simp] theorem State.emit_get_ext (s : State) (o : OutPkt) (m : Nat) : (s.emit o).ext m = s.ext m := rfl
@[simp] theorem State.emit_get_region (s : State) (o : OutPkt) (m : Nat) : (s.emit o).region m = s.region m := rfl
@[simp] theorem State.emit_get_cluster (s : State) (o : OutPkt) (m : Nat) : (s.emit o).cluster m = s.cluster m := rfl
@[simp] theorem State.emit_get_engine (s : State) (o : OutPkt) (m : Nat) : (s.emit o).engine m = s.engine m := rfl
@[simp] theorem State.emit_get_chan (s : State) (o : OutPkt) (m : Nat) : (s.emit o).chan m = s.chan m := rfl
@[simp] theorem State.emit_get_port (s : State) (o : OutPkt) (m : Nat) : (s.emit o).port m = s.port m := rfl
@[simp] theorem State.emit_get_die (s : State) (o : OutPkt) (m : Nat) : (s.emit o).die m = s.die m := rfl
@[simp] theorem State.emit_get_node (s : State) (o : OutPkt) (m : Nat) : (s.emit o).node m = s.node m := rfl
@[simp] theorem State.emit_get_complex (s : State) (o : OutPkt) (m : Nat) : (s.emit o).complex m = s.complex m := rfl
@[simp] theorem State.emit_get_hostPort (s : State) (o : OutPkt) (m : Nat) : (s.emit o).hostPort m = s.hostPort m := rfl
@[simp] theorem State.emit_get_diePower (s : State) (o : OutPkt) (m : Nat) : (s.emit o).diePower m = s.diePower m := rfl
@[simp] theorem State.emit_get_stream (s : State) (o : OutPkt) (m : Nat) : (s.emit o).stream m = s.stream m := rfl
@[simp] theorem State.emit_get_page (s : State) (o : OutPkt) (m : Nat) : (s.emit o).page m = s.page m := rfl
@[simp] theorem State.logRec_now (s : State) (k : Nat) (a : List Nat) : (s.logRec k a).now = s.now := rfl
@[simp] theorem State.logRec_free (s : State) (k : Nat) (a : List Nat) : (s.logRec k a).free = s.free := rfl
@[simp] theorem State.logRec_kAbsent (s : State) (k : Nat) (a : List Nat) : (s.logRec k a).kAbsent = s.kAbsent := rfl
@[simp] theorem State.logRec_boot (s : State) (k : Nat) (a : List Nat) : (s.logRec k a).boot = s.boot := rfl
@[simp] theorem State.logRec_aon (s : State) (k : Nat) (a : List Nat) : (s.logRec k a).aon = s.aon := rfl
@[simp] theorem State.logRec_power (s : State) (k : Nat) (a : List Nat) : (s.logRec k a).power = s.power := rfl
@[simp] theorem State.logRec_dram (s : State) (k : Nat) (a : List Nat) : (s.logRec k a).dram = s.dram := rfl
@[simp] theorem State.logRec_vis (s : State) (k : Nat) (a : List Nat) : (s.logRec k a).vis = s.vis := rfl
@[simp] theorem State.logRec_wins (s : State) (k : Nat) (a : List Nat) : (s.logRec k a).wins = s.wins := rfl
@[simp] theorem State.logRec_exts (s : State) (k : Nat) (a : List Nat) : (s.logRec k a).exts = s.exts := rfl
@[simp] theorem State.logRec_home (s : State) (k : Nat) (a : List Nat) : (s.logRec k a).home = s.home := rfl
@[simp] theorem State.logRec_regions (s : State) (k : Nat) (a : List Nat) : (s.logRec k a).regions = s.regions := rfl
@[simp] theorem State.logRec_clusters (s : State) (k : Nat) (a : List Nat) : (s.logRec k a).clusters = s.clusters := rfl
@[simp] theorem State.logRec_engines (s : State) (k : Nat) (a : List Nat) : (s.logRec k a).engines = s.engines := rfl
@[simp] theorem State.logRec_chans (s : State) (k : Nat) (a : List Nat) : (s.logRec k a).chans = s.chans := rfl
@[simp] theorem State.logRec_streams (s : State) (k : Nat) (a : List Nat) : (s.logRec k a).streams = s.streams := rfl
@[simp] theorem State.logRec_progs (s : State) (k : Nat) (a : List Nat) : (s.logRec k a).progs = s.progs := rfl
@[simp] theorem State.logRec_waiting (s : State) (k : Nat) (a : List Nat) : (s.logRec k a).waiting = s.waiting := rfl
@[simp] theorem State.logRec_opLooks (s : State) (k : Nat) (a : List Nat) : (s.logRec k a).opLooks = s.opLooks := rfl
@[simp] theorem State.logRec_reqNo (s : State) (k : Nat) (a : List Nat) : (s.logRec k a).reqNo = s.reqNo := rfl
@[simp] theorem State.logRec_outbox (s : State) (k : Nat) (a : List Nat) : (s.logRec k a).outbox = s.outbox := rfl
@[simp] theorem State.logRec_fabric (s : State) (k : Nat) (a : List Nat) : (s.logRec k a).fabric = s.fabric := rfl
@[simp] theorem State.logRec_sched (s : State) (k : Nat) (a : List Nat) : (s.logRec k a).sched = s.sched := rfl
@[simp] theorem State.logRec_pair (s : State) (k : Nat) (a : List Nat) : (s.logRec k a).pair = s.pair := rfl
@[simp] theorem State.logRec_cyc (s : State) (k : Nat) (a : List Nat) : (s.logRec k a).cyc = s.cyc := rfl
@[simp] theorem State.logRec_complexes (s : State) (k : Nat) (a : List Nat) : (s.logRec k a).complexes = s.complexes := rfl
@[simp] theorem State.logRec_hostPorts (s : State) (k : Nat) (a : List Nat) : (s.logRec k a).hostPorts = s.hostPorts := rfl
@[simp] theorem State.logRec_revokes (s : State) (k : Nat) (a : List Nat) : (s.logRec k a).revokes = s.revokes := rfl
@[simp] theorem State.logRec_drains (s : State) (k : Nat) (a : List Nat) : (s.logRec k a).drains = s.drains := rfl
@[simp] theorem State.logRec_pending (s : State) (k : Nat) (a : List Nat) : (s.logRec k a).pending = s.pending := rfl
@[simp] theorem State.logRec_get_vi (s : State) (k : Nat) (a : List Nat) (m : Nat) : (s.logRec k a).vi m = s.vi m := rfl
@[simp] theorem State.logRec_get_win (s : State) (k : Nat) (a : List Nat) (m : Nat) : (s.logRec k a).win m = s.win m := rfl
@[simp] theorem State.logRec_get_ext (s : State) (k : Nat) (a : List Nat) (m : Nat) : (s.logRec k a).ext m = s.ext m := rfl
@[simp] theorem State.logRec_get_region (s : State) (k : Nat) (a : List Nat) (m : Nat) : (s.logRec k a).region m = s.region m := rfl
@[simp] theorem State.logRec_get_cluster (s : State) (k : Nat) (a : List Nat) (m : Nat) : (s.logRec k a).cluster m = s.cluster m := rfl
@[simp] theorem State.logRec_get_engine (s : State) (k : Nat) (a : List Nat) (m : Nat) : (s.logRec k a).engine m = s.engine m := rfl
@[simp] theorem State.logRec_get_chan (s : State) (k : Nat) (a : List Nat) (m : Nat) : (s.logRec k a).chan m = s.chan m := rfl
@[simp] theorem State.logRec_get_port (s : State) (k : Nat) (a : List Nat) (m : Nat) : (s.logRec k a).port m = s.port m := rfl
@[simp] theorem State.logRec_get_die (s : State) (k : Nat) (a : List Nat) (m : Nat) : (s.logRec k a).die m = s.die m := rfl
@[simp] theorem State.logRec_get_node (s : State) (k : Nat) (a : List Nat) (m : Nat) : (s.logRec k a).node m = s.node m := rfl
@[simp] theorem State.logRec_get_complex (s : State) (k : Nat) (a : List Nat) (m : Nat) : (s.logRec k a).complex m = s.complex m := rfl
@[simp] theorem State.logRec_get_hostPort (s : State) (k : Nat) (a : List Nat) (m : Nat) : (s.logRec k a).hostPort m = s.hostPort m := rfl
@[simp] theorem State.logRec_get_diePower (s : State) (k : Nat) (a : List Nat) (m : Nat) : (s.logRec k a).diePower m = s.diePower m := rfl
@[simp] theorem State.logRec_get_stream (s : State) (k : Nat) (a : List Nat) (m : Nat) : (s.logRec k a).stream m = s.stream m := rfl
@[simp] theorem State.logRec_get_page (s : State) (k : Nat) (a : List Nat) (m : Nat) : (s.logRec k a).page m = s.page m := rfl
@[simp] theorem State.reach_free (s : State) (t : Nat) : (s.reach t).free = s.free := rfl
@[simp] theorem State.reach_kAbsent (s : State) (t : Nat) : (s.reach t).kAbsent = s.kAbsent := rfl
@[simp] theorem State.reach_boot (s : State) (t : Nat) : (s.reach t).boot = s.boot := rfl
@[simp] theorem State.reach_aon (s : State) (t : Nat) : (s.reach t).aon = s.aon := rfl
@[simp] theorem State.reach_power (s : State) (t : Nat) : (s.reach t).power = s.power := rfl
@[simp] theorem State.reach_dram (s : State) (t : Nat) : (s.reach t).dram = s.dram := rfl
@[simp] theorem State.reach_vis (s : State) (t : Nat) : (s.reach t).vis = s.vis := rfl
@[simp] theorem State.reach_wins (s : State) (t : Nat) : (s.reach t).wins = s.wins := rfl
@[simp] theorem State.reach_exts (s : State) (t : Nat) : (s.reach t).exts = s.exts := rfl
@[simp] theorem State.reach_home (s : State) (t : Nat) : (s.reach t).home = s.home := rfl
@[simp] theorem State.reach_regions (s : State) (t : Nat) : (s.reach t).regions = s.regions := rfl
@[simp] theorem State.reach_clusters (s : State) (t : Nat) : (s.reach t).clusters = s.clusters := rfl
@[simp] theorem State.reach_engines (s : State) (t : Nat) : (s.reach t).engines = s.engines := rfl
@[simp] theorem State.reach_chans (s : State) (t : Nat) : (s.reach t).chans = s.chans := rfl
@[simp] theorem State.reach_streams (s : State) (t : Nat) : (s.reach t).streams = s.streams := rfl
@[simp] theorem State.reach_progs (s : State) (t : Nat) : (s.reach t).progs = s.progs := rfl
@[simp] theorem State.reach_waiting (s : State) (t : Nat) : (s.reach t).waiting = s.waiting := rfl
@[simp] theorem State.reach_opLooks (s : State) (t : Nat) : (s.reach t).opLooks = s.opLooks := rfl
@[simp] theorem State.reach_reqNo (s : State) (t : Nat) : (s.reach t).reqNo = s.reqNo := rfl
@[simp] theorem State.reach_outbox (s : State) (t : Nat) : (s.reach t).outbox = s.outbox := rfl
@[simp] theorem State.reach_fabric (s : State) (t : Nat) : (s.reach t).fabric = s.fabric := rfl
@[simp] theorem State.reach_sched (s : State) (t : Nat) : (s.reach t).sched = s.sched := rfl
@[simp] theorem State.reach_pair (s : State) (t : Nat) : (s.reach t).pair = s.pair := rfl
@[simp] theorem State.reach_cyc (s : State) (t : Nat) : (s.reach t).cyc = s.cyc := rfl
@[simp] theorem State.reach_complexes (s : State) (t : Nat) : (s.reach t).complexes = s.complexes := rfl
@[simp] theorem State.reach_hostPorts (s : State) (t : Nat) : (s.reach t).hostPorts = s.hostPorts := rfl
@[simp] theorem State.reach_revokes (s : State) (t : Nat) : (s.reach t).revokes = s.revokes := rfl
@[simp] theorem State.reach_drains (s : State) (t : Nat) : (s.reach t).drains = s.drains := rfl
@[simp] theorem State.reach_log (s : State) (t : Nat) : (s.reach t).log = s.log := rfl
@[simp] theorem State.reach_pending (s : State) (t : Nat) : (s.reach t).pending = s.pending := rfl
@[simp] theorem State.reach_get_vi (s : State) (t : Nat) (m : Nat) : (s.reach t).vi m = s.vi m := rfl
@[simp] theorem State.reach_get_win (s : State) (t : Nat) (m : Nat) : (s.reach t).win m = s.win m := rfl
@[simp] theorem State.reach_get_ext (s : State) (t : Nat) (m : Nat) : (s.reach t).ext m = s.ext m := rfl
@[simp] theorem State.reach_get_region (s : State) (t : Nat) (m : Nat) : (s.reach t).region m = s.region m := rfl
@[simp] theorem State.reach_get_cluster (s : State) (t : Nat) (m : Nat) : (s.reach t).cluster m = s.cluster m := rfl
@[simp] theorem State.reach_get_engine (s : State) (t : Nat) (m : Nat) : (s.reach t).engine m = s.engine m := rfl
@[simp] theorem State.reach_get_chan (s : State) (t : Nat) (m : Nat) : (s.reach t).chan m = s.chan m := rfl
@[simp] theorem State.reach_get_port (s : State) (t : Nat) (m : Nat) : (s.reach t).port m = s.port m := rfl
@[simp] theorem State.reach_get_die (s : State) (t : Nat) (m : Nat) : (s.reach t).die m = s.die m := rfl
@[simp] theorem State.reach_get_node (s : State) (t : Nat) (m : Nat) : (s.reach t).node m = s.node m := rfl
@[simp] theorem State.reach_get_complex (s : State) (t : Nat) (m : Nat) : (s.reach t).complex m = s.complex m := rfl
@[simp] theorem State.reach_get_hostPort (s : State) (t : Nat) (m : Nat) : (s.reach t).hostPort m = s.hostPort m := rfl
@[simp] theorem State.reach_get_diePower (s : State) (t : Nat) (m : Nat) : (s.reach t).diePower m = s.diePower m := rfl
@[simp] theorem State.reach_get_stream (s : State) (t : Nat) (m : Nat) : (s.reach t).stream m = s.stream m := rfl
@[simp] theorem State.reach_get_page (s : State) (t : Nat) (m : Nat) : (s.reach t).page m = s.page m := rfl
@[simp] theorem State.setPort_fabric_nodes (s : State) (n : Nat) (v : Port) : (s.setPort n v).fabric.nodes = s.fabric.nodes := rfl
@[simp] theorem State.setPort_fabric_rates (s : State) (n : Nat) (v : Port) : (s.setPort n v).fabric.rates = s.fabric.rates := rfl
@[simp] theorem State.setPort_fabric_paceAt (s : State) (n : Nat) (v : Port) : (s.setPort n v).fabric.paceAt = s.fabric.paceAt := rfl
@[simp] theorem State.setPort_fabric_weirAi (s : State) (n : Nat) (v : Port) : (s.setPort n v).fabric.weirAi = s.fabric.weirAi := rfl
@[simp] theorem State.setPort_fabric_e2eTimeout (s : State) (n : Nat) (v : Port) : (s.setPort n v).fabric.e2eTimeout = s.fabric.e2eTimeout := rfl
@[simp] theorem State.setPort_fabric_e2eRetry (s : State) (n : Nat) (v : Port) : (s.setPort n v).fabric.e2eRetry = s.fabric.e2eRetry := rfl
@[simp] theorem State.setPort_fabric_rspHold (s : State) (n : Nat) (v : Port) : (s.setPort n v).fabric.rspHold = s.fabric.rspHold := rfl
@[simp] theorem State.setPort_fabric_marks (s : State) (n : Nat) (v : Port) : (s.setPort n v).fabric.marks = s.fabric.marks := rfl
@[simp] theorem State.setPort_fabric_reinFloor (s : State) (n : Nat) (v : Port) : (s.setPort n v).fabric.reinFloor = s.fabric.reinFloor := rfl
@[simp] theorem State.setPort_fabric_reinSeen (s : State) (n : Nat) (v : Port) : (s.setPort n v).fabric.reinSeen = s.fabric.reinSeen := rfl
@[simp] theorem State.setPort_fabric_dies (s : State) (n : Nat) (v : Port) : (s.setPort n v).fabric.dies = s.fabric.dies := rfl
@[simp] theorem State.setPort_get_die (s : State) (n : Nat) (v : Port) (m : Nat) : (s.setPort n v).die m = s.die m := rfl
@[simp] theorem State.setPort_get_node (s : State) (n : Nat) (v : Port) (m : Nat) : (s.setPort n v).node m = s.node m := rfl
@[simp] theorem State.modPort_fabric_nodes (s : State) (n : Nat) (f : Port → Port) : (s.modPort n f).fabric.nodes = s.fabric.nodes := rfl
@[simp] theorem State.modPort_fabric_rates (s : State) (n : Nat) (f : Port → Port) : (s.modPort n f).fabric.rates = s.fabric.rates := rfl
@[simp] theorem State.modPort_fabric_paceAt (s : State) (n : Nat) (f : Port → Port) : (s.modPort n f).fabric.paceAt = s.fabric.paceAt := rfl
@[simp] theorem State.modPort_fabric_weirAi (s : State) (n : Nat) (f : Port → Port) : (s.modPort n f).fabric.weirAi = s.fabric.weirAi := rfl
@[simp] theorem State.modPort_fabric_e2eTimeout (s : State) (n : Nat) (f : Port → Port) : (s.modPort n f).fabric.e2eTimeout = s.fabric.e2eTimeout := rfl
@[simp] theorem State.modPort_fabric_e2eRetry (s : State) (n : Nat) (f : Port → Port) : (s.modPort n f).fabric.e2eRetry = s.fabric.e2eRetry := rfl
@[simp] theorem State.modPort_fabric_rspHold (s : State) (n : Nat) (f : Port → Port) : (s.modPort n f).fabric.rspHold = s.fabric.rspHold := rfl
@[simp] theorem State.modPort_fabric_marks (s : State) (n : Nat) (f : Port → Port) : (s.modPort n f).fabric.marks = s.fabric.marks := rfl
@[simp] theorem State.modPort_fabric_reinFloor (s : State) (n : Nat) (f : Port → Port) : (s.modPort n f).fabric.reinFloor = s.fabric.reinFloor := rfl
@[simp] theorem State.modPort_fabric_reinSeen (s : State) (n : Nat) (f : Port → Port) : (s.modPort n f).fabric.reinSeen = s.fabric.reinSeen := rfl
@[simp] theorem State.modPort_fabric_dies (s : State) (n : Nat) (f : Port → Port) : (s.modPort n f).fabric.dies = s.fabric.dies := rfl
@[simp] theorem State.modPort_get_die (s : State) (n : Nat) (f : Port → Port) (m : Nat) : (s.modPort n f).die m = s.die m := rfl
@[simp] theorem State.modPort_get_node (s : State) (n : Nat) (f : Port → Port) (m : Nat) : (s.modPort n f).node m = s.node m := rfl
@[simp] theorem State.setDie_fabric_nodes (s : State) (n : Nat) (v : LinkDie) : (s.setDie n v).fabric.nodes = s.fabric.nodes := rfl
@[simp] theorem State.setDie_fabric_rates (s : State) (n : Nat) (v : LinkDie) : (s.setDie n v).fabric.rates = s.fabric.rates := rfl
@[simp] theorem State.setDie_fabric_paceAt (s : State) (n : Nat) (v : LinkDie) : (s.setDie n v).fabric.paceAt = s.fabric.paceAt := rfl
@[simp] theorem State.setDie_fabric_weirAi (s : State) (n : Nat) (v : LinkDie) : (s.setDie n v).fabric.weirAi = s.fabric.weirAi := rfl
@[simp] theorem State.setDie_fabric_e2eTimeout (s : State) (n : Nat) (v : LinkDie) : (s.setDie n v).fabric.e2eTimeout = s.fabric.e2eTimeout := rfl
@[simp] theorem State.setDie_fabric_e2eRetry (s : State) (n : Nat) (v : LinkDie) : (s.setDie n v).fabric.e2eRetry = s.fabric.e2eRetry := rfl
@[simp] theorem State.setDie_fabric_rspHold (s : State) (n : Nat) (v : LinkDie) : (s.setDie n v).fabric.rspHold = s.fabric.rspHold := rfl
@[simp] theorem State.setDie_fabric_marks (s : State) (n : Nat) (v : LinkDie) : (s.setDie n v).fabric.marks = s.fabric.marks := rfl
@[simp] theorem State.setDie_fabric_reinFloor (s : State) (n : Nat) (v : LinkDie) : (s.setDie n v).fabric.reinFloor = s.fabric.reinFloor := rfl
@[simp] theorem State.setDie_fabric_reinSeen (s : State) (n : Nat) (v : LinkDie) : (s.setDie n v).fabric.reinSeen = s.fabric.reinSeen := rfl
@[simp] theorem State.setDie_fabric_ports (s : State) (n : Nat) (v : LinkDie) : (s.setDie n v).fabric.ports = s.fabric.ports := rfl
@[simp] theorem State.setDie_get_port (s : State) (n : Nat) (v : LinkDie) (m : Nat) : (s.setDie n v).port m = s.port m := rfl
@[simp] theorem State.setDie_get_node (s : State) (n : Nat) (v : LinkDie) (m : Nat) : (s.setDie n v).node m = s.node m := rfl
@[simp] theorem State.modDie_fabric_nodes (s : State) (n : Nat) (f : LinkDie → LinkDie) : (s.modDie n f).fabric.nodes = s.fabric.nodes := rfl
@[simp] theorem State.modDie_fabric_rates (s : State) (n : Nat) (f : LinkDie → LinkDie) : (s.modDie n f).fabric.rates = s.fabric.rates := rfl
@[simp] theorem State.modDie_fabric_paceAt (s : State) (n : Nat) (f : LinkDie → LinkDie) : (s.modDie n f).fabric.paceAt = s.fabric.paceAt := rfl
@[simp] theorem State.modDie_fabric_weirAi (s : State) (n : Nat) (f : LinkDie → LinkDie) : (s.modDie n f).fabric.weirAi = s.fabric.weirAi := rfl
@[simp] theorem State.modDie_fabric_e2eTimeout (s : State) (n : Nat) (f : LinkDie → LinkDie) : (s.modDie n f).fabric.e2eTimeout = s.fabric.e2eTimeout := rfl
@[simp] theorem State.modDie_fabric_e2eRetry (s : State) (n : Nat) (f : LinkDie → LinkDie) : (s.modDie n f).fabric.e2eRetry = s.fabric.e2eRetry := rfl
@[simp] theorem State.modDie_fabric_rspHold (s : State) (n : Nat) (f : LinkDie → LinkDie) : (s.modDie n f).fabric.rspHold = s.fabric.rspHold := rfl
@[simp] theorem State.modDie_fabric_marks (s : State) (n : Nat) (f : LinkDie → LinkDie) : (s.modDie n f).fabric.marks = s.fabric.marks := rfl
@[simp] theorem State.modDie_fabric_reinFloor (s : State) (n : Nat) (f : LinkDie → LinkDie) : (s.modDie n f).fabric.reinFloor = s.fabric.reinFloor := rfl
@[simp] theorem State.modDie_fabric_reinSeen (s : State) (n : Nat) (f : LinkDie → LinkDie) : (s.modDie n f).fabric.reinSeen = s.fabric.reinSeen := rfl
@[simp] theorem State.modDie_fabric_ports (s : State) (n : Nat) (f : LinkDie → LinkDie) : (s.modDie n f).fabric.ports = s.fabric.ports := rfl
@[simp] theorem State.modDie_get_port (s : State) (n : Nat) (f : LinkDie → LinkDie) (m : Nat) : (s.modDie n f).port m = s.port m := rfl
@[simp] theorem State.modDie_get_node (s : State) (n : Nat) (f : LinkDie → LinkDie) (m : Nat) : (s.modDie n f).node m = s.node m := rfl
@[simp] theorem State.setNode_fabric_rates (s : State) (n : Nat) (v : NodeEnt) : (s.setNode n v).fabric.rates = s.fabric.rates := rfl
@[simp] theorem State.setNode_fabric_paceAt (s : State) (n : Nat) (v : NodeEnt) : (s.setNode n v).fabric.paceAt = s.fabric.paceAt := rfl
@[simp] theorem State.setNode_fabric_weirAi (s : State) (n : Nat) (v : NodeEnt) : (s.setNode n v).fabric.weirAi = s.fabric.weirAi := rfl
@[simp] theorem State.setNode_fabric_e2eTimeout (s : State) (n : Nat) (v : NodeEnt) : (s.setNode n v).fabric.e2eTimeout = s.fabric.e2eTimeout := rfl
@[simp] theorem State.setNode_fabric_e2eRetry (s : State) (n : Nat) (v : NodeEnt) : (s.setNode n v).fabric.e2eRetry = s.fabric.e2eRetry := rfl
@[simp] theorem State.setNode_fabric_rspHold (s : State) (n : Nat) (v : NodeEnt) : (s.setNode n v).fabric.rspHold = s.fabric.rspHold := rfl
@[simp] theorem State.setNode_fabric_marks (s : State) (n : Nat) (v : NodeEnt) : (s.setNode n v).fabric.marks = s.fabric.marks := rfl
@[simp] theorem State.setNode_fabric_reinFloor (s : State) (n : Nat) (v : NodeEnt) : (s.setNode n v).fabric.reinFloor = s.fabric.reinFloor := rfl
@[simp] theorem State.setNode_fabric_reinSeen (s : State) (n : Nat) (v : NodeEnt) : (s.setNode n v).fabric.reinSeen = s.fabric.reinSeen := rfl
@[simp] theorem State.setNode_fabric_dies (s : State) (n : Nat) (v : NodeEnt) : (s.setNode n v).fabric.dies = s.fabric.dies := rfl
@[simp] theorem State.setNode_fabric_ports (s : State) (n : Nat) (v : NodeEnt) : (s.setNode n v).fabric.ports = s.fabric.ports := rfl
@[simp] theorem State.setNode_get_port (s : State) (n : Nat) (v : NodeEnt) (m : Nat) : (s.setNode n v).port m = s.port m := rfl
@[simp] theorem State.setNode_get_die (s : State) (n : Nat) (v : NodeEnt) (m : Nat) : (s.setNode n v).die m = s.die m := rfl
@[simp] theorem State.setDiePower_power_brake (s : State) (n : Nat) (v : DiePower) : (s.setDiePower n v).power.brake = s.power.brake := rfl
@[simp] theorem State.setDiePower_power_capEn (s : State) (n : Nat) (v : DiePower) : (s.setDiePower n v).power.capEn = s.power.capEn := rfl
@[simp] theorem State.setDiePower_power_capW (s : State) (n : Nat) (v : DiePower) : (s.setDiePower n v).power.capW = s.power.capW := rfl
@[simp] theorem State.setDiePower_power_tempStack (s : State) (n : Nat) (v : DiePower) : (s.setDiePower n v).power.tempStack = s.power.tempStack := rfl
@[simp] theorem State.setDiePower_power_tempLink (s : State) (n : Nat) (v : DiePower) : (s.setDiePower n v).power.tempLink = s.power.tempLink := rfl
@[simp] theorem State.setDiePower_power_hotStacks (s : State) (n : Nat) (v : DiePower) : (s.setDiePower n v).power.hotStacks = s.power.hotStacks := rfl
@[simp] theorem State.setDiePower_power_nack (s : State) (n : Nat) (v : DiePower) : (s.setDiePower n v).power.nack = s.power.nack := rfl
@[simp] theorem State.modPair_self (s : State) (f : Pair → Pair) : (s.modPair f).pair = f s.pair := rfl
@[simp] theorem State.modCyc_self (s : State) (f : Cycles → Cycles) : (s.modCyc f).cyc = f s.cyc := rfl
@[simp] theorem State.modHome_self (s : State) (f : Home → Home) : (s.modHome f).home = f s.home := rfl
@[simp] theorem State.modBoot_self (s : State) (f : Boot → Boot) : (s.modBoot f).boot = f s.boot := rfl
@[simp] theorem State.modAon_self (s : State) (f : AlwaysOn → AlwaysOn) : (s.modAon f).aon = f s.aon := rfl
@[simp] theorem State.modFabric_self (s : State) (f : Fabric → Fabric) : (s.modFabric f).fabric = f s.fabric := rfl
@[simp] theorem State.modSched_self (s : State) (f : Sched → Sched) : (s.modSched f).sched = f s.sched := rfl
@[simp] theorem State.modPower_self (s : State) (f : Power → Power) : (s.modPower f).power = f s.power := rfl
@[simp] theorem State.setVi_same (s : State) (n : Nat) (v : Vi) : (s.setVi n v).vi n = v := tget_tset_same _ _ n v
@[simp] theorem State.setVi_other (s : State) (n m : Nat) (v : Vi) (h : m ≠ n) : (s.setVi n v).vi m = s.vi m :=
  tget_tset_away Vi.reset s.vis n m v h
@[simp] theorem State.modVi_same (s : State) (n : Nat) (f : Vi → Vi) : (s.modVi n f).vi n = f (s.vi n) := State.setVi_same s n _
@[simp] theorem State.modVi_other (s : State) (n m : Nat) (f : Vi → Vi) (h : m ≠ n) : (s.modVi n f).vi m = s.vi m :=
  State.setVi_other s n m _ h
@[simp] theorem State.setWin_same (s : State) (n : Nat) (v : Win) : (s.setWin n v).win n = v := tget_tset_same _ _ n v
@[simp] theorem State.setWin_other (s : State) (n m : Nat) (v : Win) (h : m ≠ n) : (s.setWin n v).win m = s.win m :=
  tget_tset_other _ _ n m v h
@[simp] theorem State.setExt_same (s : State) (n : Nat) (v : Ext) : (s.setExt n v).ext n = v := tget_tset_same _ _ n v
@[simp] theorem State.setExt_other (s : State) (n m : Nat) (v : Ext) (h : m ≠ n) : (s.setExt n v).ext m = s.ext m :=
  tget_tset_other _ _ n m v h
@[simp] theorem State.setRegion_same (s : State) (n : Nat) (v : Region) : (s.setRegion n v).region n = v := tget_tset_same _ _ n v
@[simp] theorem State.setRegion_other (s : State) (n m : Nat) (v : Region) (h : m ≠ n) : (s.setRegion n v).region m = s.region m :=
  tget_tset_other _ _ n m v h
@[simp] theorem State.modRegion_same (s : State) (n : Nat) (f : Region → Region) : (s.modRegion n f).region n = f (s.region n) := State.setRegion_same s n _
@[simp] theorem State.modRegion_other (s : State) (n m : Nat) (f : Region → Region) (h : m ≠ n) : (s.modRegion n f).region m = s.region m :=
  State.setRegion_other s n m _ h
@[simp] theorem State.setCluster_same (s : State) (n : Nat) (v : Cluster) : (s.setCluster n v).cluster n = v := tget_tset_same _ _ n v
@[simp] theorem State.setCluster_other (s : State) (n m : Nat) (v : Cluster) (h : m ≠ n) : (s.setCluster n v).cluster m = s.cluster m :=
  tget_tset_other _ _ n m v h
@[simp] theorem State.modCluster_same (s : State) (n : Nat) (f : Cluster → Cluster) : (s.modCluster n f).cluster n = f (s.cluster n) := State.setCluster_same s n _
@[simp] theorem State.modCluster_other (s : State) (n m : Nat) (f : Cluster → Cluster) (h : m ≠ n) : (s.modCluster n f).cluster m = s.cluster m :=
  State.setCluster_other s n m _ h
@[simp] theorem State.setEngine_same (s : State) (n : Nat) (v : Engine) : (s.setEngine n v).engine n = v := tget_tset_same _ _ n v
@[simp] theorem State.setEngine_other (s : State) (n m : Nat) (v : Engine) (h : m ≠ n) : (s.setEngine n v).engine m = s.engine m :=
  tget_tset_other _ _ n m v h
@[simp] theorem State.modEngine_same (s : State) (n : Nat) (f : Engine → Engine) : (s.modEngine n f).engine n = f (s.engine n) := State.setEngine_same s n _
@[simp] theorem State.modEngine_other (s : State) (n m : Nat) (f : Engine → Engine) (h : m ≠ n) : (s.modEngine n f).engine m = s.engine m :=
  State.setEngine_other s n m _ h
@[simp] theorem State.setChan_same (s : State) (n : Nat) (v : Chan) : (s.setChan n v).chan n = v := tget_tset_same _ _ n v
@[simp] theorem State.setChan_other (s : State) (n m : Nat) (v : Chan) (h : m ≠ n) : (s.setChan n v).chan m = s.chan m :=
  tget_tset_away Chan.reset s.chans n m v h
@[simp] theorem State.modChan_same (s : State) (n : Nat) (f : Chan → Chan) : (s.modChan n f).chan n = f (s.chan n) := State.setChan_same s n _
@[simp] theorem State.modChan_other (s : State) (n m : Nat) (f : Chan → Chan) (h : m ≠ n) : (s.modChan n f).chan m = s.chan m :=
  State.setChan_other s n m _ h
@[simp] theorem State.setPort_same (s : State) (n : Nat) (v : Port) : (s.setPort n v).port n = v := tget_tset_same _ _ n v
@[simp] theorem State.setPort_other (s : State) (n m : Nat) (v : Port) (h : m ≠ n) : (s.setPort n v).port m = s.port m :=
  tget_tset_other _ _ n m v h
@[simp] theorem State.modPort_same (s : State) (n : Nat) (f : Port → Port) : (s.modPort n f).port n = f (s.port n) := State.setPort_same s n _
@[simp] theorem State.modPort_other (s : State) (n m : Nat) (f : Port → Port) (h : m ≠ n) : (s.modPort n f).port m = s.port m :=
  State.setPort_other s n m _ h
@[simp] theorem State.setDie_same (s : State) (n : Nat) (v : LinkDie) : (s.setDie n v).die n = v := tget_tset_same _ _ n v
@[simp] theorem State.setDie_other (s : State) (n m : Nat) (v : LinkDie) (h : m ≠ n) : (s.setDie n v).die m = s.die m :=
  tget_tset_other _ _ n m v h
@[simp] theorem State.modDie_same (s : State) (n : Nat) (f : LinkDie → LinkDie) : (s.modDie n f).die n = f (s.die n) := State.setDie_same s n _
@[simp] theorem State.modDie_other (s : State) (n m : Nat) (f : LinkDie → LinkDie) (h : m ≠ n) : (s.modDie n f).die m = s.die m :=
  State.setDie_other s n m _ h
@[simp] theorem State.setNode_same (s : State) (n : Nat) (v : NodeEnt) : (s.setNode n v).node n = v := tget_tset_same _ _ n v
@[simp] theorem State.setNode_other (s : State) (n m : Nat) (v : NodeEnt) (h : m ≠ n) : (s.setNode n v).node m = s.node m :=
  tget_tset_other _ _ n m v h
@[simp] theorem State.setComplex_same (s : State) (n : Nat) (v : Complex) : (s.setComplex n v).complex n = v := tget_tset_same _ _ n v
@[simp] theorem State.setComplex_other (s : State) (n m : Nat) (v : Complex) (h : m ≠ n) : (s.setComplex n v).complex m = s.complex m :=
  tget_tset_other _ _ n m v h
@[simp] theorem State.modComplex_same (s : State) (n : Nat) (f : Complex → Complex) : (s.modComplex n f).complex n = f (s.complex n) := State.setComplex_same s n _
@[simp] theorem State.modComplex_other (s : State) (n m : Nat) (f : Complex → Complex) (h : m ≠ n) : (s.modComplex n f).complex m = s.complex m :=
  State.setComplex_other s n m _ h
@[simp] theorem State.setHostPort_same (s : State) (n : Nat) (v : HostPort) : (s.setHostPort n v).hostPort n = v := tget_tset_same _ _ n v
@[simp] theorem State.setHostPort_other (s : State) (n m : Nat) (v : HostPort) (h : m ≠ n) : (s.setHostPort n v).hostPort m = s.hostPort m :=
  tget_tset_other _ _ n m v h
@[simp] theorem State.setDiePower_same (s : State) (n : Nat) (v : DiePower) : (s.setDiePower n v).diePower n = v := tget_tset_same _ _ n v
@[simp] theorem State.setDiePower_other (s : State) (n m : Nat) (v : DiePower) (h : m ≠ n) : (s.setDiePower n v).diePower m = s.diePower m :=
  tget_tset_other _ _ n m v h
@[simp] theorem State.modPage_same (s : State) (n : Nat) (f : Page → Page) : (s.modPage n f).page n = f (s.page n) := by
  simp [State.modPage, State.page]
@[simp] theorem State.modPage_other (s : State) (n m : Nat) (f : Page → Page) (h : m ≠ n) :
    (s.modPage n f).page m = s.page m := by
  simp [State.modPage, State.page, h]
@[simp] theorem State.modPage_vi (s : State) (n : Nat) (f : Page → Page) :
    (s.modPage n f).vi n = { s.vi n with page := f (s.vi n).page } := State.setVi_same s n _
@[simp] theorem State.modVi_page (s : State) (n : Nat) (f : Vi → Vi) :
    (s.modVi n f).page n = (f (s.vi n)).page := congrArg Vi.page (State.setVi_same s n _)
theorem State.modStream_same (s : State) (n : Nat) (f : Stream → Stream) : (s.modStream n f).stream n = (s.stream n).map f :=
  afind_amod_same s.streams n f
theorem State.modStream_other (s : State) (n m : Nat) (f : Stream → Stream) (h : m ≠ n) : (s.modStream n f).stream m = s.stream m :=
  afind_amod_other s.streams n m f h
@[simp] theorem State.count_now (s : State) (n o k : Nat) : (s.count n o k).now = s.now := by
  unfold State.count
  split <;> rfl
@[simp] theorem State.count_free (s : State) (n o k : Nat) : (s.count n o k).free = s.free := by
  unfold State.count
  split <;> rfl
@[simp] theorem State.count_kAbsent (s : State) (n o k : Nat) : (s.count n o k).kAbsent = s.kAbsent := by
  unfold State.count
  split <;> rfl
@[simp] theorem State.count_boot (s : State) (n o k : Nat) : (s.count n o k).boot = s.boot := by
  unfold State.count
  split <;> rfl
@[simp] theorem State.count_aon (s : State) (n o k : Nat) : (s.count n o k).aon = s.aon := by
  unfold State.count
  split <;> rfl
@[simp] theorem State.count_power (s : State) (n o k : Nat) : (s.count n o k).power = s.power := by
  unfold State.count
  split <;> rfl
@[simp] theorem State.count_dram (s : State) (n o k : Nat) : (s.count n o k).dram = s.dram := by
  unfold State.count
  split <;> rfl
@[simp] theorem State.count_wins (s : State) (n o k : Nat) : (s.count n o k).wins = s.wins := by
  unfold State.count
  split <;> rfl
@[simp] theorem State.count_exts (s : State) (n o k : Nat) : (s.count n o k).exts = s.exts := by
  unfold State.count
  split <;> rfl
@[simp] theorem State.count_home (s : State) (n o k : Nat) : (s.count n o k).home = s.home := by
  unfold State.count
  split <;> rfl
@[simp] theorem State.count_regions (s : State) (n o k : Nat) : (s.count n o k).regions = s.regions := by
  unfold State.count
  split <;> rfl
@[simp] theorem State.count_clusters (s : State) (n o k : Nat) : (s.count n o k).clusters = s.clusters := by
  unfold State.count
  split <;> rfl
@[simp] theorem State.count_engines (s : State) (n o k : Nat) : (s.count n o k).engines = s.engines := by
  unfold State.count
  split <;> rfl
@[simp] theorem State.count_chans (s : State) (n o k : Nat) : (s.count n o k).chans = s.chans := by
  unfold State.count
  split <;> rfl
@[simp] theorem State.count_streams (s : State) (n o k : Nat) : (s.count n o k).streams = s.streams := by
  unfold State.count
  split <;> rfl
@[simp] theorem State.count_progs (s : State) (n o k : Nat) : (s.count n o k).progs = s.progs := by
  unfold State.count
  split <;> rfl
@[simp] theorem State.count_waiting (s : State) (n o k : Nat) : (s.count n o k).waiting = s.waiting := by
  unfold State.count
  split <;> rfl
@[simp] theorem State.count_opLooks (s : State) (n o k : Nat) : (s.count n o k).opLooks = s.opLooks := by
  unfold State.count
  split <;> rfl
@[simp] theorem State.count_reqNo (s : State) (n o k : Nat) : (s.count n o k).reqNo = s.reqNo := by
  unfold State.count
  split <;> rfl
@[simp] theorem State.count_outbox (s : State) (n o k : Nat) : (s.count n o k).outbox = s.outbox := by
  unfold State.count
  split <;> rfl
@[simp] theorem State.count_fabric (s : State) (n o k : Nat) : (s.count n o k).fabric = s.fabric := by
  unfold State.count
  split <;> rfl
@[simp] theorem State.count_sched (s : State) (n o k : Nat) : (s.count n o k).sched = s.sched := by
  unfold State.count
  split <;> rfl
@[simp] theorem State.count_pair (s : State) (n o k : Nat) : (s.count n o k).pair = s.pair := by
  unfold State.count
  split <;> rfl
@[simp] theorem State.count_cyc (s : State) (n o k : Nat) : (s.count n o k).cyc = s.cyc := by
  unfold State.count
  split <;> rfl
@[simp] theorem State.count_complexes (s : State) (n o k : Nat) : (s.count n o k).complexes = s.complexes := by
  unfold State.count
  split <;> rfl
@[simp] theorem State.count_hostPorts (s : State) (n o k : Nat) : (s.count n o k).hostPorts = s.hostPorts := by
  unfold State.count
  split <;> rfl
@[simp] theorem State.count_revokes (s : State) (n o k : Nat) : (s.count n o k).revokes = s.revokes := by
  unfold State.count
  split <;> rfl
@[simp] theorem State.count_drains (s : State) (n o k : Nat) : (s.count n o k).drains = s.drains := by
  unfold State.count
  split <;> rfl
@[simp] theorem State.count_log (s : State) (n o k : Nat) : (s.count n o k).log = s.log := by
  unfold State.count
  split <;> rfl
@[simp] theorem State.count_pending (s : State) (n o k : Nat) : (s.count n o k).pending = s.pending := by
  unfold State.count
  split <;> rfl
@[simp] theorem State.count_get_win (s : State) (n o k m : Nat) : (s.count n o k).win m = s.win m := by
  unfold State.count
  split <;> rfl
@[simp] theorem State.count_get_ext (s : State) (n o k m : Nat) : (s.count n o k).ext m = s.ext m := by
  unfold State.count
  split <;> rfl
@[simp] theorem State.count_get_region (s : State) (n o k m : Nat) : (s.count n o k).region m = s.region m := by
  unfold State.count
  split <;> rfl
@[simp] theorem State.count_get_cluster (s : State) (n o k m : Nat) : (s.count n o k).cluster m = s.cluster m := by
  unfold State.count
  split <;> rfl
@[simp] theorem State.count_get_engine (s : State) (n o k m : Nat) : (s.count n o k).engine m = s.engine m := by
  unfold State.count
  split <;> rfl
@[simp] theorem State.count_get_chan (s : State) (n o k m : Nat) : (s.count n o k).chan m = s.chan m := by
  unfold State.count
  split <;> rfl
@[simp] theorem State.count_get_port (s : State) (n o k m : Nat) : (s.count n o k).port m = s.port m := by
  unfold State.count
  split <;> rfl
@[simp] theorem State.count_get_die (s : State) (n o k m : Nat) : (s.count n o k).die m = s.die m := by
  unfold State.count
  split <;> rfl
@[simp] theorem State.count_get_node (s : State) (n o k m : Nat) : (s.count n o k).node m = s.node m := by
  unfold State.count
  split <;> rfl
@[simp] theorem State.count_get_complex (s : State) (n o k m : Nat) : (s.count n o k).complex m = s.complex m := by
  unfold State.count
  split <;> rfl
@[simp] theorem State.count_get_hostPort (s : State) (n o k m : Nat) : (s.count n o k).hostPort m = s.hostPort m := by
  unfold State.count
  split <;> rfl
@[simp] theorem State.count_get_diePower (s : State) (n o k m : Nat) : (s.count n o k).diePower m = s.diePower m := by
  unfold State.count
  split <;> rfl
@[simp] theorem State.count_get_stream (s : State) (n o k m : Nat) : (s.count n o k).stream m = s.stream m := by
  unfold State.count
  split <;> rfl

end Sys2Proof.Machine
end

