-- ==== Sys2Proof/Laws/Pool.lean ====
section
/-! SUPPORT. What each operation on pool memory can do: it keeps the canonical form, and on a memory without listed
words a write stores its bytes, reports nothing and leaves every other byte alone. -/
namespace Sys2Proof.Machine

open Sys2Proof

/-- What holds at the start and is kept by every step of a fold holds at its end. -/
theorem foldl_keeps {σ β : Type} {P : σ → Prop} {f : σ → β → σ} (l : List β) {s : σ} (h : P s)
    (hf : ∀ s b, P s → P (f s b)) : P (l.foldl f s) := by
  induction l generalizing s with
  | nil => exact h
  | cons b l ih => exact ih (hf s b h)

/-- The same for steps over the members of the list only. -/
theorem foldl_keeps_mem {σ β : Type} {P : σ → Prop} {f : σ → β → σ} (l : List β) {s : σ} (h : P s)
    (hf : ∀ s, ∀ b ∈ l, P s → P (f s b)) : P (l.foldl f s) := by
  induction l generalizing s with
  | nil => exact h
  | cons b l ih =>
    exact ih (hf s b List.mem_cons_self h) (fun s b hb => hf s b (List.mem_cons_of_mem _ hb))

/-! ### The canonical form is kept -/

theorem Dram.setWord_wf {d : Dram} (h : Memory.wf d.mem = true) (w : Nat) (b : Bytes) (k : WordKind) :
    Memory.wf (d.setWord w b k).mem = true := Memory.wf_memWrite h _ _

theorem writeListed_wf (d : Dram) (pa : Nat) (bs : Bytes) (acc : WrRes × Dram) (w : Nat)
    (h : Memory.wf acc.2.mem = true) : Memory.wf (writeListed d pa bs acc w).2.mem = true := by
  unfold writeListed
  obtain ⟨r, n⟩ := acc
  dsimp only at h ⊢
  split
  · split
    · split
      · exact Dram.setWord_wf h _ _ _
      · exact Memory.wf_memWrite h _ _
    · split <;> exact Dram.setWord_wf h _ _ _
  · split <;> exact Dram.setWord_wf h _ _ _

theorem Dram.write_wf {d : Dram} (h : Memory.wf d.mem = true) (pa : Nat) (bs : Bytes) :
    Memory.wf (d.write pa bs).2.mem = true :=
  foldl_keeps (P := fun a : WrRes × Dram => Memory.wf a.2.mem = true) _ (Memory.wf_memWrite h pa bs)
    (fun a w => writeListed_wf d pa bs a w)

theorem State.dirtyBlocks_dram (s : State) (g : Nat) (l : List Nat) : (s.dirtyBlocks g l).dram = s.dram := by
  unfold State.dirtyBlocks; split <;> rfl

theorem State.touch_dram (s : State) (pa n : Nat) : (s.touch pa n).dram = s.dram :=
  foldl_keeps (P := fun t : State => t.dram = s.dram) _ rfl
    (fun t p h => (t.dirtyBlocks_dram _ _).trans h)

/-- Decoding a word changes counters alone. -/
theorem State.countWord_dram (s : State) (vi : Option Nat) (w : Nat) : (s.countWord vi w).dram = s.dram := by
  unfold State.countWord State.when
  split
  · split
    · cases vi
      · rfl
      · exact State.count_dram _ _ _ _
    · rfl
  · rfl

theorem State.countWords_dram (s : State) (l : List Nat) : (l.foldl (fun s w => s.countWord none w) s).dram = s.dram :=
  foldl_keeps (P := fun t : State => t.dram = s.dram) _ rfl (fun t w h => (t.countWord_dram none w).trans h)

theorem State.noteWord_memOk {s : State} (h : s.memOk) (vi : Option Nat) (w : Nat) : (s.noteWord vi w).memOk := by
  have hd : (s.countWord vi w).memOk := by unfold State.memOk; rw [State.countWord_dram]; exact h
  unfold State.noteWord
  dsimp only
  split
  · exact hd
  · exact Dram.setWord_wf hd _ _ _

theorem State.dramWrite_memOk {s : State} (h : s.memOk) (pa : Nat) (bs : Bytes) : (s.dramWrite pa bs).2.memOk :=
  Dram.write_wf h pa bs

theorem State.setValid_memOk {s : State} (h : s.memOk) (g : Nat) (b : Bool) : (s.setValid g b).memOk :=
  State.dramWrite_memOk h _ _

theorem State.fillGranule_memOk {s : State} (h : s.memOk) (g : Nat) : (s.fillGranule g).memOk := by
  unfold State.fillGranule
  have : ({ s with dram := { s.dram with
      mem := memClear s.dram.mem (g * granuleBytes) granuleBytes,
      check := s.dram.check.filter (fun e => decide (e.1 < g * granuleBytes / 32 ∨
        (g * granuleBytes + granuleBytes) / 32 ≤ e.1)) } } : State).memOk := Memory.wf_memClear h _ _
  exact (congrArg (fun d : Dram => Memory.wf d.mem = true) (State.dirtyBlocks_dram _ _ _)).mpr
    (State.setValid_memOk this g true)

theorem State.fillQuiet_memOk {s : State} (h : s.memOk) (g : Nat) : (s.fillQuiet g).memOk :=
  State.setValid_memOk (s := { s with dram := { s.dram with
      mem := memClear s.dram.mem (g * granuleBytes) granuleBytes,
      check := s.dram.check.filter (fun e => decide (e.1 < g * granuleBytes / 32 ∨
        (g * granuleBytes + granuleBytes) / 32 ≤ e.1)) } }) (Memory.wf_memClear h _ _) g true

theorem State.write_memOk {s : State} (h : s.memOk) (pa : Nat) (bs : Bytes) : (s.write pa bs).2.memOk := by
  have hf : (State.memOk ((piecesOf pa bs.length).foldl (fun s p =>
      if s.isValid (granuleOf p.1) then s else s.fillGranule (granuleOf p.1)) s)) :=
    foldl_keeps (P := State.memOk) _ h (fun t p ht => by
      split
      · exact ht
      · exact State.fillGranule_memOk ht _)
  unfold State.write State.memOk
  dsimp only
  rw [State.touch_dram]
  exact Dram.write_wf hf pa bs

theorem State.store_memOk {s : State} (h : s.memOk) (pa : Nat) (bs : Bytes) : (s.store pa bs).memOk :=
  State.write_memOk h pa bs

theorem State.storeQuiet_memOk {s : State} (h : s.memOk) (pa : Nat) (bs : Bytes) : (s.storeQuiet pa bs).memOk := by
  have hf : (State.memOk ((piecesOf pa bs.length).foldl (fun s p =>
      if s.isValid (granuleOf p.1) then s else s.fillQuiet (granuleOf p.1)) s)) :=
    foldl_keeps (P := State.memOk) _ h (fun t p ht => by
      split
      · exact ht
      · exact State.fillQuiet_memOk ht _)
  exact Dram.write_wf hf pa bs

theorem State.setStamp_memOk {s : State} (h : s.memOk) (g v : Nat) : (s.setStamp g v).memOk := by
  unfold State.setStamp State.memOk
  dsimp only
  split
  · exact Dram.write_wf h _ _
  · have hc : Memory.wf (s.countWord none (stampAddr g / 32)).dram.mem = true := by rw [State.countWord_dram]; exact h
    generalize s.countWord none (stampAddr g / 32) = t at hc ⊢
    exact Dram.setWord_wf hc _ _ .clean

theorem Dram.zeroRange_wf {d : Dram} (h : Memory.wf d.mem = true) (a n : Nat) : Memory.wf (d.zeroRange a n).mem = true := by
  have hd : Memory.wf ((d.listed a n).foldl (fun (d : Dram) w =>
      (d.write (max a (32 * w)) (zeros (min (a + n) (32 * w + 32) - max a (32 * w)))).2) d).mem = true :=
    foldl_keeps (P := fun d : Dram => Memory.wf d.mem = true) _ h (fun d w hd => Dram.write_wf hd _ _)
  unfold Dram.zeroRange
  dsimp only
  exact foldl_keeps (P := fun m : List Host.Cell => Memory.wf m = true) _ (Memory.wf_memClear hd _ _)
    (fun m w hm => Memory.wf_memWrite hm _ _)

theorem State.setCycleNo_memOk {s : State} (h : s.memOk) (g v : Nat) : (s.setCycleNo g v).memOk := Dram.write_wf h _ _

theorem State.markLine_memOk {s : State} (h : s.memOk) (pa : Nat) : (s.markLine pa).memOk := by
  have hf : (if s.isValid (granuleOf pa) then s else s.fillGranule (granuleOf pa)).memOk := by
    split
    · exact h
    · exact State.fillGranule_memOk h _
  unfold State.markLine State.memOk
  dsimp only
  rw [State.touch_dram]
  refine foldl_keeps (P := State.memOk) _ hf (fun t w ht => ?_)
  have hc : (if (afind t.dram.check w).isSome then t.countWord none w else t).memOk := by
    split
    · unfold State.memOk; rw [State.countWord_dram]; exact ht
    · exact ht
  split
  · split
    · exact hc
    · exact Dram.setWord_wf hc _ _ _
  · exact Dram.setWord_wf hc _ _ _

theorem State.clearGranules_memOk {s : State} (h : s.memOk) (first count : Nat) : (s.clearGranules first count).memOk := by
  unfold State.clearGranules State.memOk
  dsimp only
  refine foldl_keeps (P := State.memOk) _ ?_ (fun t x ht => ?_)
  · exact foldl_keeps (P := State.memOk) _ h (fun t g ht => State.setValid_memOk ht g false)
  · refine Dram.zeroRange_wf (Dram.zeroRange_wf ?_ _ _) _ _
    exact foldl_keeps (P := State.memOk) _ ht (fun t w ht => State.setStamp_memOk ht _ 0)

theorem readListed_memOk (vi : Option Nat) (pa : Nat) (acc : RdRes × State) (w : Nat) (h : acc.2.memOk) :
    (readListed vi pa acc w).2.memOk := by
  obtain ⟨r, s⟩ := acc
  exact State.noteWord_memOk h vi w

theorem State.read_memOk {s : State} (h : s.memOk) (vi : Option Nat) (pa n : Nat) : (s.read vi pa n).2.memOk := by
  unfold State.read
  refine foldl_keeps (P := fun a : RdRes × State => a.2.memOk) _ h (fun a p ha => ?_)
  dsimp only
  unfold readOne
  split
  · exact foldl_keeps (P := fun a : RdRes × State => a.2.memOk) _ ha (fun b w hb => readListed_memOk vi p.1 b w hb)
  · exact ha

/-! ### A memory without listed words -/

theorem Dram.listed_nil {d : Dram} (h : d.check = []) (pa n : Nat) : d.listed pa n = [] := by
  unfold Dram.listed; split <;> simp [h]

/-- A write of a memory without listed words stores its bytes and reports nothing. -/
theorem Dram.write_clean {d : Dram} {pa : Nat} {bs : Bytes} (h : d.listed pa bs.length = []) :
    d.write pa bs = (⟨false, false⟩, { d with mem := memWrite d.mem pa bs }) := by
  unfold Dram.write; rw [h]; rfl

/-- A write of DRAM without listed words there stores its bytes and counts nothing. -/
theorem State.dramWrite_clean {s : State} {pa : Nat} {bs : Bytes} (h : s.dram.listed pa bs.length = []) :
    s.dramWrite pa bs = (⟨false, false⟩, { s with dram := { s.dram with mem := memWrite s.dram.mem pa bs } }) := by
  unfold State.dramWrite
  rw [h, Dram.write_clean h]
  rfl

theorem State.setValid_check {s : State} (h : s.dram.check = []) (g : Nat) (b : Bool) : (s.setValid g b).dram.check = [] := by
  unfold State.setValid
  dsimp only
  rw [State.dramWrite_clean (Dram.listed_nil h _ _)]
  exact h

theorem State.fillGranule_check {s : State} (h : s.dram.check = []) (g : Nat) : (s.fillGranule g).dram.check = [] := by
  unfold State.fillGranule
  dsimp only
  rw [State.dirtyBlocks_dram]
  refine State.setValid_check ?_ _ _
  show s.dram.check.filter _ = []
  rw [h]; rfl

/-- A write of a memory without listed words reports nothing. -/
theorem State.write_reports {s : State} (h : s.dram.check = []) (pa : Nat) (bs : Bytes) :
    (s.write pa bs).1 = ⟨false, false⟩ := by
  have hf : ((piecesOf pa bs.length).foldl (fun s p =>
      if s.isValid (granuleOf p.1) then s else s.fillGranule (granuleOf p.1)) s).dram.check = [] :=
    foldl_keeps (P := fun t : State => t.dram.check = []) _ h (fun t p ht => by
      split
      · exact ht
      · exact State.fillGranule_check ht _)
  unfold State.write
  dsimp only
  rw [State.dramWrite_clean (Dram.listed_nil hf _ _)]

/-- A write to valid granules of a memory without listed words there: the bytes, and nothing else of the pool. -/
theorem State.write_open {s : State} {pa : Nat} {bs : Bytes} (hl : s.dram.listed pa bs.length = [])
    (hv : ∀ p ∈ piecesOf pa bs.length, s.isValid (granuleOf p.1) = true) :
    (s.write pa bs).1 = ⟨false, false⟩ ∧ (s.write pa bs).2.dram = { s.dram with mem := memWrite s.dram.mem pa bs } := by
  have hf : (piecesOf pa bs.length).foldl (fun s p =>
      if s.isValid (granuleOf p.1) then s else s.fillGranule (granuleOf p.1)) s = s :=
    foldl_keeps_mem (P := fun t : State => t = s) _ rfl (fun t p hp ht => by subst ht; rw [hv p hp]; rfl)
  unfold State.write
  dsimp only
  rw [hf, State.dramWrite_clean hl]
  exact ⟨rfl, State.touch_dram _ _ _⟩

/-! ### Operands in raw windows -/

/-- The pieces of an operand in a raw window, of an access that waits for no miss. -/
theorem State.opSegs_raw {s : State} {who : OpWho} {op : Operand} {write : Bool} (hk : (s.win op.window).kind = 1)
    (hl : op.off + op.len ≤ (s.win op.window).limit) (hw : write = true → (s.win op.window).writeEn = true)
    (hc : s.checkData (s.win op.window).extentId ((s.win op.window).basePa + op.off) op.len = none) (ho : s.opLooks = []) :
    s.opSegs who op write = (0, [⟨(s.win op.window).basePa + op.off, op.len, (s.win op.window).extentId⟩], s) := by
  have h1 : ¬ (op.off + op.len > (s.win op.window).limit ∨ (write && !(s.win op.window).writeEn) = true) := by
    rintro (h | h)
    · omega
    · simp only [Bool.and_eq_true, Bool.not_eq_true'] at h
      rw [hw h.1] at h
      exact nomatch h.2
  have hp : s.opPages who op write = ([⟨op.window, 0, 0, op.off, op.len, b2n write,
      .ok ⟨(s.win op.window).basePa + op.off, op.len, (s.win op.window).extentId⟩⟩], s) := by
    unfold State.opPages State.lookRange
    rw [ho]
    simp only [List.find?_nil, hk]
    rfl
  have hj : s.checkAt (s.win op.window).extentId ((s.win op.window).basePa + op.off) op.len = none := by
    simpa [State.checkData] using hc
  unfold State.opSegs
  simp only [hk, hp, if_neg h1]
  simp only [State.judge, State.lookOutcome, List.map_cons, List.map_nil, hj]
  rfl

/-- An access of the part's own that meets no line with holders waits for none. -/
theorem State.ownAccess_free {s : State} {who : OwnWho} {op : LineOp} {l : List (Nat × Nat)} (hf : s.fullLine l = none)
    (h : s.heldLines l = []) (hp : s.home.places = []) : s.ownAccess who op l = (none, s) := by
  unfold State.ownAccess
  rw [hf, h]
  simp [State.leavePlaces, hp]

/-- With an empty filter and no transaction no line has holders. -/
theorem State.heldLines_none {s : State} (hd : s.home.dir = []) (ht : s.home.txns = []) (l : List (Nat × Nat)) :
    s.heldLines l = [] := by
  unfold State.heldLines
  rw [hd, ht]
  rfl

/-- With no zero-fill open, an access is held by none where its granules are valid or the tables have room. -/
theorem State.fillHolds_none {s : State} (hf : ∀ g, (s.region g).fills = []) (l : List (Nat × Nat)) (write : Bool) :
    s.fillHolds l write = false := by
  unfold State.fillHolds
  rw [List.any_eq_false]
  intro p _
  simp [hf]

/-- With no open transaction no home is full. -/
theorem State.fullLine_none {s : State} (ht : s.home.txns = []) (l : List (Nat × Nat)) : s.fullLine l = none := by
  unfold State.fullLine State.homeFull
  rw [ht]
  simp

/-- With nothing reserved no write is barred. -/
theorem State.writeBarred_none {s : State} (h : s.home.reserved = []) (l : List (Nat × Nat)) : s.writeBarred l = false := by
  unfold State.writeBarred State.reservation
  rw [h]
  simp

/-- Where the pair tracks no writes, none needs an entry of a dirty table. -/
theorem State.needsEntry_none {s : State} (h : s.tracks = false) (l : List (Nat × Nat)) : s.needsEntry l = false := by
  have hn : ∀ g, s.newEntry g = false := fun g => by simp [State.newEntry, h]
  have he : (rangeGranules l).filter (fun g => s.newEntry g) = [] := List.filter_eq_nil_iff.2 (fun g _ => by simp [hn g])
  unfold State.needsEntry State.lacksEntries
  rw [he]
  rfl

/-- A write of an operand in a raw window, in a region that serves and to granules that are not reserved and need no entry
of a dirty table, to memory without listed words and lines without holders, with no zero-fill open, succeeds; its
zero-fills are counted. -/
theorem State.writeOp_raw {s : State} {who : OpWho} {op : Operand} {bs : Bytes} (hn : bs.length ≤ op.len)
    (hk : (s.win op.window).kind = 1) (hw : (s.win op.window).writeEn = true)
    (hl : op.off + bs.length ≤ (s.win op.window).limit)
    (hc : s.checkData (s.win op.window).extentId ((s.win op.window).basePa + op.off) bs.length = none)
    (hs : s.rangesServe [((s.win op.window).basePa + op.off, bs.length)] = true)
    (hb : s.writeBarred [((s.win op.window).basePa + op.off, bs.length)] = false)
    (he : s.needsEntry [((s.win op.window).basePa + op.off, bs.length)] = false)
    (hu : s.fullLine [((s.win op.window).basePa + op.off, bs.length)] = none)
    (hh : s.heldLines [((s.win op.window).basePa + op.off, bs.length)] = []) (hp : s.home.places = [])
    (hd : s.dram.check = []) (ho : s.opLooks = []) (hf : ∀ g, (s.region g).fills = []) :
    s.writeOp who op bs = (0, (s.countFills op.window [((s.win op.window).basePa + op.off, bs.length)]).store
      ((s.win op.window).basePa + op.off) bs) := by
  have hd' : (s.countFills op.window [((s.win op.window).basePa + op.off, bs.length)]).dram.check = [] := by
    unfold State.countFills State.count
    dsimp only
    split <;> exact hd
  unfold State.writeOp
  rw [if_neg (by omega), State.opSegs_raw (op := { op with len := bs.length }) hk hl (fun _ => hw) hc ho]
  simp only [segRanges, List.map_cons, List.map_nil, State.ownAccess_free hu hh hp, State.fillHolds_none hf, hs, hb, he]
  simp [State.writeSegs, State.write_reports hd', State.store, State.countPoison]
  split <;> rfl

end Sys2Proof.Machine
end

