-- ==== Sys2Proof/Tests/Slice0.lean ====
section
/-! SUPPORT. Tests of this sitting: ill-formed commands that each check refuses, instruction words of the engines
written out from their encoding, states and operands that meet the hypotheses of the obligations, and single steps.
Expected values are worked out from the rules that the tests name. -/
namespace Sys2Proof.Tests

open Sys2Proof Sys2Proof.Machine
set_option maxRecDepth 100000

/-! ### A package that is up -/

def key1 : Bytes := List.replicate 48 7#8

/-- A command of VI `vi` with a body, without a keyed check. -/
def cmdOf (vi : Nat) (body : Bytes) : Cmd :=
  ⟨0, BitVec.ofNat 16 vi, 1, BitVec.ofNat 32 body.length, 0, 1, [], [], body⟩

/-- VI `n` with a key and a running lease. -/
def viUp (n : Nat) : Vi :=
  { Vi.reset n with key := some key1, lease := ⟨true, 1000, ms 500, ms 2000, false, false⟩ }

/-- Port 0 in ACTIVE with 100 units of credit of every class. -/
def portUp : Port :=
  { Port.reset with
    state := .active, tried := true, weight := 15
    tx := { PortTx.reset with size := [(1, 100), (2, 100), (3, 100)], colAvail := 100 } }

/-- A package after boot: every unit out of reset, VI 0 and VI 3 with running leases, extent 1 (granules 100 to 103)
and the coherent extent 2 (granules 200 to 203) of VI 0 with raw windows 1 and 3 on them, a translated window 2,
node 7 behind port 0. -/
def up : State :=
  { State.reset with
    now := ms 100
    boot := { Boot.reset with phase := 7, por := false }
    aon := { AlwaysOn.reset with addressed := true, nodeId := 5, nodeValid := true, bypassOpen := true }
    dram := ⟨[], [], [100, 101, 102, 103, 200, 201, 202, 203], [], []⟩
    vis := [(0, viUp 0), (3, viUp 3)]
    wins := [(1, ⟨1, true, true, true, 0, 0, 1, 0x40000, 100 * 65536, 0, 0, 3⟩),
             (2, ⟨2, true, true, true, 0, 0, 0, 0x400000, 0, 0, 0, 3⟩),
             (3, ⟨1, true, true, true, 0, 0, 2, 0x40000, 200 * 65536, 0, 0, 3⟩)]
    exts := [(1, ⟨100, 4, 0, .active, false, false, 1⟩), (2, ⟨200, 4, 0, .active, true, false, 1⟩)]
    regions := (List.range 12).map (fun g => (g, { Region.reset with inReset := false }))
    clusters := (List.range 96).map (fun g => (g, { Cluster.reset with inReset := false }))
    fabric := { Fabric.reset with
      nodes := [(7, ⟨1#64, true, 0, true, 1, 64, 4⟩)]
      dies := (List.range 4).map (fun l => (l, { LinkDie.reset with inReset := false }))
      ports := [(0, portUp)] }
    hostPorts := [(0, ⟨false, false, 8, 255⟩)] }

theorem accepted_plain {s : State} {p op : Nat} {c : Cmd} {lenOk : Bool} {rsv : List (Nat × Nat × Nat)} {f : From}
    {lease : Bool}
    (h : (decide (p < 1024) && s.viExists p && !(s.page p).busy && !(s.vi p).dropAnswer && s.complexUp (complexOf p) &&
      s.complexUp 0 && (check1 c (cmdBytes c) lenOk rsv).isNone && c.vi.toNat == p && s.permits p f &&
      !(tbit c.flags.toNat 0 || isCritical op) && (!lease || s.leaseRuns p)) = true) :
    accepted s p op c lenOk rsv f lease := by
  simp only [Bool.and_eq_true, decide_eq_true_eq, Bool.not_eq_true', Option.isNone_iff_eq_none, beq_iff_eq,
    Bool.or_eq_false_iff, Bool.or_eq_true] at h
  obtain ⟨⟨⟨⟨⟨⟨⟨⟨⟨⟨h1, h2⟩, h3⟩, h4⟩, h5⟩, h6⟩, h7⟩, h8⟩, h9⟩, h10, h11⟩, h12⟩ := h
  refine ⟨⟨h1, h2, h3, h4, h5, h6⟩, h7, h8, h9, ?_, ?_, ?_⟩
  · simp [h10, h11]
  · simp [h11]
  · intro h; simpa [h] using h12

theorem accepted_signed {s : State} {p op : Nat} {c : Cmd} {lenOk : Bool} {rsv : List (Nat × Nat × Nat)} {f : From}
    {lease : Bool}
    (h : (decide (p < 1024) && s.viExists p && !(s.page p).busy && !(s.vi p).dropAnswer && s.complexUp (complexOf p) &&
      s.complexUp 0 && (check1 c (cmdBytes c) lenOk rsv).isNone && c.vi.toNat == p && s.permits p f &&
      (s.vi p).key == some key1 && decide ((s.vi p).counter.toNat < c.counter.toNat) && (!lease || s.leaseRuns p)) = true) :
    accepted s p op (signCmd c key1 op) lenOk rsv f lease := by
  simp only [Bool.and_eq_true, decide_eq_true_eq, Bool.not_eq_true', Option.isNone_iff_eq_none, beq_iff_eq,
    Bool.or_eq_true] at h
  obtain ⟨⟨⟨⟨⟨⟨⟨⟨⟨⟨⟨h1, h2⟩, h3⟩, h4⟩, h5⟩, h6⟩, h7⟩, h8⟩, h9⟩, h10⟩, h11⟩, h12⟩ := h
  refine ⟨⟨h1, h2, h3, h4, h5, h6⟩, h7, h8, h9, fun _ => ⟨key1, h10, keyedOk_sign c key1 op⟩, fun _ => h11, ?_⟩
  intro h; simpa [h] using h12

/-! ### Witnesses of the obligations on mailboxes and settings -/

theorem test_w_step : ({ up with pending := [.auditTimer 0] } : State).pending = .auditTimer 0 :: [] ∧ up.pending = [] ∧
    up.wakeable = [] := by decide
theorem test_w_canonical : State.reset.memOk ∧ step State.reset = .next { State.reset with now := 1 } := ⟨(rfl : Memory.wf [] = true), rfl⟩
theorem test_w_refusals :
    mailboxFree up 0 ∧ (check1 (cmdOf 3 []) (cmdBytes (cmdOf 3 [])) (lenIs (cmdOf 3 []) 0) [] = none ∧
      (cmdOf 3 []).vi.toNat ≠ 0) ∧
    (mailboxFree up 3 ∧ check1 (cmdOf 3 (zeros 12)) (cmdBytes (cmdOf 3 (zeros 12))) (lenIs (cmdOf 3 (zeros 12)) 12)
      [(0, 2, 0xFFF), (2, 2, 0), (8, 4, 0xFF07FFE1)] = none ∧ (cmdOf 3 (zeros 12)).vi.toNat = 3 ∧ isPf 3 = false) := by
  refine ⟨⟨?_, ?_, ?_, ?_, ?_, ?_⟩, ?_, ⟨?_, ?_, ?_, ?_, ?_, ?_⟩, ?_⟩ <;> decide
/-- VI 8 has no key and no lease. -/
theorem test_w_refusals_key :
    mailboxFree up 8 ∧ tbit ({ cmdOf 8 [] with flags := 1 } : Cmd).flags.toNat 0 = true ∧
    (∀ k, (up.vi 8).key = some k → keyedOk k 0x0001 { cmdOf 8 [] with flags := 1 } = false) ∧
    checksPass up 8 0x0202 (cmdOf 8 []) (lenIs (cmdOf 8 []) 0) [] .any false ∧ up.leaseRuns 8 = false := by
  have h : accepted up 8 0x0202 (cmdOf 8 []) (lenIs (cmdOf 8 []) 0) [] .any false := accepted_plain (by decide)
  have hk : (up.vi 8).key = none := by decide
  exact ⟨h.1, by decide, fun k e => by simp [hk] at e, h.2, by decide⟩
theorem test_w_overrun : up.viExists 1023 = false ∧ up.viExists 256 = true ∧
    ((up.modPage 3 (fun g => { g with busy := true })).page 3).busy = true ∧ up.viExists 3 = true ∧
    tbit (8#64).toNat 3 = true ∧ tbit (7#64).toNat 3 = false := by decide

def cKey : Cmd := cmdOf 3 (List.replicate 16 9#8)
theorem alone_up (p : Nat) : alone up p := ⟨rfl, rfl⟩
theorem test_w_keyChange : accepted up 3 0x0101 (signCmd cKey key1 0x0101) (lenIs (signCmd cKey key1 0x0101) 16) [] .any
    false ∧ alone up 3 := ⟨accepted_signed (by decide), alone_up 3⟩
/-- The counter has been taken: the same command again, with nothing saved. -/
theorem test_w_keyChange_replay : ∀ s, s = up.modVi 3 (fun v => { v with counter := 1 }) →
    (s.vi 3).counter = cKey.counter ∧ (s.vi 3).key = some key1 ∧ keyedOk key1 0x0101 (signCmd cKey key1 0x0101) = true ∧
    (s.vi 3).saved = none := by
  intro s h; subst h; exact ⟨by decide, by decide, keyedOk_sign _ _ _, by decide⟩

theorem test_w_queries :
    accepted up 3 0x0001 (cmdOf 3 []) (lenIs (cmdOf 3 []) 0) [] .any false ∧
    (accepted up 3 0x0212 (cmdOf 3 [0#8, 0#8]) (lenIs (cmdOf 3 [0#8, 0#8]) 2) [] .any false ∧
      (up.ext (arg (cmdOf 3 [0#8, 0#8]) 0 2)).state = .free) ∧
    (accepted up 0 0x0212 (cmdOf 0 [1#8, 0#8]) (lenIs (cmdOf 0 [1#8, 0#8]) 2) [] .any false ∧
      mayAct 0 (up.ext (arg (cmdOf 0 [1#8, 0#8]) 0 2)).ownerVi = true) ∧
    (accepted up 0 0x0705 (cmdOf 0 [0x7F#8, 1#8]) (lenIs (cmdOf 0 [0x7F#8, 1#8]) 2) [] .pf false ∧
      arg (cmdOf 0 [0x7F#8, 1#8]) 0 2 = 383) ∧
    accepted up 3 0x090A (cmdOf 3 []) (lenIs (cmdOf 3 []) 0) [] .any false ∧
    (accepted up 3 0x0909 (cmdOf 3 []) (lenIs (cmdOf 3 []) 0) [] .any false ∧ up.pair.state ≠ .active) ∧
    (accepted up 3 0x0002 (cmdOf 3 (zeros 24)) (lenIs (cmdOf 3 (zeros 24)) 24) ((0, 1, 0xFF) :: (1, 3, 0) :: opRsv 8) .any
      false ∧ arg (cmdOf 3 (zeros 24)) 0 1 = 0 ∧ up.log.length ≤ arg (cmdOf 3 (zeros 24)) 4 4) :=
  ⟨accepted_plain (by decide), ⟨accepted_plain (by decide), by decide⟩, ⟨accepted_plain (by decide), by decide⟩,
   ⟨accepted_plain (by decide), by decide⟩, accepted_plain (by decide), ⟨accepted_plain (by decide), by decide⟩,
   ⟨accepted_plain (by decide), by decide⟩⟩

/-- MEM_SET with EDDY_TH 1, PANIC_LO 0, PANIC_HI 1, REF_POSTPONE 8; and with every field out of range. -/
def cMemSet (v : Nat) : Cmd := cmdOf 0 (toLe 2 0xFFF ++ zeros 2 ++ toLe 4 0xFFFFFFFF ++ toLe 4 v)
theorem test_w_memSet :
    accepted up 0 0x0701 (cMemSet 0x01000301) (lenIs (cMemSet 0x01000301) 12)
      [(0, 2, 0xFFF), (2, 2, 0), (8, 4, 0xFF07FFE1)] .pf false ∧
    accepted up 0 0x0701 (cMemSet 0x000003E0) (lenIs (cMemSet 0x000003E0) 12)
      [(0, 2, 0xFFF), (2, 2, 0), (8, 4, 0xFF07FFE1)] .pf false := ⟨accepted_plain (by decide), accepted_plain (by decide)⟩
def cFordSet : Cmd := cmdOf 0 (toLe 2 1 ++ toLe 2 3 ++ toLe 4 1 ++ List.replicate 8 5#8 ++ toLe 4 200)
theorem test_w_fordSet : accepted up 0 0x0702 cFordSet (lenIs cFordSet 20)
    [(0, 2, 0xFFF), (2, 1, 3), (3, 1, 0), (16, 4, 0x1FFFF)] .pf false ∧ arg cFordSet 2 1 = 3 ∧ 200 ≤ arg cFordSet 16 2 :=
  ⟨accepted_plain (by decide), by decide⟩
def cXport : Cmd := cmdOf 0 (toLe 4 0x800104)
theorem test_w_xportSet : accepted up 0 0x0803 cXport (lenIs cXport 4) [(0, 4, 0xFF7F07)] .pf false :=
  accepted_plain (by decide)
def cSched : Cmd := cmdOf 0 (toLe 4 0 ++ toLe 1 3 ++ zeros 3 ++
  (List.range 8).flatMap (fun _ => toLe 1 32 ++ zeros 1 ++ toLe 2 4096 ++ zeros 4))
theorem test_w_schedSet : accepted up 0 0x0805 cSched (lenIs cSched 72) ([(0, 4, 0x100FF), (4, 1, 3), (5, 3, 0)] ++
      (List.range 8).flatMap (fun k => [(9 + 8 * k, 1, 0), (12 + 8 * k, 4, 0)])) .pf false ∧ arg cSched 4 1 = 3 ∧
    (∀ k, k < 8 → 1 ≤ arg cSched (8 + 8 * k) 1 ∧ 1 ≤ arg cSched (10 + 8 * k) 2 ∧ arg cSched (10 + 8 * k) 2 ≤ 4096) ∧
    ((List.range 8).map (fun k => arg cSched (8 + 8 * k) 1)).sum ≤ 256 :=
  ⟨accepted_plain (by decide), by decide⟩
def cCoh : Cmd := cmdOf 0 (toLe 4 (10000 * 65536 + 5))
theorem test_w_cohSet : accepted up 0 0x0403 cCoh (lenIs cCoh 4) [(0, 4, 0x3FFF03FF)] .pf false := accepted_plain (by decide)
def cEngine : Cmd := cmdOf 0 (toLe 2 1 ++ zeros 2 ++ toLe 4 0x801 ++ List.replicate 96 0xFF#8)
theorem test_w_engineSet : accepted up 0 0x0601 cEngine (lenIs cEngine 104) [(0, 2, 0xFFF), (2, 2, 0), (4, 4, 0xF03)] .pf
      false ∧ bitf (arg cEngine 4 4) 11 8 ≤ 8 ∧ bitf (arg cEngine 4 4) 1 0 ≤ 1 ∧
    (∀ e, e < 768 → tbit (arg cEngine 0 2) (e / 64) = true →
      (up.engine e).online = tbit (arg cEngine (8 + e / 8) 1) (e % 8) ∧ (up.engine e).leave = false) := ⟨accepted_plain (by decide), by decide⟩
theorem test_w_progPolicy : accepted up 0 0x0104 (cmdOf 0 [1#8]) (lenIs (cmdOf 0 [1#8]) 1) [] .pf false ∧
    arg (cmdOf 0 [1#8]) 0 1 ≤ 1 := ⟨accepted_plain (by decide), by decide⟩

/-! ### Witnesses of the obligations on tables, leases, extents and windows -/

/-- LINK_SET of port 65 (the last one) and of port 0. -/
def cLink (v : Nat) : Cmd := cmdOf 0 (toLe 16 (2 ^ 65 + 1) ++ toLe 4 v)
theorem test_w_linkSet : accepted up 0 0x0801 (cLink 0x3FF0F3) (lenIs (cLink 0x3FF0F3) 20)
      [(0, 16, 2 ^ 66 - 1), (16, 4, 0x3FF0F3)] .pf false ∧ bitf (arg (cLink 0x3FF0F3) 16 4) 7 4 ≠ 0 ∧
    tbit (arg (cLink 0x3FF0F3) 16 4) 0 = true ∧
    accepted up 0 0x0801 (cLink 0x10) (lenIs (cLink 0x10) 20) [(0, 16, 2 ^ 66 - 1), (16, 4, 0x3FF0F3)] .pf false ∧
    bitf (arg (cLink 0x10) 16 4) 7 4 ≠ 0 ∧ tbit (arg (cLink 0x10) 16 4) 0 = false :=
  ⟨accepted_plain (by decide), by decide, by decide, accepted_plain (by decide), by decide⟩
def cViSched : Cmd := cmdOf 0 (toLe 2 3 ++ zeros 6 ++ toLe 2 8192 ++ toLe 2 4096 ++ toLe 1 1 ++ toLe 1 7 ++ zeros 2)
theorem test_w_viSched : accepted up 0 0x0806 cViSched (lenIs cViSched 16)
      [(0, 2, 0x3FF), (2, 6, 0), (8, 2, 0x3FFF), (10, 2, 0x1FFF), (13, 1, 7), (14, 2, 0)] .pf false ∧ alone up 0 ∧
    mayAct 0 (arg cViSched 0 2) = true ∧ up.viExists (arg cViSched 0 2) = true ∧ arg cViSched 8 2 ≤ 8192 ∧ 1 ≤ arg cViSched 10 2 ∧ arg cViSched 10 2 ≤ 4096 ∧
    1 ≤ arg cViSched 12 1 := ⟨accepted_plain (by decide), alone_up 0, by decide⟩
def cWinClass : Cmd := cmdOf 0 (toLe 2 1 ++ toLe 1 7)
theorem test_w_winClass : accepted up 0 0x0302 cWinClass (lenIs cWinClass 3) [(2, 1, 7)] .any true ∧
    arg cWinClass 0 2 < 1024 ∧ (up.win (arg cWinClass 0 2)).ownerVi = 0 ∧
    (up.vi 0).sched.classMin ≤ arg cWinClass 2 1 := ⟨accepted_plain (by decide), by decide⟩
/-- With port 0 ACTIVE the node ID waits; with every port DOWN it is in force at once. -/
def cChain : Cmd := cmdOf 0 (toLe 1 63 ++ zeros 1 ++ toLe 2 9)
theorem test_w_chainAddr : accepted up 0 0x0A03 (signCmd cChain key1 0x0A03) (lenIs (signCmd cChain key1 0x0A03) 4)
      [(1, 1, 0), (2, 2, 0xFFF)] .pf false ∧ alone up 0 ∧ arg cChain 0 1 ≤ 63 ∧ up.pair.state = .unpaired ∧
    (up.port 0).state ≠ .down ∧ (∀ n, n < 64 → (({ up with fabric := Fabric.reset } : State).port n).state = .down) :=
  ⟨accepted_signed (by decide), alone_up 0, by decide⟩

/-- VI 8 exists and has no lease. -/
theorem test_w_leaseOpen : accepted up 8 0x0201 (cmdOf 8 (toLe 4 60000)) (lenIs (cmdOf 8 (toLe 4 60000)) 4) [] .any false ∧
    arg (cmdOf 8 (toLe 4 60000)) 0 4 = 60000 ∧ arg (cmdOf 8 (toLe 4 100)) 0 4 = 100 ∧ up.leaseRuns 8 = false ∧
    (up.vi 8).lease.due = false := ⟨accepted_plain (by decide), by decide⟩
/-- The renewal window opens at 500 ms. -/
theorem test_w_leaseRenew : ∀ s, s = { up with now := ms 500 } →
    accepted s 3 0x0202 (cmdOf 3 []) (lenIs (cmdOf 3 []) 0) [] .any true ∧ (s.vi 3).lease.renewAt ≤ s.now := by
  intro s h; subst h; exact ⟨accepted_plain (by decide), by decide⟩
theorem test_w_leaseRenew_early : accepted up 3 0x0202 (cmdOf 3 []) (lenIs (cmdOf 3 []) 0) [] .any true ∧
    up.now < (up.vi 3).lease.renewAt := ⟨accepted_plain (by decide), by decide⟩
theorem up_tables : up.tablesOk := by
  unfold State.tablesOk keysRise
  refine ⟨?_, ?_, ?_, ?_, ?_, ?_, ?_, ?_, ?_, ?_, ?_, ?_, ?_, ?_, ?_, ?_, ?_, ?_⟩ <;> decide
theorem test_w_leaseEnd : accepted up 0 0x0203 (cmdOf 0 []) (lenIs (cmdOf 0 []) 0) [] .any true ∧ alone up 0 ∧
    up.tablesOk ∧ up.home.agents.all (fun a => a.2.vi != 0) = true ∧
    up.regions.all (fun r => r.2.miss.all (fun m => (up.win m.window).ownerVi != 0) &&
      r.2.mirror.all (fun x => (up.win x.window).ownerVi != 0)) = true ∧
    ((up.ext 1).state = .active ∧ (up.ext 1).ownerVi = 0) ∧ (up.win 1).ownerVi = 0 ∧ up.leaseRuns 0 = true ∧
    up.complexUp 0 = true ∧ up.mirrors = false :=
  ⟨accepted_plain (by decide), alone_up 0, up_tables, by decide⟩

def cGrant : Cmd := cmdOf 0 (toLe 2 9 ++ toLe 2 3 ++ toLe 4 300 ++ toLe 4 64 ++ toLe 2 3 ++ zeros 2)
theorem test_w_extGrant : accepted up 0 0x0210 (signCmd cGrant key1 0x0210) (lenIs (signCmd cGrant key1 0x0210) 16)
      [(2, 2, 3), (12, 2, 0x3FF), (14, 2, 0)] .pf false ∧ alone up 0 ∧ mayAct 0 (arg cGrant 12 2) = true ∧
    up.viExists (arg cGrant 12 2) = true ∧ up.leaseRuns (arg cGrant 12 2) = true ∧
    up.grantFault (arg cGrant 0 2) (arg cGrant 4 4) (arg cGrant 8 4) = none :=
  ⟨accepted_signed (by decide), alone_up 0, by decide⟩
def cViEnable : Cmd := cmdOf 0 (toLe 2 512 ++ toLe 2 0x8FFF ++ toLe 2 9 ++ zeros 2 ++ toLe 4 300 ++ toLe 4 100)
theorem test_w_viEnable : accepted up 0 0x0102 (signCmd cViEnable key1 0x0102) (lenIs (signCmd cViEnable key1 0x0102) 16)
      [(0, 2, 0x3FF), (2, 2, 0x8FFF), (6, 2, 0)] .pf false ∧ alone up 0 ∧ isTenant (arg cViEnable 0 2) = true ∧
    mayAct 0 (arg cViEnable 0 2) = true ∧ (up.vi (arg cViEnable 0 2)).enabled = false ∧ arg cViEnable 12 4 = 100 ∧
    up.grantFault (arg cViEnable 4 2) (arg cViEnable 8 4) 1 = none :=
  ⟨accepted_signed (by decide), alone_up 0, by decide⟩
/-- A package with tenant 512 enabled on page extent 4 (granule 400), reached through window 4. -/
def upTenant : State :=
  { up with
    vis := up.vis ++ [(512, { viUp 512 with enabled := true, pageNode := 7, pageExt := 4 })]
    wins := up.wins ++ [(4, ⟨1, true, true, true, 0, 512, 4, 0x10000, 400 * 65536, 0, 0, 3⟩)]
    exts := up.exts ++ [(4, ⟨400, 1, 512, .active, false, false, 1⟩)] }
def cViDisable : Cmd := cmdOf 0 (toLe 2 512)
theorem test_w_viDisable : accepted upTenant 0 0x0103 (signCmd cViDisable key1 0x0103)
      (lenIs (signCmd cViDisable key1 0x0103) 2) [(0, 2, 0x3FF)] .pf false ∧ alone upTenant 0 ∧
    isTenant (arg cViDisable 0 2) = true ∧ mayAct 0 (arg cViDisable 0 2) = true ∧
    (upTenant.vi (arg cViDisable 0 2)).enabled = true := ⟨accepted_signed (by decide), ⟨rfl, rfl⟩, by decide⟩

def cRevoke : Cmd := cmdOf 0 (toLe 2 1)
theorem test_w_extRevoke : up.complexUp 0 = true ∧ accepted up 0 0x0211 (signCmd cRevoke key1 0x0211)
      (lenIs (signCmd cRevoke key1 0x0211) 2) [] .any false ∧ arg cRevoke 0 2 = 1 ∧ (up.ext 1).state = .active ∧
    mayAct 0 (up.ext 1).ownerVi = true := ⟨by decide, accepted_signed (by decide), by decide⟩
/-- A revocation of extent `e` at a step. -/
def upRevoke (e step : Nat) : State :=
  { up with revokes := [(e, ⟨stREVOKED, ms 100, ms 101, step, [], [], 50, none, 0, 0, 0, 0, []⟩)] }
theorem test_w_revokeSteps :
    (∀ w ∈ up.waiting, ∀ g, w.why ≠ .mesh g) ∧
    (∃ r, afind (upRevoke 1 2).revokes 1 = some r ∧ r.step = 2) ∧
    (∃ r, afind (upRevoke 1 4).revokes 1 = some r ∧ r.step = 4 ∧ (upRevoke 1 4).stillOpen r.inFlight r.tiles = ([], []) ∧
      (upRevoke 1 4).streams = [] ∧ (upRevoke 1 4).regions.all (fun g => g.2.commit.isEmpty) = true ∧
      ¬ ((up.ext 1).mirrored = true ∧ up.pair.state = .active)) ∧
    (∃ r, afind (upRevoke 2 6).revokes 2 = some r ∧ r.step = 6 ∧ ((upRevoke 2 6).ext 2).coherent = true ∧
      (upRevoke 2 6).extTxns 2 = [] ∧ (upRevoke 2 6).extLines 2 = [] ∧
      (upRevoke 2 6).waitersFor (fun y => match y.line? with
        | some l => (((upRevoke 2 6).extentOf (granuleOf (64 * l))).map (·.1)) == some 2
        | none => false) = []) ∧
    (∃ r, afind (upRevoke 1 6).revokes 1 = some r ∧ r.step = 6 ∧ ((upRevoke 1 6).ext 1).coherent = false) ∧
    (∃ r, afind (upRevoke 2 7).revokes 2 = some r ∧ r.step = 7) ∧
    (∀ s, s = { upRevoke 1 4 with exts := [(1, ⟨100, 4, 0, .active, false, true, 1⟩)],
                                  pair := { Pair.reset with state := .active } } →
      (s.ext 1).mirrored = true ∧ s.pair.state = .active ∧ s.stillOpen [] [] = ([], [])) :=
  ⟨fun w hw => by simp [up, State.reset] at hw, ⟨_, rfl, rfl⟩, ⟨_, rfl, rfl, by decide, rfl, by decide, by decide⟩, ⟨_, rfl, rfl, by decide⟩,
   ⟨_, rfl, rfl, by decide⟩, ⟨_, rfl, rfl⟩, by intro s h; subst h; decide⟩

/-- WIN_SET of window 5 as a raw window over extent 1. -/
def dWin : Bytes := toLe 1 0xD ++ zeros 1 ++ toLe 2 0 ++ toLe 2 1 ++ zeros 2 ++ toLe 8 0x40000 ++ toLe 8 (100 * 65536) ++ zeros 8
def cWin (w : Nat) : Cmd := cmdOf 0 (toLe 2 w ++ zeros 6 ++ dWin)
def rsvWin : List (Nat × Nat × Nat) :=
  [(2, 6, 0), (8, 1, 0x1F), (9, 1, 3), (10, 2, 0x3FF), (14, 2, 0), (16, 8, 2 ^ 43 - 1), (24, 8, 2 ^ 40 - 1), (38, 2, 0)]
theorem test_w_winSet : accepted up 0 0x0301 (cWin 5) (lenIs (cWin 5) 40) rsvWin .any true ∧ alone up 0 ∧
    up.winFault 0 5 (slice (cmdBytes (cWin 5)) 8 32) = none ∧ (parseWin (slice (cmdBytes (cWin 5)) 8 32)).isSome = true ∧
    arg (cWin 5) 0 2 = 5 ∧ up.regions.all (fun r => r.2.miss.all (fun m => m.window != 5)) = true ∧ up.reqsOn 5 = [] ∧ up.opLooks = [] ∧
    up.tilesOn 5 (fun _ _ => true) = [] ∧ accepted up 0 0x0301 (cWin 2) (lenIs (cWin 2) 40) rsvWin .any true ∧
    (up.winFault 0 2 (slice (cmdBytes (cWin 2)) 8 32) = none ∧ (up.win 2).kind = 2 ∧ arg (cWin 2) 0 2 = 2 ∧
      up.regions.all (fun r => r.2.miss.all (fun m => m.window != 2)) = true ∧ up.reqsOn 2 = [] ∧
      up.tilesOn 2 (fun _ _ => true) = []) :=
  ⟨accepted_plain (by decide), alone_up 0, by decide, by decide, by decide, by decide, by decide, by decide, by decide,
   accepted_plain (by decide), by decide⟩
/-- A request of node 7 through window 1 that waits for a fill. -/
def pktRd (w o n : Nat) : Pkt := { Pkt.zero with ptype := 1, dstNode := 5, srcNode := 7, addr := mkAddr 5 w o, opLen := n }
def upWaiting : State :=
  { up with waiting := [⟨0, pktRd 1 0 64, .fabric 0, .fill 100, 0, ms 100, none, 7, [], false, none⟩], reqNo := 1 }
theorem test_w_winSet_waits : accepted upWaiting 0 0x0301 (cWin 1) (lenIs (cWin 1) 40) rsvWin .any true ∧
    upWaiting.reqsOn 1 ≠ [] ∧ upWaiting.opLooks = [] ∧
    upWaiting.regions.all (fun r => r.2.miss.all (fun m => m.window != 1)) = true ∧ upWaiting.winFault 0 1 (slice (cmdBytes (cWin 1)) 8 32) = none :=
  ⟨accepted_plain (by decide), by decide⟩
/-- Commands of VI 0 that wait for the drain of window 1 and of window 2. -/
def upDrains : State :=
  { up with
    vis := [(0, { viUp 0 with page := { Page.reset with busy := true, taken := true },
                              cmd := some ⟨0x0301, cWin 1, false, 1, none, (0, none)⟩ }), (3, viUp 3)]
    drains := [⟨1, 0, ms 101, [0], [], none, [], []⟩, ⟨2, 0, ms 101, [0], [], some 7, [], []⟩] }
theorem test_w_drained : ∀ d e, upDrains.drains = [d, e] →
    upDrains.stillOpen d.reqs d.tiles = ([], []) ∧ alone upDrains 0 ∧ d.vi = 0 ∧ ((upDrains.vi 0).cmd).isSome = true ∧
    (upDrains.vi 0).dropAnswer = false ∧ upDrains.drains.find? (fun x => x.window == 1 && x.seq.isSome == false) = some d ∧
    upDrains.drains.find? (fun x => x.window == 2 && x.seq.isSome == true) = some e ∧ e.seq = some 7 ∧
    d.wake = [] ∧ e.wake = [] ∧ upDrains.waiting = [] := by
  intro d e h
  obtain ⟨rfl, rfl⟩ : d = ⟨1, 0, ms 101, [0], [], none, [], []⟩ ∧ e = ⟨2, 0, ms 101, [0], [], some 7, [], []⟩ := by
    simpa [upDrains, eq_comm] using h
  exact ⟨by decide, ⟨rfl, rfl⟩, by decide⟩
/-- TBL_UPDATE with sequence number 1: one run of four small pages on extent 1. -/
def dRun : Bytes := toLe 2 (0x8000 + 2) ++ toLe 1 0 ++ toLe 1 4 ++ toLe 4 0 ++ toLe 3 100 ++ zeros 1 ++ toLe 2 1 ++ zeros 2
def cTbl : Cmd := cmdOf 0 (toLe 2 2 ++ toLe 1 1 ++ zeros 1 ++ toLe 4 1 ++ toLe 2 1 ++ zeros 6 ++ dRun)
theorem test_w_tblUpdate : accepted up 0 0x0303 cTbl (lenIs cTbl (16 + 16 * arg cTbl 2 1))
      [(3, 1, 0), (8, 2, 0x8FFF), (10, 6, 0)] .any true ∧ (up.win (arg cTbl 0 2)).kind = 2 ∧ arg cTbl 2 1 = 1 ∧
    tbit (arg cTbl 8 2) 15 = false ∧ BitVec.ofNat 32 (arg cTbl 4 4) = (up.win 2).tblSeq + 1 ∧ up.runsOf 2 = [] ∧
    (∃ r, parseRun (slice (cmdBytes cTbl) 16 16) = some (true, r) ∧ r.regions ≠ [] ∧
      up.checkEntries 2 (up.win 2) [some (true, r)] [] = none) ∧ up.heldTiles = [] ∧
    up.regions.all (fun g => g.2.miss.isEmpty && g.2.commit.isEmpty) = true ∧ up.opLooks = [] :=
  ⟨accepted_plain (by decide), by decide, by decide, by decide, by decide, by decide, ⟨_, rfl, by decide, by decide⟩,
   by decide, by decide⟩
/-- An open miss of chunk 0 of window 2 in region 4. -/
def upMiss : State :=
  { up with regions := tput up.regions 4 { Region.reset with inReset := false, miss := [⟨2, 0, 7, 0, ms 99, some (ms 120), 0⟩] } }
def cReply : Cmd := cmdOf 0 (toLe 2 2 ++ toLe 2 0x407)
theorem test_w_missReply : accepted up 0 0x0304 cReply (lenIs cReply 4) [(2, 2, 0x0FFF)] .any true ∧
    arg cReply 0 2 < 1024 ∧ (up.win (arg cReply 0 2)).kind = 2 ∧ mayAct 0 (up.win (arg cReply 0 2)).ownerVi = true ∧
    up.missOf 2 0x407 = none ∧ accepted upMiss 0 0x0304 cReply (lenIs cReply 4) [(2, 2, 0x0FFF)] .any true ∧
    upMiss.missOf 2 0x407 = some (4, 0) ∧ upMiss.waiting = [] ∧ upMiss.streams = [] ∧ upMiss.opLooks = [] ∧
    (∀ e ∈ upMiss.engines, e.2.claim = none) :=
  ⟨accepted_plain (by decide), by decide, by decide, by decide, by decide, accepted_plain (by decide), by decide⟩

def cNode : Cmd := cmdOf 0 (toLe 2 9 ++ toLe 2 1 ++ zeros 4 ++ toLe 8 3 ++ toLe 1 9 ++ toLe 1 1 ++ toLe 2 1024 ++ toLe 2 8 ++ zeros 2)
theorem test_w_nodeSet : accepted up 0 0x0305 cNode (lenIs cNode (8 + 16 * arg cNode 2 2)) [(4, 4, 0)] .pf false ∧
    arg cNode 2 2 = 1 ∧ arg cNode 0 2 < 4096 ∧ arg cNode 0 2 ≠ up.aon.nodeId ∧
    (∃ x, parseNode (slice (cmdBytes cNode) 8 16) = some x ∧
      colSources (tset NodeEnt.reset up.fabric.nodes (arg cNode 0 2) x) ≤ 512) ∧
    (∀ l, l < 4 → (up.die l).sends = []) ∧ up.fabric.rspHold = [] :=
  ⟨accepted_plain (by decide), by decide, by decide, by decide, ⟨⟨3, true, 0, true, 1, 1024, 8⟩, by decide⟩, by decide⟩
/-- Agent 2 is node 7 for VI 0. -/
def upAgent : State := { up with home := { up.home with agents := [(2, ⟨7, 0, false⟩)] } }
def cAgent (n : Nat) : Cmd := cmdOf 0 (toLe 2 n)
theorem test_w_agents : accepted up 0 0x0401 (cAgent 4095) (lenIs (cAgent 4095) 2) [] .any true ∧
    arg (cAgent 4095) 0 2 = 4095 ∧ up.agentOfNode 4095 = none ∧ (span 2 254).find? (fun i => (up.agent i).isNone) = some 2 ∧
    accepted upAgent 0 0x0401 (cAgent 7) (lenIs (cAgent 7) 2) [] .any true ∧ upAgent.agentOfNode 7 = some 2 ∧
    mayAct 0 (((upAgent.agent 2).map (·.vi)).getD 0) = true ∧
    accepted upAgent 0 0x0402 (cmdOf 0 [2#8]) (lenIs (cmdOf 0 [2#8]) 1) [] .any true ∧
    upAgent.agent (arg (cmdOf 0 [2#8]) 0 1) = some ⟨7, 0, false⟩ ∧ upAgent.linesOf 2 = [] :=
  ⟨accepted_plain (by decide), by decide, by decide, by decide, accepted_plain (by decide), by decide, by decide,
   accepted_plain (by decide), by decide⟩

/-! ### Witnesses of the obligations on statistics, scrubs and check-value units -/

/-- A raw window 6 with room for every statistics record. -/
def upBig : State :=
  { up with
    wins := up.wins ++ [(6, ⟨1, true, true, true, 0, 0, 6, 0x200000, 512 * 65536, 0, 0, 3⟩)]
    exts := up.exts ++ [(6, ⟨512, 32, 0, .active, false, false, 1⟩)]
    dram := ⟨[], [], (List.range 32).map (· + 512), [], []⟩ }
def opBytes (w o n : Nat) : Bytes := encodeOperand ⟨w, o, n⟩
def cStats : Cmd := cmdOf 0 (opBytes 6 0 0x200000)
theorem length_records (n k : Nat) (f : Nat → Bytes) (h : ∀ i, (f i).length = k) :
    ((List.range n).flatMap f).length = n * k := by
  induction n with
  | zero => simp
  | succ n ih => simp [List.range_succ, ih, h, Nat.succ_mul]
theorem chan_record (x : Chan) (n : Nat) : (x.record n).length = 192 := by
  simp [Chan.record, List.range_succ]
theorem port_record (x : Port) : x.record.length = 128 := by
  simp [Port.record, List.range_succ, zeros]
theorem die_record (x : LinkDie) : x.record.length = 96 := by
  simp [LinkDie.record, List.range_succ, zeros]
theorem sched_record (x : SchedPort) : x.record.length = 128 := by
  simp [SchedPort.record, List.range_succ, zeros]
theorem cluster_record (s : State) (c : Nat) : (s.clusterRecord c).length = 64 := by
  simp [State.clusterRecord, zeros]
theorem tget_all {α : Type} {P : α → Prop} {d : α} {t : Tbl α} (hd : P d) (h : ∀ e ∈ t, P e.2) (k : Nat) : P (tget d t k) := by
  unfold tget
  split
  · exact h _ (List.mem_of_find?_eq_some (by assumption))
  · exact hd
theorem up_fills (g : Nat) : (up.region g).fills = [] :=
  tget_all (P := fun r : Region => r.fills = []) rfl (by decide) g
theorem stats_write (op : Nat) (r : Bytes) (h : r.length ≤ 0x200000) (hv : (taken upBig 0 op cStats).leaseRuns 0 = true ∧
      (taken upBig 0 op cStats).vis.any (fun e => isTenant e.1 && e.2.pageExt == 6) = false) :
    ∃ u, (taken upBig 0 op cStats).writeOp (.cmd 0) (opArg cStats 0) r = (0, u) := by
  have hw : (taken upBig 0 op cStats).wins = upBig.wins := by unfold taken; split <;> rfl
  have hx : (taken upBig 0 op cStats).exts = upBig.exts := by unfold taken; split <;> rfl
  have hd : (taken upBig 0 op cStats).dram = upBig.dram := by unfold taken; split <;> rfl
  have hm : (taken upBig 0 op cStats).home = upBig.home := by unfold taken; split <;> rfl
  have hop : (taken upBig 0 op cStats).opLooks = [] := by unfold taken; split <;> rfl
  have hr : (taken upBig 0 op cStats).regions = upBig.regions := by unfold taken; split <;> rfl
  have hfi : ∀ g, ((taken upBig 0 op cStats).region g).fills = [] := by
    intro g; unfold State.region; rw [hr]; exact up_fills g
  have ho : opArg cStats 0 = ⟨6, 0, 0x200000⟩ := by decide
  have hn : (taken upBig 0 op cStats).win 6 = ⟨1, true, true, true, 0, 0, 6, 0x200000, 512 * 65536, 0, 0, 3⟩ := by
    unfold State.win; rw [hw]; rfl
  have he : (taken upBig 0 op cStats).ext 6 = ⟨512, 32, 0, .active, false, false, 1⟩ := by
    unfold State.ext; rw [hx]; rfl
  have hp : outOfPool (512 * 65536) r.length = false := by
    unfold outOfPool
    rw [Bool.or_eq_false_iff, decide_eq_false_iff_not, List.any_eq_false]
    refine ⟨by simp only [poolEnd]; omega, fun g hg => ?_⟩
    have hg : g < 12 := List.mem_range.1 hg
    intro hc
    rw [decide_eq_true_eq] at hc
    have h2 := hc.2
    simp only [stackBytes, reservedOff] at h2
    split at h2 <;> omega
  have hu : (taken upBig 0 op cStats).boot = upBig.boot := by unfold taken; split <;> rfl
  have hpr : (taken upBig 0 op cStats).pair = upBig.pair := by unfold taken; split <;> rfl
  have hs : (taken upBig 0 op cStats).rangesServe [(512 * 65536, r.length)] = true := by
    have : ∀ t : State, t.regions = upBig.regions → t.boot = upBig.boot →
        t.stackServes (stackOf (512 * 65536)) = true := by
      intro t h1 h2; unfold State.stackServes State.region; rw [h1, h2]; decide
    simp only [State.rangesServe, List.all_cons, List.all_nil, Bool.and_true]
    exact this _ hr hu
  rw [ho]
  refine ⟨_, State.writeOp_raw h (by rw [hn]) (by rw [hn]) (by rw [hn]; simpa using h) ?_ (by rw [hn]; exact hs)
    (State.writeBarred_none (by rw [hm]; rfl) _) (State.needsEntry_none (by unfold State.tracks; rw [hpr]; rfl) _)
    (State.fullLine_none (by rw [hm]; rfl) _) (State.heldLines_none (by rw [hm]; rfl) (by rw [hm]; rfl) _)
    (by rw [hm]; rfl) (by rw [hd]; rfl) hop hfi⟩
  rw [hn]
  simp [State.checkData, State.checkAt, he, hv.1, State.isPageExt, hv.2, hp]
theorem test_w_clusterStats : accepted upBig 0 0x0603 cStats (lenIs cStats 16) (opRsv 0) .pf false ∧
    6144 ≤ (opArg cStats 0).len ∧ (opArg (cmdOf 0 (opBytes 6 0 6143)) 0).len < 6144 ∧
    (∃ u, (taken upBig 0 0x0603 cStats).writeOp (.cmd 0) (opArg cStats 0)
      ((List.range 96).flatMap (taken upBig 0 0x0603 cStats).clusterRecord) = (0, u)) :=
  ⟨accepted_plain (by decide), by decide, by decide, stats_write _ _ (by rw [length_records 96 64 _ (cluster_record _)]; decide) (by decide)⟩
theorem test_w_memStats : accepted upBig 0 0x0704 cStats (lenIs cStats 16) (opRsv 0) .pf false ∧ ∃ r u,
    r = (List.range 384).flatMap (fun n => (upBig.chan n).record upBig.now) ∧ r.length ≤ (opArg cStats 0).len ∧
    (taken upBig 0 0x0704 cStats).writeOp (.cmd 0) (opArg cStats 0) r = (0, u) := by
  obtain ⟨u, h⟩ := stats_write 0x0704 ((List.range 384).flatMap (fun n => (upBig.chan n).record upBig.now)) (by rw [length_records 384 192 _ (fun _ => chan_record _ _)]; decide) (by decide)
  exact ⟨accepted_plain (by decide), _, u, rfl, by rw [length_records 384 192 _ (fun _ => chan_record _ _)]; decide, h⟩
theorem test_w_linkStats : accepted upBig 0 0x0802 cStats (lenIs cStats 16) (opRsv 0) .pf false ∧ ∃ r u,
    r = (List.range 66).flatMap (fun i => (upBig.port i).record) ∧ r.length ≤ (opArg cStats 0).len ∧
    (taken upBig 0 0x0802 cStats).writeOp (.cmd 0) (opArg cStats 0) r = (0, u) := by
  obtain ⟨u, h⟩ := stats_write 0x0802 ((List.range 66).flatMap (fun i => (upBig.port i).record)) (by rw [length_records 66 128 _ (fun _ => port_record _)]; decide) (by decide)
  exact ⟨accepted_plain (by decide), _, u, rfl, by rw [length_records 66 128 _ (fun _ => port_record _)]; decide, h⟩
theorem test_w_xportStats : accepted upBig 0 0x0804 cStats (lenIs cStats 16) (opRsv 0) .pf false ∧ ∃ r u,
    r = (List.range 4).flatMap (fun l => (upBig.die l).record) ∧ r.length ≤ (opArg cStats 0).len ∧
    (taken upBig 0 0x0804 cStats).writeOp (.cmd 0) (opArg cStats 0) r = (0, u) := by
  obtain ⟨u, h⟩ := stats_write 0x0804 ((List.range 4).flatMap (fun l => (upBig.die l).record)) (by rw [length_records 4 96 _ (fun _ => die_record _)]; decide) (by decide)
  exact ⟨accepted_plain (by decide), _, u, rfl, by rw [length_records 4 96 _ (fun _ => die_record _)]; decide, h⟩
theorem test_w_schedStats : accepted upBig 0 0x0807 cStats (lenIs cStats 16) (opRsv 0) .pf false ∧ ∃ r u,
    r = (List.range 66).flatMap (fun i => ((taken upBig 0 0x0807 cStats).schedPort i).record) ∧
    r.length ≤ (opArg cStats 0).len ∧ (taken upBig 0 0x0807 cStats).writeOp (.cmd 0) (opArg cStats 0) r = (0, u) := by
  obtain ⟨u, h⟩ := stats_write 0x0807 ((List.range 66).flatMap (fun i => ((taken upBig 0 0x0807 cStats).schedPort i).record))
    (by rw [length_records 66 128 _ (fun _ => sched_record _)]; decide) (by decide)
  exact ⟨accepted_plain (by decide), _, u, rfl, by rw [length_records 66 128 _ (fun _ => sched_record _)]; decide, h⟩

/-- The last word of the pool below its reserved range, and a channel whose table is full but for its last entry. -/
def cRemap (a : Nat) : Cmd := cmdOf 0 (toLe 8 a)
def upRemap (l : List (Option Nat)) : State := up.modChan 0 (fun c => { c with remap := l })
theorem test_w_memRemap : accepted up 0 0x0703 (cRemap 0) (lenIs (cRemap 0) 8) [] .pf false ∧ arg (cRemap 0) 0 8 < poolEnd ∧
    packageChannel 0 = 0 ∧ chanWord 0 = 0 ∧ (up.chan 0).remap.contains (some 0) = false ∧
    (up.chan 0).remap.findIdx? (·.isNone) = some 0 ∧ ((upRemap [some 0]).chan 0).remap.contains (some 0) = true ∧
    ((upRemap ((List.replicate 15 (some 9)) ++ [none])).chan 0).remap.findIdx? (·.isNone) = some 15 ∧
    ((upRemap (List.replicate 16 (some 9))).chan 0).remap.findIdx? (·.isNone) = none ∧
    accepted (upRemap (List.replicate 16 (some 9))) 0 0x0703 (cRemap (poolEnd - 1)) (lenIs (cRemap (poolEnd - 1)) 8) [] .pf
      false := ⟨accepted_plain (by decide), by decide, by decide, by decide, by decide, by decide, by decide, by decide,
    by decide, accepted_plain (by decide)⟩
def cScrub : Cmd := cmdOf 0 (toLe 8 0 ++ toLe 8 (2 * stackBytes) ++ toLe 1 3 ++ zeros 7 ++ opBytes 1 0 64)
def scrub0 : Scrub :=
  ⟨0, 1, 0, 2 * stackBytes, true, true, false, ⟨1, 0, 64⟩, 65536, true, false, 0, 0, 0, 0, 0, 0, 0, 0, 0, none, none⟩
def upScrub : State := up.modRegion 0 (fun r => { r with scrub := some scrub0 })
theorem test_w_scrub : accepted up 0 0x0706 cScrub (lenIs cScrub 40) ([(16, 1, 7), (17, 7, 0)] ++ opRsv 24) .any (!isPf 0) ∧
    arg cScrub 0 8 % granuleBytes = 0 ∧ arg cScrub 8 8 % granuleBytes = 0 ∧ 0 < arg cScrub 8 8 ∧
    arg cScrub 0 8 + arg cScrub 8 8 ≤ poolEnd ∧ isPf 0 = true ∧ tbit (arg cScrub 16 1) 2 = false ∧
    64 ≤ (opArg cScrub 24).len ∧ regionsOf (arg cScrub 0 8) (arg cScrub 8 8) = [0, 1] ∧
    (up.region 0).scrub = none ∧ (up.region 1).scrub = none ∧ (upScrub.region 0).scrub ≠ none :=
  ⟨accepted_plain (by decide), by decide⟩
theorem test_w_scrubEnd : accepted upScrub 0 0x0707 (cmdOf 0 []) (lenIs (cmdOf 0 []) 0) [] .any false ∧
    (upScrub.region 0).scrub = some scrub0 ∧
    (∀ h, h ≠ 0 → (upScrub.region h).scrub = none ∨ 12 ≤ h) ∧ scrub0.abort = true ∧
    scrub0.reset = false ∧ scrub0.resume = none ∧ scrub0.pos < scrub0.hi 0 ∧ (∀ l, upScrub.heldLines l = []) ∧
    (upScrub.win scrub0.result.window).kind ≠ 2 ∧ upScrub.opLooks = [] ∧ (∀ l, upScrub.fullLine l = none) ∧
    (∀ l, upScrub.needsEntry l = false) ∧ (∀ g, (upScrub.region g).fills = []) := by
  refine ⟨accepted_plain (by decide), by decide, fun h hh => ?_, by decide, by decide, by decide, by decide,
    State.heldLines_none rfl rfl, by decide, rfl, State.fullLine_none rfl, State.needsEntry_none rfl, fun g => tget_all (P := fun r : Region => r.fills = []) rfl (by decide) g⟩
  by_cases hb : 12 ≤ h
  · exact .inr hb
  · have : ∀ k, k < 12 → k ≠ 0 → (upScrub.region k).scrub = none := by decide
    exact .inl (this h (by omega) hh)
def cCrc : Cmd := cmdOf 0 (opBytes 1 0 1 ++ toLe 1 3 ++ zeros 7 ++ toLe 8 0)
theorem test_w_crcRun : accepted up 0 0x0003 cCrc (lenIs cCrc 32) (opRsv 0 ++ [(17, 7, 0)]) .any false ∧
    (opArg cCrc 0).len = 1 ∧ arg cCrc 16 1 = 3 ∧ ((taken up 0 0x0003 cCrc).readOp (.cmd 0) 0 (opArg cCrc 0)).1 = 0 :=
  ⟨accepted_plain (by decide), by decide⟩
/-- A unit with eight writes queued, and CVU_INIT and CVU_CHECK words with every bit but CHECK and INIT. -/
theorem test_w_cvu : ∀ s, s = ({ up with complexes := [(1, { Complex.reset with
      cvus := [(3, { Cvu.reset with queue := List.replicate 8 [1#8] })] })] } : State) →
    tbit (0x13#32).toNat 5 = false ∧ tbit (0x10#32).toNat 3 = false ∧ (s.cvu 0 0).queue.length < 8 ∧
    (s.cvu 1 3).queue = [1#8] :: List.replicate 7 [1#8] := by intro s h; subst h; decide

/-! ### Witnesses of the obligations on step commands and programs -/

/-- A reduce-only descriptor of one FP32 tile of two contributors, its sums at the start of window 1. -/
def rawRed : Bytes :=
  toLe 2 9 ++ toLe 1 1 ++ toLe 1 0 ++ toLe 4 1 ++ toLe 8 0 ++ zeros 1 ++ zeros 1 ++ toLe 2 2 ++ toLe 2 8 ++ zeros 2 ++
  toLe 6 4096 ++ zeros 2 ++ opBytes 1 0 16384 ++ zeros 544
def dRed : Desc :=
  { raw := rawRed, cstream := 9, stages := 1, recipe := 0, step := 1, seed := 0, anchor := 0, prePass := false,
    satDiscard := false, nContrib := 2, skew := 8, wsSlots := 0, elems := 4096, stateOp := ⟨1, 0, 16384⟩,
    select := ⟨0, 0, 0⟩, groups := ⟨0, 0, 0⟩, complete := ⟨0, 0, 0⟩, hp := List.replicate 8 0, sumFmt := 0, rnd3 := 0,
    momBf16 := false, progId := 0, ws := List.replicate 12 ⟨0, 0, 0⟩, gather := [] }
def cRed : Cmd := cmdOf 0 rawRed
def xRed : Stream := Stream.start 0 dRed none []
/-- Stream 9 open, and stream 10 that is over. -/
def upStream : State := { up with streams := [(9, xRed), (10, { xRed with openNow := false })] }
theorem test_w_stepSubmit : accepted up 0 0x0501 cRed (lenIs cRed 592) (descRsv (cmdBytes cRed)) .any true ∧
    parseDesc (slice (cmdBytes cRed) 0 592) = some dRed ∧ up.stream dRed.cstream = none ∧
    dRed.fieldFault (slice (cmdBytes cRed) 0 592) 0 = none ∧ afind up.progs dRed.progId = none ∧
    (taken up 0 0x0501 cRed).operandsFault 0 dRed = none ∧ dRed.select.present = false ∧ dRed.isLamb = false ∧
    dRed.gatherOnly = false ∧ dRed.recipe ≠ 6 ∧
    (∀ k, k < dRed.tiles → (taken up 0 0x0501 cRed).tileSpread dRed k = false ∧
      (dRed.units k).any (taken up 0 0x0501 cRed).unitSplit = false) ∧
    (∀ g, g < 12 → (taken up 0 0x0501 cRed).wsBad xRed g = false) :=
  ⟨accepted_plain (by decide), by decide, by decide, by decide, by decide, by decide, by decide, by decide, by decide,
   by decide, by decide, by decide⟩
theorem test_w_stepSubmit_dup :
    accepted upStream 0 0x0501 cRed (lenIs cRed 592) (descRsv (cmdBytes cRed)) .any true ∧
    upStream.stream 9 = some xRed ∧ xRed.openNow = true ∧ xRed.desc.raw = slice (cmdBytes cRed) 0 592 ∧
    (∀ b, b = rawRed.set 4 2#8 → xRed.desc.raw ≠ slice (cmdBytes (cmdOf 0 b)) 0 592 ∧
      accepted upStream 0 0x0501 (cmdOf 0 b) (lenIs (cmdOf 0 b) 592) (descRsv (cmdBytes (cmdOf 0 b))) .any true ∧
      ∃ d, parseDesc (slice (cmdBytes (cmdOf 0 b)) 0 592) = some d ∧ d.cstream = 9) := by
  refine ⟨accepted_plain (by decide), by decide, by decide, by decide, ?_⟩
  intro b h
  subst h
  exact ⟨by decide, accepted_plain (by decide), ⟨{ dRed with raw := rawRed.set 4 2#8, step := 2 }, by decide⟩⟩
def cCancel (n : Nat) : Cmd := cmdOf 0 (toLe 2 n)
theorem test_w_stepCancel :
    accepted upStream 0 0x0502 (cCancel 9) (lenIs (cCancel 9) 2) [(0, 2, 0x3FFF)] .any true ∧
    upStream.stream (arg (cCancel 9) 0 2) = some xRed ∧ mayAct 0 xRed.owner = true ∧ xRed.openNow = true ∧
    accepted upStream 0 0x0502 (cCancel 10) (lenIs (cCancel 10) 2) [(0, 2, 0x3FFF)] .any true ∧
    upStream.stream (arg (cCancel 10) 0 2) = some { xRed with openNow := false } :=
  ⟨accepted_plain (by decide), by decide, by decide, by decide, accepted_plain (by decide), by decide⟩
def cScan : Cmd := cmdOf 0 (opBytes 1 65536 65536 ++ opBytes 1 0 1 ++ toLe 4 1)
theorem test_w_stepScan : accepted up 0 0x0503 cScan (lenIs cScan 36) (opRsv 0 ++ opRsv 16) .any true ∧
    ((taken up 0 0x0503 cScan).opSegs (.cmd 0) (opArg cScan 0) false).1 = 0 ∧
    cdiv ((opArg cScan 0).len / granuleBytes) 8 ≤ (opArg cScan 16).len ∧
    ∀ r, r = (taken up 0 0x0503 cScan).opSegs (.cmd 0) (opArg cScan 0) false →
      r.2.2.rangesServe (segRanges r.2.1) = true ∧
      ((r.2.2.scanDists (opArg cScan 0) (BitVec.ofNat 32 (arg cScan 32 4)) r.2.1).2.writeOp (.cmd 0) (opArg cScan 16) (bitmap (cdiv ((opArg cScan 0).len / granuleBytes) 8)
        ((List.range ((opArg cScan 0).len / granuleBytes)).filter (fun k =>
          lget none (r.2.2.scanDists (opArg cScan 0) (BitVec.ofNat 32 (arg cScan 32 4)) r.2.1).1 k == some 1)))).1 = 0 := by
  refine ⟨accepted_plain (by decide), by decide, by decide, ?_⟩
  intro r h
  subst h
  decide
def cStampSet : Cmd := cmdOf 0 (opBytes 1 0 0x40000 ++ toLe 2 0xFFFF)
theorem test_w_stampSet : accepted up 0 0x0504 cStampSet (lenIs cStampSet 18) (opRsv 0) .any true ∧
    ((taken up 0 0x0504 cStampSet).opSegs (.cmd 0) (opArg cStampSet 0) true).1 = 0 ∧
    (∀ g ∈ granulesOf ((taken up 0 0x0504 cStampSet).opSegs (.cmd 0) (opArg cStampSet 0) true).2.1,
      g < 12 * stackGranules ∧ up.reservation g ≠ some false ∧ afind up.dram.check (stampAddr g / 32) = none) ∧
    granulesOf ((taken up 0 0x0504 cStampSet).opSegs (.cmd 0) (opArg cStampSet 0) true).2.1 ≠ [] ∧
    up.foreignOp 0 (opArg cStampSet 0) = false ∧ (∀ r, r = (taken up 0 0x0504 cStampSet).opSegs (.cmd 0) (opArg cStampSet 0) true →
      r.2.2.rangesServe (segRanges r.2.1) = true ∧ r.2.2.lacksEntries (granulesOf r.2.1) = false) :=
  ⟨accepted_plain (by decide), by decide, by decide, by decide, by decide, fun r h => by subst h; decide⟩
/-- An unsigned image of one phase with one instruction, ADD V1, V2, V3 in FP32. -/
def image1 : Bytes :=
  toLe 4 0x544B5031 ++ toLe 2 1 ++ toLe 2 1 ++ zeros 4 ++ toLe 2 0xFFFF ++ zeros 116 ++ toLe 2 1 ++ zeros 124 ++
  toLe 8 (asm 1 0 0 1 2 3 0 0 0 0).toNat
/-- The image at the start of window 1, program slot 7 loaded for VI 0, the policy of complex 0 open. -/
def upImage : State :=
  { up with
    complexes := [(0, { Complex.reset with policy := 1 })]
    progs := [(7, ⟨image1, 0, false⟩)]
    dram := { up.dram with
      mem := ((List.range 264).zip image1).filterMap (fun x => if x.2 = 0 then none else some (100 * 65536 + x.1, x.2)) } }
def cLoad : Cmd := signCmd (cmdOf 0 (toLe 2 255 ++ zeros 6 ++ opBytes 1 0 264)) key1 0x0505
theorem test_w_progLoad : accepted upImage 0 0x0505 cLoad (lenIs cLoad 24) ((2, 6, 0) :: opRsv 8) .any true ∧
    arg cLoad 0 2 ≤ 255 ∧ upImage.slotTaken 0 (arg cLoad 0 2) = false ∧ upImage.foreignOp 0 (opArg cLoad 8) = false ∧
    ((taken upImage 0 0x0505 cLoad).readImage 0 (opArg cLoad 8)).1 = 0 ∧
    ((taken upImage 0 0x0505 cLoad).readImage 0 (opArg cLoad 8)).2.1 = image1 ∧ alone upImage 0 ∧
    imageFault (upImage.complex (complexOf 0)) image1 = none ∧ upImage.dram.check = [] ∧
    imageFault (up.complex (complexOf 0)) image1 = some stAUTH_FAIL :=
  ⟨accepted_signed (by decide), by decide, by decide, by decide, by decide, by decide, ⟨rfl, rfl⟩, by decide, by decide, by decide⟩
def cUnload : Cmd := cmdOf 0 (toLe 2 7)
def upBusy : State := { upImage with streams := [(9, { xRed with desc := { dRed with recipe := 6, progId := 7 } })] }
theorem test_w_progUnload : accepted upImage 0 0x0506 cUnload (lenIs cUnload 2) [] .any true ∧
    afind upImage.progs (arg cUnload 0 2) = some ⟨image1, 0, false⟩ ∧ mayAct 0 0 = true ∧
    upImage.progBusy (arg cUnload 0 2) = false ∧ alone upImage 0 ∧
    accepted upBusy 0 0x0506 cUnload (lenIs cUnload 2) [] .any true ∧ upBusy.progBusy (arg cUnload 0 2) = true ∧
    afind upBusy.progs (arg cUnload 0 2) = some ⟨image1, 0, false⟩ :=
  ⟨accepted_plain (by decide), by decide, by decide, by decide, ⟨rfl, rfl⟩, accepted_plain (by decide), by decide, by decide⟩

/-! ### Witnesses of the obligations on engines, commits and resets of clusters -/

/-- A fused SGD descriptor of one tile whose state is granule 100. -/
def dFus : Desc := { dRed with stages := 7, recipe := 1, cstream := 8, stateOp := ⟨1, 0, 65536⟩ }
def xFus : Stream := Stream.start 0 dFus none []
def qFus : QEntry := ⟨8, .fused, false, false, false, false, .slot, 7, 0, 63⟩
def batch0 : Batch := ⟨8, 0, 100, 1#16, [(0, [1#8])], [1], none⟩
def runFus : TileRun :=
  ⟨qFus, ms 90, 4, false, 4, 0, 0, false, false, none, false, 0, [], some (100 * 65536), [], none, [1]⟩
def upRun (r : TileRun) : State :=
  { up with streams := [(8, xFus)]
            engines := tput up.engines 767 { Engine.reset with tile := some r } }
/-- Stream 8 with its tile in the queue of cluster 95, on the last engine; an entry on its way to cluster 95, which has
seven buffers in use. -/
def upQueue : State :=
  { up with
    streams := [(8, xFus)]
    clusters := tput up.clusters 95 { Cluster.reset with
      inReset := false, queue := [qFus], transit := [qFus], bufs := (List.range 7).map (fun b => (b, ⟨[], []⟩)) } }
/-- The same tile in the queue of cluster 7, whose region holds the state granule's stack. -/
def q7 : QEntry := { qFus with cluster := 7 }
def upQueue7 : State :=
  { up with
    streams := [(8, xFus)]
    clusters := tput up.clusters 7 { Cluster.reset with inReset := false, queue := [q7] } }
theorem test_w_takeTile : (upQueue7.engine 63).tile = none ∧ (upQueue7.engine 63).claim = none ∧
    (upQueue7.engine 63).online = true ∧ (upQueue7.engine 63).leave = false ∧ (upQueue7.engine 63).testing = false ∧
    (upQueue7.engine 63).keep = none ∧ (upQueue7.cluster 7).inReset = false ∧ (upQueue7.region 0).inReset = false ∧
    upQueue7.boot.unlocked = [] ∧ (upQueue7.cluster 7).queue = [q7] ∧ q7.nonFin = false ∧
    (upQueue7.claimEntry 63 q7).stream q7.stream = some xFus := by decide
theorem memTake_length (l : List Host.Cell) (a n : Nat) : (memTake l a n).length = n := by
  induction n generalizing l a with
  | zero => cases l <;> rfl
  | succ n ih => 
    cases l with
    | nil => exact congrArg (· + 1) (ih [] (a + 1))
    | cons c r =>
      show (if c.1 = a then c.2 :: memTake r (a + 1) n else 0#8 :: memTake (c :: r) (a + 1) n).length = n + 1
      split <;> rw [List.length_cons, ih]
theorem readOne_length {s : State} (h : s.dram.check = []) (vi : Option Nat) (a n : Nat) :
    (readOne vi a n s).1.data.length = n := by
  unfold readOne
  have hl : s.dram.listed a n = [] := by unfold Dram.listed; rw [h]; split <;> rfl
  split
  · rw [hl]; exact memTake_length _ _ _
  · simp [zeros]
/-- A first read that lets the tile run has the whole granule. -/
theorem firstRead_length {s : State} {e : Nat} {x : Stream} {q : QEntry} {l : List PageLook} {b : Bool} (a : Nat)
    (hp : rangePa l 0 = some a) (hs : piecesOf (granuleOf a * granuleBytes) granuleBytes =
      [(granuleOf a * granuleBytes, granuleBytes)])
    (hc : (s.ownAccess (.engine e) .own [(granuleOf a * granuleBytes, granuleBytes)]).2.dram.check = [])
    (hr : (s.firstRead e x q l).1 = .run b) : (s.firstRead e x q l).2.1.length = 0x10000 := by
  have key : ((s.ownAccess (.engine e) .own [(granuleOf a * granuleBytes, granuleBytes)]).2.read (some x.owner)
      (granuleOf a * granuleBytes) granuleBytes).1.data.length = 0x10000 := by
    unfold State.read
    rw [hs]
    simp [readOne_length hc]
    rfl
  revert hr
  unfold State.firstRead
  rw [hp]
  dsimp only
  split
  · intro hr; cases hr
  split
  · intro hr; cases hr
  split
  · intro hr; cases hr
  split
  · intro hr; cases hr
  · rename_i heq
    rw [heq] at key
    repeat' split
    all_goals first | (intro _; exact key) | (intro hr; cases hr)
theorem test_w_takeTile_reads : ∀ a b c d, a = (upQueue7.claimEntry 63 q7).claimPages 63 xFus
      ⟨q7, upQueue7.entrySums 7 q7, [], true⟩ → b = a.2.firstRead 63 xFus q7 a.1 →
    c = b.2.2.readSums 63 xFus q7 a.1 → d = c.2.readResiduals 63 xFus a.1 →
    a.2.judge a.1 = .ok ∧ b.1 = .run false ∧ b.2.1.length = 0x10000 ∧ c.1 = .data [] ∧ d.1 = .data [] := by
  intro a b c d ha hb hc hd; subst ha hb hc hd
  exact ⟨by decide, by decide, firstRead_length 6553600 (by decide) (by decide) (by decide) (b := false) (by decide),
    by decide, by decide⟩
theorem test_w_stealRecord : (upQueue.cluster 95).transit = [qFus] ∧ qFus.loc = .slot ∧
    (upQueue.cluster 95).bufs.length < 8 ∧ ∀ e, e / 8 = 95 → (upQueue.engine e).claim = none :=
  ⟨by decide, by decide, by decide, fun _ _ => rfl⟩
theorem test_w_programEnd : ((upRun runFus).engine 767).tile = some runFus ∧ runFus.finished = false ∧
    ((upRun runFus).engine 767).reload = false ∧ runFus.stale = false ∧ runFus.entry.kind ≠ .lamb1 ∧
    (upRun runFus).stream runFus.entry.stream = some xFus ∧ xFus.desc.gather = [] ∧ (upRun runFus).tackCtx 767 = none ∧
    ((upRun runFus).engine 767).badBytes = [] := by
  decide
theorem test_w_streamEnd : ∀ x, x = { xFus with outcomes := [(0, ⟨.updated, stOK, false⟩)] } →
    x.over = true ∧ xFus.over = false ∧ ({ up with streams := [(16383, x), (8, xFus)] } : State).stream 16383 = some x ∧
    (upRun runFus).stream 8 = some xFus ∧ x.desc.complete.present = false := by
  intro x h; subst h; decide
/-- A state of which an engine's tile `r` is the only one, with `n` batches in region 0. -/
def upBatch (r : TileRun) (n : Nat) (st : Nat) : State :=
  { (upRun r).modRegion 0 (fun g => { g with commit := List.replicate n { batch0 with granule := 101 } }) with
    dram := { up.dram with mem := if st = 0 then [] else [(stampAddr 100, BitVec.ofNat 8 st)] } }
theorem test_w_batchAccept : ∀ r n st, r = { runFus with finished := true, batch := some batch0 } →
    (n, st) = (3, 0) ∨ (n, st) = (4, 0) ∨ (n, st) = (3, 7) → ∀ s, s = upBatch r n st → s.tablesOk ∧
    (s.engine 767).tile = some r ∧ r.finished = true ∧ r.sending = false ∧ r.stale = false ∧ s.needsEntry batch0.ranges = false ∧
    s.stream r.entry.stream = some xFus ∧ xFus.desc.gatherOnly = false ∧ (s.engine 767).gbuf = [] ∧
    (s.region 11).paced = [] ∧ s.engines.all (fun e => e.2.tile.all (fun y => y.sending == false)) = true ∧
    (s.region (regionOfGranule batch0.granule)).commit.length = n ∧
    s.stampNow batch0.granule = some st ∧ stampDist xFus.desc.step 0 = 1 ∧ stampDist xFus.desc.step 7 ≠ 1 ∧
    s.vis.all (fun y => y.2.cmd.isNone) = true := by
  intro r n st h1 h s h2; subst h1; rcases h with h | h | h <;> cases h <;> subst h2 <;>
    (refine ⟨?_, by decide⟩; unfold State.tablesOk keysRise
     refine ⟨?_, ?_, ?_, ?_, ?_, ?_, ?_, ?_, ?_, ?_, ?_, ?_, ?_, ?_, ?_, ?_, ?_, ?_⟩ <;> decide)
/-- Entry 0 of the tile's gather list goes to node 7; and a stale tile with nothing to write. -/
def geFus : GatherEnt := ⟨mkAddr 7 1 0, 0, 0, false, false, 0, ⟨0, 0, 0⟩⟩
theorem test_w_batchSends : ∀ x s, x = { xFus with desc := { dFus with gather := [geFus] } } →
    s = { up with streams := [(8, x)]
                  engines := [(767, { Engine.reset with
                    tile := some { runFus with finished := true, batch := some batch0 }, gbuf := [(0, [1#8])] })] } →
    s.stream 8 = some x ∧ (s.engine 767).gbuf ≠ [] ∧ (∀ q ∈ (s.engine 767).gbuf, ∃ ge, (x.desc.gather)[q.1]? = some ge ∧
      addrNode (ge.dest + BitVec.ofNat 64 (qFus.tile * fmtBytes ge.fmt 4096)) ≠ s.aon.nodeId) := by
  intro x s hx hs; subst hx; subst hs
  exact ⟨by decide, by decide, fun q hq => ⟨geFus, by
    have : q = (0, [1#8]) := by simpa [State.engine, tget] using hq
    subst this; exact ⟨by decide, by decide⟩⟩⟩
theorem test_w_batchStale : ∀ r, r = { runFus with finished := true, stale := true, batch := some { batch0 with writes := [] } } →
    ((upBatch r 0 0).engine 767).tile = some r ∧ r.stale = true ∧ ((upBatch r 0 0).engine 767).gbuf = [] ∧
    ((upBatch r 0 0).region 11).paced = [] ∧ (upBatch r 0 0).stream 8 = some xFus ∧ afind xFus.outcomes r.entry.tile = none := by
  intro r h; subst h; decide
/-- Batch 0 waits for its stamp. -/
def upStamp : State :=
  { (upRun runFus).modRegion 0 (fun g => { g with commit := [batch0] }) with
      home := { (upRun runFus).home with reserved := [(100, 767, true)] } }
theorem test_w_stampWrite : upStamp.memOk ∧
    (upStamp.region (regionOfGranule 100)).commit.find? (fun b => b.granule == 100) = some batch0 ∧
    upStamp.rangesServe batch0.ranges = true ∧ upStamp.fillHolds (writeRanges batch0.writes) true = false ∧
    upStamp.needsEntry batch0.ranges = false ∧ upStamp.heldLines batch0.ranges = [] ∧
    upStamp.fullLine batch0.ranges = none ∧ upStamp.home.places = [] ∧
    afind upStamp.dram.check (stampAddr 100 / 32) = none ∧ upStamp.waiting = [] ∧ upStamp.home.heldWb = [] :=
  ⟨rfl, by decide⟩
/-- The granule's region is in reset; a granule that the batch writes is being zero-filled. -/
theorem test_w_stampHeld : (upStamp.modRegion 0 (fun g => { g with inReset := true })).rangesServe batch0.ranges = false ∧
    ((upStamp.modRegion 0 (fun g => { g with fills := [0] })).fillHolds (writeRanges batch0.writes) true = true) := by
  decide
/-- A reached norm group of tiles 0 and 1 whose pass 1 is over. -/
def gLamb : Group := ⟨0, 2, 0, 0, true, false, [(0, 0x40000000#32, 0x3F800000#32), (1, 0, 0)], [], [], false⟩
def xLamb : Stream :=
  { Stream.start 0 { dFus with recipe := 3, elems := 8192, stateOp := ⟨1, 0, 131072⟩ } none [gLamb] with selBits := none }
theorem test_w_lambRatio : ({ up with streams := [(16383, xLamb)] } : State).stream 16383 = some xLamb ∧
    (xLamb.groups)[0]? = some gLamb ∧ gLamb.computed = false ∧ gLamb.skip = false ∧ gLamb.reached = true ∧
    xLamb.members gLamb ≠ [] ∧ xLamb.pass1Over gLamb = true ∧ xLamb.groupFailure gLamb = none ∧
    ∀ l, ({ up with streams := [(16383, xLamb)] } : State).heldLines l = [] :=
  ⟨by decide, by decide, by decide, by decide, by decide, by decide, by decide, by decide, State.heldLines_none rfl rfl⟩
theorem test_w_lambFails : ∀ x, x = { xLamb with groups := [{ gLamb with failed := [(0, stPOISON)] }] } →
    x.groupFailure { gLamb with failed := [(0, stPOISON)] } = some stPOISON ∧
    x.pass1Over { gLamb with failed := [(0, stPOISON)] } = true := by intro x h; subst h; decide
theorem test_w_watchdog : ∀ s, s = upRun runFus ∨ s = { upRun runFus with boot := { up.boot with unlocked := [.a 1] } } →
    (s.engine 767).tile = some runFus ∧ (s.diePower 1).aAt ≤ s.now := by
  intro s h; rcases h with h | h <;> subst h <;> decide
theorem test_w_selfTest : ((up.modEngine 767 (fun e => { e with testing := true })).engine 767).testing = true ∧
    (up.cluster 95).inReset = false := by decide
def cClReset (k : Nat) : Cmd := signCmd (cmdOf 0 (toLe 1 k)) key1 0x0B01
theorem test_w_clusterReset : accepted up 0 0x0B01 (cClReset 95) (lenIs (cClReset 95) 1) [] .pf false ∧
    arg (cClReset 95) 0 1 = 95 ∧ (up.region 11).inReset = false ∧ (up.cluster 95).inReset = false :=
  ⟨accepted_signed (by decide), by decide⟩
theorem test_w_clusterResetEnd : ∀ s, s = up.modCluster 95 (fun k => { k with inReset := true }) →
    (s.region 11).inReset = false ∧ (s.cluster 95).inReset = true ∧ ∀ e, e / 8 = 95 → (s.engine e).testing = false := by
  intro s h; subst h
  exact ⟨by decide, by decide, fun e _ => rfl⟩

/-! ### Witnesses of the obligations on requests, lines, hosts and contributions -/

theorem open_of {s : State} {a n : Nat} (g : Nat) (hl : g * granuleBytes ≤ a) (hh : a + n ≤ (g + 1) * granuleBytes)
    (h : (s.stackServes (stackOf a) && s.dram.listed a n == [] && s.isValid g && s.reservation g == none &&
      !(s.region (regionOfGranule g)).fills.contains g && !s.mirroredAt g) = true) : openAt s a n := by
  simp only [Bool.and_eq_true, beq_iff_eq, Bool.not_eq_true'] at h
  obtain ⟨⟨⟨⟨⟨h1, h2⟩, h3⟩, h4⟩, h5⟩, h6⟩ := h
  refine ⟨h1, h2, fun x h7 h8 => ?_⟩
  have hx : granuleOf x = g := by
    unfold granuleOf
    have : granuleBytes = 65536 := rfl
    rw [this] at hl hh ⊢
    omega
  rw [hx]
  exact ⟨h3, h4, by simpa using h5, h6⟩
theorem fresh_nil {s : State} (h : s.waiting = []) : s.numbersFresh := by intro w hw; simp [h] at hw
theorem test_w_fresh : upWaiting.numbersFresh ∧ upWaiting.waiting ≠ [] ∧ step upWaiting = .next { upWaiting with now := upWaiting.now + 1 } := by
  refine ⟨?_, by decide, rfl⟩
  intro w hw
  have : w.id = 0 := by
    simp only [upWaiting, List.mem_singleton] at hw
    rw [hw]
  simp [this, upWaiting]
theorem plain_up (o n : Nat) (ho : o + n ≤ 65536) (hc : up.checkData 1 (100 * 65536 + o) n = none)
    (hl : up.stackServes (stackOf (100 * 65536 + o)) = true) (hd : up.dram.listed (100 * 65536 + o) n = []) :
    plainAccess up 1 o n := by
  refine ⟨rfl, fresh_nil rfl, by decide, by decide, by decide, ?_, hc, by decide, by decide, ?_⟩
  · have : (up.win 1).limit = 0x40000 := rfl
    omega
  · refine open_of 100 (by simp [granuleBytes]; show _ ≤ 100 * 65536 + o; omega)
      (by simp [granuleBytes]; show 100 * 65536 + o + n ≤ _; omega) ?_
    show (up.stackServes (stackOf (100 * 65536 + o)) && up.dram.listed (100 * 65536 + o) n == [] && _ && _ && _ && _) = true
    rw [hl, hd]
    decide
/-- One byte at the end of a granule, a line, and the largest transfer of 4,096 bytes. -/
theorem test_w_plain : plainAccess up 1 65535 1 ∧ plainAccess up 1 0 4096 ∧ plainAccess up 1 (64 / 64 * 64) 64 ∧
    plainAccess up 1 8 8 :=
  ⟨plain_up _ _ (by decide) (by decide) (by decide) (by decide), plain_up _ _ (by decide) (by decide) (by decide) (by decide),
   plain_up _ _ (by decide) (by decide) (by decide) (by decide), plain_up _ _ (by decide) (by decide) (by decide) (by decide)⟩
def pkt1 (o n : Nat) (b : Bytes) : Pkt := { pktRd 1 o n with payload := b }
theorem test_w_fabric : ∀ p, p = pkt1 65535 1 [7#8] ∨ p = pkt1 8 8 (toLe 8 (mkAddr 5 1 0).toNat ++ zeros 8) ∨
      p = { pkt1 64 64 [] with srcNode := 9 } →
    up.admits p = true ∧ addrNode p.addr = up.aon.nodeId ∧ addrWindow p.addr = 1 ∧ 1 ≤ p.opLen ∧ (up.win 1).writeEn = true ∧
    (up.win 1).atomicEn = true ∧ (up.die p.dpg).inbox.contains p = false := by
  intro p h; rcases h with h | h | h <;> subst h <;> decide
theorem test_w_fabric_fmt : (pkt1 65535 1 [7#8]).fmt ≤ 7 ∧ 7 < ({ pkt1 65535 1 [7#8] with fmt := 8 } : Pkt).fmt ∧
    up.admits { pkt1 65535 1 [7#8] with fmt := 8 } = true := by decide
theorem test_w_fabric_forms : addrOffset (pkt1 65535 1 [7#8]).addr = 65535 ∧ (up.node 7).colSrc = true ∧
    (up.node 9).colSrc = false ∧ (pkt1 64 64 []).opLen = 64 ∧ ((up.win 1).basePa + 64 / 64 * 64) % 64 = 0 ∧
    (∀ q, q = BitVec.ofNat 64 (fld (pkt1 8 8 (toLe 8 (mkAddr 5 1 0).toNat ++ zeros 8)).payload 0 8) →
      addrNode q = up.aon.nodeId ∧ addrWindow q = 1 ∧ addrOffset q = 0) ∧
    addrOffset (pkt1 8 8 (toLe 8 (mkAddr 5 1 0).toNat ++ zeros 8)).addr % 8 = 0 := by
  refine ⟨by decide, by decide, by decide, by decide, by decide, ?_, by decide⟩
  intro q h; subst h; decide
theorem test_w_hostIo : ∀ s, s = ({ up with hostPorts := [(0, ⟨false, false, 8, 255⟩), (1, ⟨false, false, 255, 255⟩)] } : State) →
    s.aon.nodeId < 4096 ∧ s.viExists 511 = true ∧ complexOf 511 = 1 ∧ s.hostLive (complexOf 511) = true ∧
    s.viExists 0 = true ∧ s.hostLive (complexOf 0) = true := by
  intro s h; subst h; decide

/-- Line 204,800 is the first line of the coherent extent 2. -/
def lineC : Nat := 204800
def upLine (d : Option Dir) : State :=
  { upAgent with home := { upAgent.home with dir := match d with | some e => [(lineC, e)] | none => [] } }
theorem idle_line {s : State} (d : Option Dir) (hs : s = upLine d) : homeIdle s lineC := by
  subst hs
  refine ⟨rfl, fresh_nil rfl, rfl, rfl, rfl, open_of 200 (by decide) (by decide) ?_, ?_⟩ <;> cases d <;> rfl
theorem test_w_lines : (upLine none).admits (pktRd 3 0 64) = true ∧ addrNode (pktRd 3 0 64).addr = (upLine none).aon.nodeId ∧
    addrWindow (pktRd 3 0 64).addr = 3 ∧ addrOffset (pktRd 3 0 64).addr = 0 ∧ ((upLine none).win 3).kind = 1 ∧
    ((upLine none).win 3).basePa + 0 / 64 * 64 = 64 * lineC ∧ 0 + 64 ≤ ((upLine none).win 3).limit ∧
    (upLine none).checkData ((upLine none).win 3).extentId (64 * lineC) 64 = none ∧
    ((upLine none).ext ((upLine none).win 3).extentId).coherent = true ∧ (upLine none).agentOfNode 7 = some 2 ∧
    (upLine none).parkedAt lineC = [] ∧ (upLine none).queueFull (homeOf lineC) = false ∧
    (upLine none).dirEnt lineC = none ∧ ((upLine none).waysOf lineC).length < 16 ∧
    (upLine (some ⟨.S, false, [2], 0⟩)).dirEnt lineC = some ⟨.S, false, [2], 0⟩ ∧
    (upLine (some ⟨.S, false, [255, 0], 0⟩)).dirEnt lineC = some ⟨.S, false, [255, 0], 0⟩ ∧
    (∀ d ∈ [none, some (⟨.S, false, [2], 0⟩ : Dir), some ⟨.S, false, [255, 0], 0⟩], (upLine d).home.places = [] ∧
      (upLine d).homeFull lineC = false) := by
  decide

/-- The open eviction of the line with one snoop left, of agent `x`; the snoop message in a send context of die 0. -/
def upEvict (x : Nat) (st : LineState) : State :=
  { upLine (some ⟨st, true, [x], 0⟩) with
    home := { (upLine (some ⟨st, true, [x], 0⟩)).home with
      agents := [(0, ⟨5, 0, true⟩), (2, ⟨7, 0, false⟩)]
      txns := [(lineC, ⟨.evict, [⟨x, .inv, ms 101, 20, 0, false⟩], false, [], []⟩)] }
    fabric := { up.fabric with dies := tput up.fabric.dies 0 { LinkDie.reset with
      inReset := false, sends := [⟨3, 7, { Pkt.zero with ptype := 5, addr := BitVec.ofNat 64 (64 * lineC) }, ms 99, 0, none, 5, 3, 0, false⟩] } } }
def pktRsp (info : Word64) (b : Bytes) : Pkt :=
  { Pkt.zero with ptype := 6, srcNode := 7, dstNode := 5, tag := 3#32, addr := mkAddr 5 0 (64 * lineC), info := info, payload := b }
/-- The same line with a shared snoop of a request that has gone. -/
def upAsked (x : Nat) : State :=
  (upEvict x .O).modHome (fun h => { h with txns := [(lineC, ⟨.request 77, [⟨x, .share, ms 101, 20, 0, false⟩], false, [], []⟩)] })
theorem evict_tables : (upEvict 2 .O).tablesOk := by
  unfold State.tablesOk keysRise
  refine ⟨?_, ?_, ?_, ?_, ?_, ?_, ?_, ?_, ?_, ?_, ?_, ?_, ?_, ?_, ?_, ?_, ?_, ?_⟩ <;> decide
theorem asked_tables : (upAsked 2).tablesOk := by
  unfold State.tablesOk keysRise
  refine ⟨?_, ?_, ?_, ?_, ?_, ?_, ?_, ?_, ?_, ?_, ?_, ?_, ?_, ?_, ?_, ?_, ?_, ?_⟩ <;> decide
theorem test_w_asked : (upAsked 2).memOk ∧ (upAsked 2).fillHolds [(64 * lineC, 64)] true = false ∧
    (upEvict 2 .O).fillHolds [(64 * lineC, 64)] true = false ∧ (upAsked 2).leavingAgents = [] ∧
    ((upAsked 2).region (stackOf (64 * lineC))).inReset = false ∧ (upAsked 2).mirroredAt (granuleOf (64 * lineC)) = false ∧
    (upAsked 2).isValid (granuleOf (64 * lineC)) = true ∧ (upAsked 2).agentOfNode 7 = some 2 ∧
    (upAsked 2).home.heldWb = [] ∧ (upEvict 2 .O).home.heldWb = [] :=
  ⟨rfl, by decide, by decide, by decide, by decide, by decide, by decide, by decide, by decide, by decide⟩
theorem test_w_snoopAnswers : ∀ p, p = pktRsp 0 [] ∨ p = pktRsp 1 (List.replicate 64 3#8) →
    (upEvict 2 .O).agentOfNode p.srcNode = some 2 ∧ (upEvict 2 .O).tablesOk ∧ (upEvict 2 .O).memOk ∧
    (upEvict 2 .O).leavingAgents = [] ∧ ((upEvict 2 .O).region (stackOf (64 * lineC))).inReset = false ∧
    (upEvict 2 .O).mirroredAt (granuleOf (64 * lineC)) = false ∧ (upEvict 2 .O).isValid (granuleOf (64 * lineC)) = true ∧
    (∃ q n y d, ((upEvict 2 .O).takeIn p).sendOf p = some q ∧ q.msg.ptype = 5 ∧ q.late = false ∧ q.msg.addr.toNat % 2 ^ 40 / 64 = lineC ∧
      (upEvict 2 .O).txn lineC = some n ∧ n.snoops = [y] ∧ y.agent = 2 ∧ y.held = false ∧ n.keeps = [] ∧ y.kind = .inv ∧ n.forWhat = .evict ∧ n.conflicts = [] ∧
      (upEvict 2 .O).dirEnt lineC = some d ∧ 2 ∈ d.ags ∧ d.state ≠ .L) ∧
    (∃ q n y d, ((upAsked 2).takeIn p).sendOf p = some q ∧ q.msg.ptype = 5 ∧ q.late = false ∧ (upAsked 2).txn lineC = some n ∧ n.snoops = [y] ∧
      y.agent = 2 ∧ y.held = false ∧ n.keeps = [] ∧ y.kind = .share ∧ n.forWhat = .request 77 ∧ (upAsked 2).waitOf 77 = none ∧ n.conflicts = [] ∧
      (upAsked 2).dirEnt lineC = some d ∧ 2 ∈ d.ags ∧ d.state ≠ .L) ∧
    (upEvict 2 .O).dram.listed (64 * lineC) 64 = [] := by
  intro p h
  rcases h with h | h <;> subst h <;>
    exact ⟨by decide, evict_tables, rfl, by decide, by decide, by decide, by decide,
      ⟨_, _, _, _, rfl, rfl, rfl, rfl, rfl, rfl, rfl, rfl, rfl, rfl, rfl, rfl, rfl, by decide, by decide⟩,
      ⟨_, _, _, _, rfl, rfl, rfl, rfl, rfl, rfl, rfl, rfl, rfl, rfl, rfl, rfl, rfl, by decide, by decide⟩, by decide⟩
/-- CRC_RUN of one byte of line 204,800, which agent 2 owns. -/
def cCrcLine : Cmd := cmdOf 0 (opBytes 3 0 1 ++ toLe 1 3 ++ zeros 7 ++ toLe 8 0)
theorem test_w_crcWaits : accepted (upLine (some ⟨.O, false, [2], 0⟩)) 0 0x0003 cCrcLine (lenIs cCrcLine 32)
      (opRsv 0 ++ [(17, 7, 0)]) .any false ∧ (opArg cCrcLine 0).len = 1 ∧ arg cCrcLine 16 1 = 3 ∧
    ((taken (upLine (some ⟨.O, false, [2], 0⟩)) 0 0x0003 cCrcLine).readOp (.cmd 0) 0 (opArg cCrcLine 0)).1 = lineWait lineC :=
  ⟨accepted_plain (by decide), by decide⟩
/-- A scrub pass whose record would go to line 204,800; a batch of a granule whose first line an agent owns. -/
theorem test_w_scrubWaits : ∀ s, s = (upLine (some ⟨.O, false, [2], 0⟩)).modRegion 0 (fun r =>
      { r with scrub := some { scrub0 with result := ⟨3, 0, 64⟩ } }) →
    isWait ((s.modRegion 0 (fun r => { r with scrub := none })).writeOp (.scrub 1) ⟨3, 0, 64⟩
      ({ scrub0 with result := ⟨3, 0, 64⟩, resume := some scrub0.pos } : Scrub).record).1 = true ∧
    (s.ownAccess (.batch 200) .wr ({ batch0 with granule := 200 } : Batch).ranges).1 = some lineC := by
  intro s h; subst h; decide
/-- A stream that is over, whose completion record lies in line 204,800, which agent 2 shares. -/
theorem test_w_streamEndWaits : ∀ x, x = { xFus with outcomes := [(0, ⟨.updated, stOK, false⟩)]
                                                     desc := { dFus with complete := ⟨3, 0, 128⟩ } } →
    x.over = true ∧ x.desc.complete.present = true ∧
    isWait (({ upLine (some ⟨.S, false, [2], 0⟩) with streams := [(8, x)] } : State).writeOp (.complete 8) x.desc.complete x.completion).1 = true := by
  intro x h; subst h; decide
theorem test_w_notices : ∀ p, p = pktRsp 0 (List.replicate 64 3#8) → ∀ d, d = (⟨.S, false, [0, 2], 0⟩ : Dir) ∨ d = ⟨.O, false, [2], 0⟩ →
    p.addr.toNat % 2 ^ 40 / 64 = lineC ∧ addrNode p.addr = (upLine (some d)).aon.nodeId ∧
    (upLine (some d)).coherentAt (granuleOf (64 * lineC)) = true ∧ (upLine (some d)).home.heldWb = [] ∧ (upLine (some d)).reservation (granuleOf (64 * lineC)) = none ∧
    (upLine (some d)).txn lineC = none ∧ (upLine (some d)).dirEnt lineC = some d ∧ 2 ∈ d.ags ∧ p.payload.length = 64 ∧
    (upLine (some d)).agentOfNode p.srcNode = some 2 := by
  intro p h d hd; subst h; rcases hd with hd | hd <;> subst hd <;> decide

theorem test_w_cxl : up.memOk ∧ up.numbersFresh ∧ up.cyc.roleStep = 0 ∧ up.pair.state.refusal = none ∧ up.agent 1 = none ∧
    up.extentOf (granuleOf (64 * ((100 * 65536 + 63) / 64))) = some (1, up.ext 1) ∧
    up.checkData 1 (64 * ((100 * 65536 + 63) / 64)) 64 = none ∧ (up.ext 1).coherent = false ∧ (up.ext 1).mirrored = false ∧
    openAt up (64 * ((100 * 65536 + 63) / 64)) 64 ∧ up.hostLive 0 = true :=
  ⟨rfl, fresh_nil rfl, by decide, by decide, by decide, by decide, by decide, by decide, by decide,
   open_of 100 (by decide) (by decide) (by decide), by decide⟩
theorem evict0_tables : (upEvict 0 .S).tablesOk := by
  unfold State.tablesOk keysRise
  refine ⟨?_, ?_, ?_, ?_, ?_, ?_, ?_, ?_, ?_, ?_, ?_, ?_, ?_, ?_, ?_, ?_, ?_, ?_⟩ <;> decide
/-- Host agent 0 shares the line: with an open eviction, and without a transaction. -/
def upShared : State := { upEvict 0 .S with home := { (upEvict 0 .S).home with txns := [] } }
theorem shared_tables : upShared.tablesOk := by
  unfold State.tablesOk keysRise
  refine ⟨?_, ?_, ?_, ?_, ?_, ?_, ?_, ?_, ?_, ?_, ?_, ?_, ?_, ?_, ?_, ?_, ?_, ?_⟩ <;> decide
theorem test_w_cxlAgent : (upEvict 0 .S).tablesOk ∧ upShared.tablesOk ∧ (upEvict 0 .S).agent 0 = some ⟨5, 0, true⟩ ∧
    ((upEvict 0 .S).region (stackOf (64 * lineC))).inReset = false ∧ (upEvict 0 .S).leavingAgents = [] ∧
    (64 * lineC + 1) / 64 = lineC ∧ (∃ e, (upEvict 0 .S).dirEnt lineC = some e ∧ 0 ∈ e.ags ∧ e.state = .S) ∧
    upShared.txn lineC = none ∧ upShared.dirEnt lineC = (upEvict 0 .S).dirEnt lineC ∧
    (∃ n y, (upEvict 0 .S).txn lineC = some n ∧ n.snoops = [y] ∧ y.agent = 0 ∧ y.held = false ∧ n.keeps = [] ∧ y.kind = .inv ∧ n.forWhat = .evict ∧
      n.conflicts = []) ∧
    (∃ n y, (upAsked 0).txn lineC = some n ∧ n.snoops = [y] ∧ y.agent = 0 ∧ y.held = false ∧ n.keeps = [] ∧ y.kind = .share ∧ n.forWhat = .request 77 ∧
      (upAsked 0).waitOf 77 = none ∧ n.conflicts = []) ∧
    (upEvict 0 .S).home.heldWb = [] ∧ upShared.home.heldWb = [] ∧ (upEvict 0 .S).home.owed = [] ∧ (upAsked 0).home.owed = [] :=
  ⟨evict0_tables, shared_tables, by decide, by decide, by decide, by decide, ⟨_, rfl, by decide, by decide⟩, by decide, by decide,
   ⟨_, _, rfl, rfl, rfl, rfl, rfl, rfl, rfl, rfl⟩, ⟨_, _, rfl, rfl, rfl, rfl, rfl, rfl, rfl, rfl, rfl⟩, by decide⟩

/-- Host port 0 owes the answer to a copy of a snoop of the line that has been answered. -/
theorem test_w_owedAnswer : ∀ s, s = upShared.modHome (fun h => { h with owed := [(0, lineC, ms 90)] }) →
    s.agent 0 = some ⟨5, 0, true⟩ ∧ s.dirEnt lineC = upShared.dirEnt lineC ∧ s.home.heldWb = [] ∧
    ∃ o ∈ s.home.owed, o.1 = 0 ∧ o.2.1 = lineC := by
  intro s h; subst h; exact ⟨by decide, by decide, by decide, _, .head _, rfl, rfl⟩

/-- A read of line 204,800 that waits its turn behind another line's transaction. -/
def wParked : Waiting := ⟨0, pktRd 3 0 64, .fabric 0, .parked lineC, 0, ms 99, none, 7, [], false, some ⟨some 0, 3, [⟨64 * lineC, 64, 2⟩], [], none⟩⟩
def upParked : State := { upLine none with waiting := [wParked], reqNo := 1 }
theorem test_w_parked : upParked.waiting.find? (fun w => w.why == .parked lineC) = some wParked ∧
    upParked.waiting.find? (fun w => w.id == wParked.id) = some wParked ∧
    wParked.plan = some ⟨some 0, 3, [⟨64 * lineC, 64, 2⟩], [], none⟩ ∧ wParked.pkt.ptype = 1 ∧ wParked.pkt.subop = 0 ∧
    wParked.origin = .fabric 0 ∧ (upParked.waiting.all (fun w => w.why == .parked lineC) = true) ∧ homeIdle upParked lineC ∧ upParked.dirEnt lineC = none ∧ 64 * lineC < poolEnd ∧
    upParked.homeFull lineC = false ∧ upParked.home.places = [] ∧ upParked.lineCommand lineC = none ∧
    upParked.waiting.all (fun w => w.why != .mesh (homeOf lineC) && wParked.ord ≤ w.ord) = true := by
  refine ⟨by decide, by decide, by decide, by decide, by decide, by decide, by decide,
    ⟨rfl, ?_, rfl, rfl, rfl, open_of 200 (by decide) (by decide) (by decide), rfl⟩, by decide, by decide, by decide, by decide, by decide, by decide⟩
  intro w hw
  have : w.id = 0 := by
    simp only [upParked, List.mem_singleton] at hw
    rw [hw]; rfl
  simp [this, upParked]
/-- A line lost by agent 2, the fill of granule 104 in progress. -/
theorem test_w_waits : ∀ s, s = ({ upLine (some ⟨.L, false, [2], 0⟩) with
      regions := tput up.regions 0 { Region.reset with inReset := false, fills := [104] } } : State) →
    s.dirEnt lineC = some ⟨.L, false, [2], 0⟩ ∧ s.snoopOf 2 lineC = none ∧ 104 ∈ (s.region (regionOfGranule 104)).fills ∧
    s.memOk ∧ outOfPool (104 * granuleBytes) granuleBytes = false ∧ s.waiting = [] ∧
    s.leaving lineC = false ∧ s.fillHolds [(64 * lineC, 64)] true = false ∧ s.isValid 104 = false ∧ s.home.heldWb = [] ∧ s.tableFull 104 = false ∧ s.tableFull (granuleOf (64 * lineC)) = false ∧
    ({ s with exts := [(2, ⟨200, 4, 0, .revoking, true, false, 1⟩)] } : State).leaving lineC = true ∧
    (upEvict 2 .O).waiting = [] ∧
    (∃ n y, ((upEvict 2 .O).modHome (fun h => { h with txns := [(lineC, ⟨.evict, [⟨2, .inv, ms 101, 20, 0, true⟩], false, [], []⟩)] })).txn lineC =
      some n ∧ n.snoops = [y] ∧ y.agent = 2 ∧ y.held = true) ∧
    ∃ n y, (upEvict 2 .O).txn lineC = some n ∧ n.snoops = [y] ∧ y.agent = 2 ∧ y.held = false := by
  intro s h; subst h
  exact ⟨by decide, by decide, by decide, rfl, by decide, by decide, by decide, by decide, by decide, by decide, by decide, by decide, by decide, by decide,
    ⟨_, _, rfl, rfl, rfl, rfl⟩, ⟨_, _, rfl, rfl, rfl, rfl⟩⟩

/-- Tile 0 of the reduce-only stream 9 open in slot 63 of cluster 1, with contribution 1 noted; a packet of contributor
`n` with the tile's 16,384 bytes. -/
def tileRed : Tile := { Tile.fresh 9 0 with dup := [1], count := 1 }
def upTile (n : Nat) : State :=
  { up with streams := [(9, { xRed with desc := { dRed with nContrib := n } })]
            clusters := tput up.clusters 1 { Cluster.reset with inReset := false, tiles := [(63, tileRed)] } }
def pktCol (k : Nat) : Pkt :=
  { Pkt.zero with ptype := 8, srcNode := 7, dstNode := 5, addr := mkAddr 5 1 0, cstream := 9, contrib := k,
                  payload := List.replicate 16384 0#8 }
/-- The packet reaches the tile checks of the stream, whatever its contributor number below 3 and the clusters. -/
theorem test_w_contribution : ∀ k, k = 1 ∨ k = 2 → ∀ s, s = upTile 3 ∨ s = upTile 2 → ∀ x, s.stream 9 = some x →
    k < x.desc.nContrib →
    s.admits (pktCol k) = true ∧ s.numbersFresh ∧ s.cyc.roleStep = 0 ∧ s.pair.state.refusal = none ∧
    addrNode (pktCol k).addr = s.aon.nodeId ∧ (s.node (pktCol k).srcNode).colSrc = true ∧ addrWindow (pktCol k).addr = 1 ∧
    addrOffset (pktCol k).addr = 0 ∧ (s.win 1).kind = 1 ∧ (s.win 1).writeEn = true ∧ stackOf ((s.win 1).basePa + 0) = 0 ∧
    s.stackServes 0 = true ∧ x.closedStatus = none ∧ (pktCol k).contrib < x.desc.nContrib ∧ x.tileOf (pktCol k).addr = some 0 ∧
    x.anchorAt.contains 0 = true ∧ x.anchor = some 0 ∧ (pktCol k).payload.length = fmtBytes (pktCol k).fmt (x.desc.tileElems 0) ∧
    (pktCol k).fmt ≤ 7 ∧ 0 + max 1 (s.targetSpan (pktCol k)) ≤ (s.win 1).limit ∧
    s.checkData (s.win 1).extentId ((s.win 1).basePa + 0) (max 1 (s.targetSpan (pktCol k))) = none ∧
    (pktCol k).poison = false ∧ x.completed.contains 0 = false ∧
    rankIn (s.regionTiles x 0) 0 < x.base (s.regionTiles x 0) + x.desc.skew ∧
    clusterOf x 0 (rankIn (s.regionTiles x 0) 0) = 1 ∧ (s.cluster 1).inReset = false ∧ s.boot.unlocked.contains (.a 0) = false := by
  intro k hk s hs x hx hn
  have hl : ∀ k, (pktCol k).payload.length = 16384 := fun _ => List.length_replicate
  rw [hl]
  rcases hk with hk | hk <;> subst hk <;> rcases hs with hs | hs <;> subst hs <;> cases hx <;> revert hn <;>
    first
      | (intro _; exact ⟨rfl, fresh_nil rfl, by decide⟩)
      | (intro h; exact absurd h (by decide))
/-- The tile is open in slot 63 of cluster 1, noted by contributor 1; 2 of 3 is not the last. -/
theorem test_w_openTile : (upTile 3).sramPlace 9 0 0 = some (1, 63) ∧ afind ((upTile 3).cluster 1).tiles 63 = some tileRed ∧
    tileRed.dup.contains 1 = true ∧ tileRed.dup.contains 2 = false ∧ tileRed.count + 1 ≠ 3 := by decide
/-- No tile is open: slot 0 is the lowest free one; and every slot is taken by tiles of another stream, with no
workspace. -/
def upNoTile (l : List (Nat × Tile)) : State :=
  { upTile 3 with clusters := tput up.clusters 1 { Cluster.reset with inReset := false, tiles := l } }
def fullTiles : List (Nat × Tile) := (List.range 64).map (fun m => (m, Tile.fresh 10 m))
theorem test_w_freshTile : ∀ x, (upTile 3).stream 9 = some x → (upNoTile []).sramPlace 9 0 0 = none ∧ x.spillSlot 0 = none ∧
    ((upNoTile []).cluster 1).freeSlot = some 0 ∧ (upNoTile fullTiles).sramPlace 9 0 0 = none ∧
    ((upNoTile fullTiles).cluster 1).freeSlot = none ∧ x.freeWs 0 = none := by intro x hx; cases hx; decide
/-- The last contribution of a fused tile. -/
theorem test_w_lastContribution : ∀ s x, x = { xFus with desc := { dFus with nContrib := 2 } } →
    s = { up with streams := [(8, x)]
                  clusters := tput up.clusters 1 { Cluster.reset with
                    inReset := false, tiles := [(63, { Tile.fresh 8 0 with dup := [1], count := 1 })] } } →
    s.sramPlace 8 0 0 = some (1, 63) ∧ x.desc.fused = true ∧ x.groupOf 0 = none ∧ x.desc.satDiscard = false ∧
    x.anchor = some 0 ∧ x.anchorAt.contains 0 = true ∧ x.closedStatus = none ∧ s.deadEnd 1 = false ∧ (s.cluster 1).room ≠ 0 ∧
    x.tileOf (mkAddr 5 1 0) = some 0 := by
  intro s x hx hs; subst hx; subst hs; decide
/-- A stream with a pre-pass that waits for the second of two reports; and an anchor that arrives at region 11. -/
def upReport : State := { up with streams := [(9, { xRed with desc := { dRed with prePass := true }, reports := [(0, none)],
                                                              anchor := none, anchorAt := [] })] }
def pktRep : Pkt := { pktCol 1 with kind := true, maxExp := -32768, payload := [] }
theorem test_w_report : ∀ x, upReport.stream 9 = some x → x.desc.prePass = true ∧ x.selTiles.head? = some 0 ∧
    x.reports.all (fun r => r.1 != pktRep.contrib) = true ∧ 0 + max 1 (upReport.targetSpan pktRep) ≤ (upReport.win 1).limit ∧ upReport.admits pktRep = true ∧
    upReport.checkData (upReport.win 1).extentId ((upReport.win 1).basePa + 0) (max 1 (upReport.targetSpan pktRep)) = none ∧ x.closedStatus = none ∧
    pktRep.contrib < x.desc.nContrib ∧ x.tileOf pktRep.addr = some 0 ∧ x.reports.length + 1 = x.desc.nContrib := by
  intro x hx; cases hx; decide
theorem test_w_anchor : xRed.anchor = some 0 ∧ (upTile 3).stream 9 ≠ none := by decide
/-- The anchor is not known in the region yet; and the tile is complete. -/
theorem test_w_noAnchor : upReport.stream 9 ≠ none ∧ (∀ x, x = { xRed with anchorAt := [] } → x.anchorAt.contains 0 = false) ∧
    ({ xRed with completed := [0] } : Stream).completed.contains 0 = true := by
  exact ⟨by decide, fun x h => by subst h; rfl, by decide⟩

/-- The send context of a gather write of tile 0 of stream 8 to destination 7, not answered yet. -/
def upSend : State :=
  { up with
    streams := [(8, { xFus with unanswered := [(0, 7)], delivered := List.replicate 8 0, firstFail := List.replicate 8 0 })]
    fabric := { up.fabric with dies := tput up.fabric.dies 0 { LinkDie.reset with
      inReset := false, sends := [⟨3, 7, { Pkt.zero with ptype := 9 }, ms 99, 0, some (8, 0, 7), 5, 3, 0, false⟩] } } }
def pktAns (st : Nat) : Pkt := { Pkt.zero with ptype := 10, srcNode := 7, dstNode := 5, tag := 3#32, status := st }
theorem test_w_answers : ∀ st, st = stOK ∨ st = stDUP ∨ st = stBOUND → (pktAns st).srcNode ≠ 4096 ∧
    (∃ q x, (upSend.takeIn (pktAns st)).sendOf (pktAns st) = some q ∧ q.msg.ptype ≠ 5 ∧ q.ref = some (8, 0, 7) ∧
      upSend.stream 8 = some x ∧ (0, 7) ∈ x.unanswered ∧ lget 0 x.firstFail 7 = 0) ∧
    (up.takeIn (pktAns st)).sendOf (pktAns st) = none ∧ (pktAns st).status = st := by
  intro st h
  rcases h with h | h | h <;> subst h <;>
    exact ⟨by decide, ⟨_, _, rfl, by decide, by decide, rfl, by decide, by decide⟩, by decide, rfl⟩
theorem test_w_missLimit : (∃ m, (upMiss.region 4).miss.find? (fun m => m.window == 2 && m.chunk == 0) = some m ∧
      m.dueAt = some (ms 120) ∧ upMiss.waiting = [] ∧ upMiss.opLooks = []) ∧
    ∃ m, ((upMiss.modRegion 11 (fun r => { r with miss := [⟨1023, 5, 7, 0, ms 99, none, 0⟩] })).region 11).miss.find?
      (fun m => m.window == 1023 && m.chunk == 5) = some m ∧ m.dueAt = none :=
  ⟨⟨_, rfl, rfl, rfl, rfl⟩, ⟨_, rfl, rfl⟩⟩

/-! ### Witnesses of the obligations on pages, events and sessions -/

/-- VI 0 with CMD_NOP in its command buffer. -/
def upNop : State := up.modPage 0 (fun g => { g with cmdBuf := cmdHeader 1 (cmdOf 0 []) ++ zeros 4032 })
theorem test_w_registers : upNop.viExists 0 = true ∧ upNop.pageLive 0 = true ∧ upNop.ready = true ∧
    (upNop.page 0).busy = false ∧ (parseCmd (upNop.page 0).cmdBuf).1 = 0x0001 ∧ upNop.mirrors = false ∧
    (upNop.page 0).eqEn = false ∧ bitf 0xA0001 19 16 ≤ 10 ∧ isTenant 0 = false ∧ 0x1FFC + 4 ≤ 0x2000 ∧ 0x1002 % 8 ≠ 0 := by
  decide
/-- VI 0 with a ring of 64 records in window 1, 62 of them not taken, and one event waiting. -/
def upRing : State :=
  up.modPage 0 (fun g => { g with
    eqEn := true, eqSize := 0, eqBase := mkAddr 0 1 64, tail := 63, head := 1, evq := [⟨1, 0, [5#8]⟩] })
theorem test_w_events : ∀ g, g = upRing.page 0 → upRing.complexUp (complexOf 0) = true ∧ g.eqEn = true ∧
    g.evq = [⟨1, 0, [5#8]⟩] ∧ g.lost = 0 ∧ (g.tail.toNat + 2 ^ 32 - g.head.toNat) % 2 ^ 32 < ringSize g.eqSize - 1 ∧
    (upRing.writeOp (.event 0) ⟨bitf g.eqBase.toNat 51 42, bitf g.eqBase.toNat 41 0 + 32 * (g.tail.toNat % ringSize g.eqSize), 32⟩
      (toLe 2 1 ++ toLe 2 0 ++ toLe 4 g.tail.toNat ++ slice [5#8] 0 24)).1 = 0 ∧ (up.page 0).eqEn = false := by
  intro g h; subst h; decide
theorem test_w_pageAccess : ∀ p, p = pktRd 4 0x38 8 ∨ p = { pktRd 4 0x38 8 with ptype := 2, payload := toLe 8 0 } →
    upTenant.admits p = true ∧ upTenant.stackServes (stackOf ((upTenant.win (addrWindow p.addr)).basePa + addrOffset p.addr)) = true ∧
    upTenant.complexUp (complexOf 512) = true ∧ upTenant.boot.unlocked.contains (.k (complexOf 512)) = false ∧
    upTenant.pageHit { p with subop := 0 } = some 512 ∧
    ((upTenant.win (addrWindow p.addr)).basePa + addrOffset p.addr) % granuleBytes = 0x38 := by
  intro p h; rcases h with h | h <;> subst h <;> decide
/-- Recovery: an empty image is refused. Whether an image verifies depends on the part's root keys, which the model
leaves open (log entry of Config.rootKeyEc), so no witness of a verified image can be written down. -/
theorem test_w_recovery : ∀ s, s = ({ up with boot := { up.boot with phase := 0x04 } } : State) → s.boot.phase = 0x04 ∧
    (s.hostPort 0).perst = false ∧ 0x1000000 % 4096 = 0 ∧ bootImageErr (slice (s.complex 0).rcv 0 0) ≠ 0 ∧
    bootImageErr (slice (s.complex 0).rcv 0 4096) ≠ 0 := by
  intro s h; subst h; decide
def upSession : State :=
  { up with complexes := [(0, { Complex.reset with session := true })]
            aon := { up.aon with roots := [(some (List.replicate 48 1#8), false), (some (List.replicate 48 2#8), true)] } }
theorem test_w_session : (upSession.complex 0).session = true ∧ upSession.complexUp 0 = true ∧ upSession.mirrors = false ∧
    complexOf (255 : Nat) = 0 ∧ complexOf (1023 : Nat) = 1 ∧ isZero (slice (key1 ++ zeros 48) 48 48) = true ∧
    isZero (zeros 96) = true ∧ upSession.aon.roots.any (fun r => r.1 == some (List.replicate 48 1#8) && !r.2) = true ∧
    upSession.aon.roots.any (fun r => r.1 == some (List.replicate 48 2#8) && !r.2) = false := by decide

/-! ### Witnesses of the obligations on instructions -/

/-- The last engine at the start of the built-in SGD program; S5 is 31, S6 is 64. -/
def runTack : TileRun := { runFus with phase := 0 }
def engTack : Engine := { Engine.reset with tile := some runTack, prog := some 256, sc := [(5, 31), (6, 64)] }
def upTack : State := { upRun runTack with engines := tput up.engines 767 engTack }
def ctxTack : Ctx := (upTack.tackCtx 767).getD ⟨parseProg [], dRed, 0, 0, 0, 0, false, 0⟩
/-- Instruction fields: destination, three sources, format and the low 21 bits. -/
def fld5 (d a b fmt xf : Nat) : TackFields :=
  ⟨0, false, BitVec.ofNat 6 d, BitVec.ofNat 6 a, BitVec.ofNat 6 b, 0, BitVec.ofNat 3 fmt, 0, BitVec.ofNat 21 xf⟩
theorem tack_issues : issues upTack 767 runTack ctxTack := by
  unfold issues
  exact ⟨by decide, by decide, rfl, by decide, by decide, by decide⟩
/-- Lane numbers below and at the lane count of FP32, and shift amounts of 31 and 64. -/
theorem test_w_tackScalars : ((atIssue upTack 767 runTack ctxTack).sreg 5).toNat < lanesOf 0 ∧
    lanesOf 0 ≤ ((atIssue upTack 767 runTack ctxTack).sreg 6).toNat ∧ ((atIssue upTack 767 runTack ctxTack).sreg 5).toNat < 64 ∧
    64 ≤ ((atIssue upTack 767 runTack ctxTack).sreg 6).toNat := by decide
/-- The last strip that a binding holds and the one after it; the last addresses of 128, 4 and 8 bytes of the work area,
and a misaligned one. -/
theorem test_w_scratch : ∀ g, g = atIssue upTack 767 runTack ctxTack →
    (lget Bind.none ctxTack.prog.ins 0).holdsStrip ctxTack (addrX g (fld5 0 0x20 0 0 (127 * 128))) = true ∧
    (lget Bind.none ctxTack.prog.ins 0).holdsStrip ctxTack (addrX g (fld5 0 0x20 0 0 (128 * 128))) = false ∧
    (lget Bind.none ctxTack.prog.outs 0).holdsStrip ctxTack (addrX g (fld5 0x28 0 0 0 (127 * 128))) = true ∧
    (lget Bind.none ctxTack.prog.outs 0).holdsStrip ctxTack (addrX g (fld5 0x28 0 0 0 (128 * 128))) = false ∧
    addrX g (fld5 0 0 0 0 (0x3F80 * 128)) % 128 = 0 ∧ addrX g (fld5 0 0 0 0 (0x3F80 * 128)) + 128 = 0x4000 ∧
    addrX g (fld5 0 0 0 0 (0x3FFC * 128)) % 4 = 0 ∧ addrX g (fld5 0 0 0 0 (0x3FFC * 128)) + 4 = 0x4000 ∧
    addrX g (fld5 0 0 0 0 (0x3FF8 * 128)) % 8 = 0 ∧ addrX g (fld5 0 0 0 0 (0x3FF8 * 128)) + 8 = 0x4000 ∧
    addrX g (fld5 0 0 0 0 (0x3FFC * 128)) % 8 ≠ 0 ∧ Memory.wf g.scratch = true := by
  intro g h; subst h; decide
/-- Words of the encoding of R202 to R206, bit by bit: class, operation, predicate, PZ, destination, sources, format,
SSEL and XF. -/
theorem test_decode_words :
    decodeTack 0 (0#4 ++ 0#6 ++ 0#3 ++ 0#1 ++ 0#6 ++ 0#6 ++ 0#6 ++ 0#6 ++ 0#3 ++ 0#2 ++ 0#21) =
      some (.nop 0 ⟨0, false, 0, 0, 0, 0, 0, 0, 0⟩) ∧
    decodeTack 3 (1#4 ++ 2#6 ++ 0#3 ++ 0#1 ++ 0#6 ++ 0x20#6 ++ 5#6 ++ 0#6 ++ 0#3 ++ 2#2 ++ 0#21) =
      some (.vmul 3 ⟨0, false, 0, 0x20, 5, 0, 0, 2, 0⟩) ∧
    decodeTack 3 0x1080080500400000#64 = some (.vmul 3 ⟨0, false, 0, 0x20, 5, 0, 0, 2, 0⟩) ∧
    decodeTack 767 (6#4 ++ 14#6 ++ 0#3 ++ 0#1 ++ 1#6 ++ 8#6 ++ 0#6 ++ 1#6 ++ 2#3 ++ 3#2 ++ 5#21) =
      some (.smovi 767 ⟨0, false, 1, 8, 0, 1, 2, 3, 5⟩) ∧
    decodeTack 0 (1#4 ++ 11#6 ++ 0#54) = none ∧ decodeTack 0 (8#4 ++ 0#60) = none := by decide

/-! ### Witnesses of the obligations on links -/

def upPort (q : Port) : State := { up with fabric := { up.fabric with ports := [(0, q)] } }
/-- A port in ACTIVE with bytes of a gather packet left to frame. -/
def portCol : Port := { portUp with outBytes := [(4, [9#8])] }
/-- A port that replays its one unit, number 4,095, and has 17 words queued. -/
def unit4095 : Bytes := flowUnit 1 4 0 [] (seqSeed 4095)
def portRep (n : Nat) : Port :=
  { portUp with tx := { portUp.tx with next := 0, buf := [(4095, 4, ms 99, unit4095)], replay := some ⟨4095, 4095⟩,
                                       replayFrom := 4095, rcount := 1, bypass := List.replicate n 0#40 } }
theorem test_w_transmit : up.port 65 = Port.reset ∧ Port.reset.state = .down ∧
    ((upPort { portUp with state := .config }).port 0).cfgCount < 2 ∧
    ((upPort portCol).port 0).state = .active ∧ (upPort portCol).nextClass 0 = some 4 ∧
    ((upPort (portRep 16)).port 0).tx.replay = some ⟨4095, 4095⟩ ∧ ((upPort (portRep 16)).port 0).tx.bypass.length = 16 ∧
    ((upPort (portRep 16)).port 0).tx.buf.find? (fun e => e.1 == 4095) = some (4095, 4, ms 99, unit4095) ∧
    16 < ((upPort (portRep 17)).port 0).tx.bypass.length ∧ up.nextClass 0 = none := by decide
/-- A receiver that expects number 5; its good unit of class 4 with bytes of nothing, and a control unit. -/
def portRx (rx : PortRx) : Port := { portUp with rx := rx }
def unit5 : Bytes := flowUnit 1 4 0 [] (seqSeed 5)
def rx5 : PortRx := { PortRx.reset with e := 5, unacked := 31 }
theorem test_w_unit5 : unitOk unit5 1 (seqSeed 5) = true ∧ unitVc unit5 = 4 ∧ wordType (unitWord unit5) = 0 ∧
    cutStream (decide (64 ≤ 0)) (unitVc unit5) 4096 (tget [] rx5.parse (unitVc unit5) ++ unitBody unit5) [] = some ([], []) ∧
    rx5.nak = false ∧ rx5.dup = none ∧ unitOk unit5 1 (seqSeed 6) = false := by decide
theorem test_w_replayStart : ∀ u, u = flowUnit 1 4 (bypassWord 3 5) [] (seqSeed 5) →
    unitWord u = bypassWord 3 (5 % 4096) ∧ unitOk u 1 (seqSeed (5 % 4096)) = true ∧
    cutStream (decide (64 ≤ 0)) (unitVc u) 4096 (tget [] rx5.parse (unitVc u) ++ unitBody u) [] = some ([], []) ∧
    later 12 6 (5 % 4096) = true ∧ later 12 5 (5 % 4096) = false ∧ later 12 4 (5 % 4096) = false ∧ portUp.proto = false := by
  intro u h; subst h; decide
theorem test_w_ctlUnit : ∀ u, u = flowUnit 0 0 0 [] ctlSeed → unitOk u 0 ctlSeed = true ∧ wordType (unitWord u) = 0 ∧
    unitOk [] 0 ctlSeed = false := by
  intro u h; subst h; decide
theorem test_w_rx : (upPort (portRx rx5)).port 0 = portRx rx5 ∧ (portRx rx5).state = .active ∧
    (portRx { rx5 with dup := some 5, e := 7 }).rx.dup = some 5 ∧ (portRx { rx5 with nak := true }).rx.nak = true ∧
    6 + 1 < 8 ∧ 8 ≤ 7 + 1 ∧ up.port 65 ≠ portUp := by decide

theorem quiet_up : quietPort up 0 := by unfold quietPort; decide
/-- Words at port 0: acknowledgements of 4,095, of a number not in the buffer, of the next one, and credits. -/
theorem test_w_words : ∀ q, q = portRep 0 → (8191 % 4096) ∈ q.tx.buf.map (·.1) ∧ 0 < q.replayN ∧
    (4 % 4096) ∉ q.tx.buf.map (·.1) ∧ (4096 % 4096) ∉ q.tx.buf.map (·.1) ∧ 4096 % 4096 = q.tx.next ∧ 4 % 4096 ≠ q.tx.next ∧
    q.proto = false ∧ ({ q with tx := { q.tx with replay := none, replayFrom := 0 } } : Port).tx.replay = none ∧
    later 16 (65536 % 65536) (tget 0 q.tx.debited 3) = false ∧ later 16 (1 % 65536) (tget 0 q.tx.debited 1) = true ∧
    q.rx.nak = false ∧ portUp.state ≠ .down := by
  intro q h; subst h; decide
theorem test_w_down : quietPort up 0 ∧ (up.port 0).state ≠ .down ∧ (up.port 65).state = .down := ⟨quiet_up, by decide⟩
/-- A port with all that the timers wait for: one buffer unit of class 4 and one of class 1. -/
def portTimers (rc : Nat) (rt : Bool) : Port :=
  { portRep 0 with
    tx := { (portRep 0).tx with rcount := rc, retrained := rt }
    rx := { rx5 with ackDue := some (ms 101), occ := [(1, 1), (4, 1)], freed := [(1, 7), (4, 31)] } }
theorem test_w_timers : ∀ q, q = portTimers 4 true → tget 0 q.rx.occ 2 = 0 ∧ tget 0 q.rx.occ 4 ≠ 0 ∧ tget 0 q.rx.occ 1 ≠ 0 ∧
    q.rx.ackDue = some (ms 101) ∧ rx5.ackDue = none ∧ portUp.tx.buf = [] ∧
    q.tx.buf = [(4095, 4, ms 99, unit4095)] ∧ q.tx.replayFrom = 4095 ∧ q.replayN ≤ q.tx.rcount ∧
    (portTimers 3 false).tx.rcount < q.replayN ∧ (portTimers 4 false).tx.retrained = false ∧
    tget 0 q.rx.freed vcCOL < 2048 ∧ tget 0 q.rx.crdDue 0 + lCycles 1750 ≤ up.now := by
  intro q h; subst h; decide
theorem test_w_timers_retd (v : Nat) : tget 0 (portTimers 4 true).rx.retd v < 65536 := by
  show tget 0 ([] : Tbl Nat) v < 65536
  simp [tget]
theorem test_w_timers_quiet : ∀ d, d = max (ms 99) ((portTimers 4 true).tx.replayAt - 1) + lCycles 2625 →
    quietPort ((upPort (portTimers 4 true)).reach d) 0 := by
  intro d h; subst h; unfold quietPort; decide
/-- Codewords: corrected ones are counted, and the seventh and the eighth bad one in a row. -/
theorem test_w_codewords : ∀ q n, q = portRx { rx5 with badCw := n } → n = 6 ∨ n = 7 →
    ([some 0, some 3] : List (Option Nat)).contains none = false ∧
    ([some 0, some 3] : List (Option Nat)).foldl Port.codeword q = (q.codeword (some 0)).codeword (some 3) ∧
    (([] : List (Option Nat)).foldl Port.codeword q).rx.badCw = n ∧ (n = 6 → q.rx.badCw + 1 < 8) ∧ (n = 7 → 8 ≤ q.rx.badCw + 1) ∧
    q.state = .active := by
  intro q n h hn; rcases hn with hn | hn <;> subst hn <;> subst h <;> decide
/-- An acknowledgement during the replay of 4,095, and a replay whose one unit has been acknowledged meanwhile. -/
theorem test_w_replayAck : (portRep 0).tx.replay = some ⟨4095, 4095⟩ ∧ (4095 % 4096) ∈ (portRep 0).tx.buf.map (·.1) ∧
    ({ portRep 0 with tx := { (portRep 0).tx with acked := some 4095 } } : Port).tx.acked = some 4095 ∧
    (portRep 0).tx.acked = none ∧ (4095 = 4095 ∨ later 12 4095 4095 = true) := by decide
/-- Credits that the partner still owes for units of before a retrain. -/
theorem test_w_owed : ∀ q, q = ({ portUp with tx := { portUp.tx with whole := [(1, 100)], size := [(1, 98)], debited := [(1, 3)] } } : Port) →
    later 16 (5 % 65536) ((tget 0 q.tx.debited 1 + (tget 0 q.tx.whole 1 - tget 0 q.tx.size 1)) % 65536) = false ∧
    later 16 (6 % 65536) ((tget 0 q.tx.debited 1 + (tget 0 q.tx.whole 1 - tget 0 q.tx.size 1)) % 65536) = true := by
  intro q h; subst h; decide
theorem test_w_ingressFull : ∀ n s, s = ({ up with fabric := { up.fabric with dies := tput up.fabric.dies 0 { LinkDie.reset with
      inReset := false, reqOcc := n } } } : State) →
    (n = 0x800000 → s.ingressFull 0 3 = false) ∧ (n = 0x800001 → s.ingressFull 0 3 = true ∧ s.ingressFull 0 1 = false) := by
  intro n s h; subst h
  refine ⟨?_, ?_⟩ <;> intro h <;> subst h <;> decide
theorem test_w_sends : ∀ l, l < 4 → (up.die l).sends = [] := by decide

def recCfg : Bytes := up.ownConfig 0
def portCfg (n sent : Nat) (cfg : Bytes) : Port := { portUp with state := .config, cfg := cfg, cfgCount := n, cfgSent := sent }
theorem test_w_train : (up.port 63).state = .down ∧ (up.port 63).enable = true ∧ (up.die (dieOfPort 63)).inReset = false ∧
    up.aon.nodeValid = true ∧ (up.port 63).tried = false ∧ portUp.tried = true ∧ portUp.autoTrain = true ∧
    ({ portUp with state := .detect } : Port).state = .detect ∧ slice recCfg 0 32 = recCfg ∧
    recordOk 0 true recCfg = true ∧ recordOk 0 true (slice [] 0 32) = false ∧
    (portCfg 0 0 []).cfg ≠ recCfg ∧ (portCfg 0 2 recCfg).cfg = recCfg ∧ (portCfg 1 2 recCfg).wasRetrain = false ∧
    up.fabric.rspHold = [] ∧ (∀ q, q = { portCfg 1 2 recCfg with wasRetrain := true } → q.wasRetrain = true ∧ q.cfg = recCfg ∧
      1 ≤ q.cfgCount ∧ 2 ≤ q.cfgSent ∧ recordOk 0 false recCfg = true) ∧ (up.port 64).state ≠ .active ∧
    ({ up with fabric := { up.fabric with ports := [(64, portUp)] } } : State).port (129 - 65) = portUp := by
  refine ⟨by decide, by decide, by decide, by decide, by decide, by decide, by decide, by decide, by decide, by decide,
    by decide, by decide, by decide, by decide, by decide, ?_, by decide, by decide⟩
  intro q h; subst h; decide
theorem test_w_retrain : ∀ s, s = upPort { portUp with state := .retrain } → (s.port 0).state = .retrain ∧
    quietPort (s.reach ((s.port 0).since + lCycles 35000)) 0 := by
  intro s h; subst h; unfold quietPort; decide

/-- Link die 0 with a message sent 7 times more and one sent once, an assembly entry, a context in progress and an idle
one, an answer that waits for node 9, and a mark from node 7. -/
def msgG : Pkt := { Pkt.zero with ptype := 9, srcNode := 5, dstNode := 7, payload := [1#8] }
def dieT : LinkDie :=
  { LinkDie.reset with
    inReset := false
    sends := [⟨3, 7, msgG, ms 99, 7, some (8, 0, 7), 5, 7, 11, false⟩, ⟨4, 7, msgG, ms 99, 0, none, 5, 7, 0, false⟩,
              ⟨5, 9, msgG, ms 99, 0, none, 5, 7, 0, false⟩]
    asms := [⟨7, 0, 3, ms 99, []⟩]
    ctxs := [⟨7, 0, 0, [(3, 1)], ms 99⟩, ⟨9, 0, 0, [(3, 2)], ms 99⟩] }
def outT (d : Dest) : OutPkt := ⟨{ Pkt.zero with ptype := 10, dstNode := 9 }, d, some 0, 3, noPort, none, 0⟩
def upDie : State :=
  { up with
    fabric := { up.fabric with
      dies := tput up.fabric.dies 0 dieT, rspHold := [(outT (.node 9), ms 99)], rates := [(15, (3, 0, ms 99))]
      marks := [(7, true, 3, some (ms 99)), (7, false, 0, none)]
      ports := [(0, { portUp with tx := { portUp.tx with stopUntil := [(3, ms 101)] } })] } }
theorem test_w_transport : (upDie.die 0).sends.find? (fun x => x.tag == 6) = none ∧
    (upDie.die 0).sends.find? (fun x => x.tag == 3) = some ⟨3, 7, msgG, ms 99, 7, some (8, 0, 7), 5, 7, 11, false⟩ ∧
    (upDie.die 0).sends.find? (fun x => x.tag == 4) = some ⟨4, 7, msgG, ms 99, 0, none, 5, 7, 0, false⟩ ∧ upDie.activePorts 7 ≠ [] ∧ msgG.ptype ≠ 5 ∧
    (upDie.die 0).sends.find? (fun x => x.tag == 5) = some ⟨5, 9, msgG, ms 99, 0, none, 5, 7, 0, false⟩ ∧ upDie.activePorts 9 = [] ∧
    (upDie.die 0).asms.find? (fun a => a.node == 7 && a.ssg == 0 && a.seq == 3) = some ⟨7, 0, 3, ms 99, []⟩ ∧
    (upDie.die 0).asms.find? (fun a => a.node == 9 && a.ssg == 0 && a.seq == 3) = none ∧
    (upDie.die 0).ctxs.find? (fun c => c.node == 9 && c.ssg == 0) = some ⟨9, 0, 0, [(3, 2)], ms 99⟩ ∧
    (upDie.die 0).ctxs.find? (fun c => c.node == 7 && c.ssg == 0) = some ⟨7, 0, 0, [(3, 1)], ms 99⟩ ∧
    (upDie.die 0).ctxs.find? (fun c => c.node == 7 && c.ssg == 15) = none ∧
    upDie.fabric.rspHold.find? (fun h => h.1.dest == .node 9) = some (outT (.node 9), ms 99) ∧
    upDie.fabric.rspHold.find? (fun h => h.1.dest == .node 7) = none := by decide
theorem test_w_rates : upDie.fabric.marks.find? (fun e => e.1 == 7 && e.2.1 == true) = some (7, true, 3, some (ms 99)) ∧
    upDie.fabric.marks.find? (fun e => e.1 == 7 && e.2.1 == false) = some (7, false, 0, none) ∧
    upDie.fabric.marks.find? (fun e => e.1 == 9 && e.2.1 == false) = none ∧
    (upDie.activePorts 7).filter (fun p => dieOfPort p == 0) ≠ [] ∧ afind upDie.fabric.rates (2 * 7 + b2n true) = some (3, 0, ms 99) ∧
    afind upDie.fabric.rates (2 * 7 + b2n false) = none ∧ tget 0 (upDie.port 0).tx.stopUntil 3 ≠ 0 ∧
    tget 0 (upDie.port 0).tx.stopUntil 2 = 0 := by decide
/-- The fill of a link die's ingress at each bound of the stop. -/
theorem test_w_sluice : ∀ d b n, d = ({ dieT with stopTx := b, reqOcc := n } : LinkDie) →
    (b = false → n = 0x600000 → d.stopTx = false ∧ 4 * d.reqOcc ≤ 3 * 0x800000) ∧
    (b = false → n = 0x600001 → d.stopTx = false ∧ 3 * 0x800000 < 4 * d.reqOcc) ∧
    (b = true → n = 0x400000 → d.stopTx = true ∧ 2 * d.reqOcc = 0x800000) ∧
    (b = true → n = 0x3FFFFF → d.stopTx = true ∧ 2 * d.reqOcc < 0x800000) ∧
    (b = true → n = 0x400001 → d.stopTx = true ∧ 0x800000 < 2 * d.reqOcc) := by
  intro d b n h; subst h
  refine ⟨?_, ?_, ?_, ?_, ?_⟩ <;> intro h1 h2 <;> subst h1 <;> subst h2 <;> decide
theorem test_w_wbRefresh : ∀ s, s = upAgent.modRegion 11 (fun r => { r with wbEver := [2] }) →
    (s.region 11).wbEver = [2] ∧ s.agent 2 = some ⟨7, 0, false⟩ ∧ s.activePorts 7 ≠ [] := by
  intro s h; subst h; decide

/-- Packets toward node 7 in the outbox: without a VI, of VI 0, and a gather write. VI 0's shaper of link die 0 holds
a packet that comes due. -/
def outV (v : Option Nat) (t : Nat) : OutPkt := ⟨{ Pkt.zero with ptype := t, dstNode := 7 }, .node 7, v, 3, 0, none, 0⟩
def upShape (count : Int) (fifo : List OutPkt) (due : Option Nat) : State :=
  { up with
    vis := [(0, { viUp 0 with sched := ⟨8192, 64, 1, 0⟩ }), (3, viUp 3)]
    outbox := [outV none 10, outV (some 0) 10, outV (some 0) 9, { outV none 10 with port := 63 }]
    sched := { up.sched with shapers := [(0, ⟨count, fifo, ms 100, 8192, 64, due⟩)] } }
theorem test_w_admit : ∀ f, f = (fun (s : State) => s.outbox[4]? = none ∧ s.outbox[0]? = some (outV none 10) ∧
      s.outbox[1]? = some (outV (some 0) 10) ∧ s.outbox[2]? = some (outV (some 0) 9) ∧
      (∃ o, s.outbox[3]? = some o ∧ o.port < 64 ∧ instOf o.port = 3) ∧ instOf 0 = 0 ∧ (outV (some 0) 9).pkt.ptype ≠ 5) →
    f (upShape 0 [] none) := by
  intro f h; subst h
  exact ⟨by decide, by decide, by decide, by decide, ⟨_, rfl, by decide⟩, by decide⟩
theorem test_w_shapers : ((upShape 0 [outV (some 0) 10] none).shaper 0 0).fifo ≠ [] ∧
    ((upShape 0 [] none).shaper 0 0).fifo = [] ∧
    (∀ y, y = ((upShape (-2) [] none).shaper 0 0).refill 0 (upShape (-2) [] none).now ((upShape (-2) [] none).vi 0).sched →
      y.rate ≠ 0 ∧ y.count < 0) ∧
    (∀ y, y = ((upShape 0 [] none).shaper 0 0).refill 0 (upShape 0 [] none).now ((upShape 0 [] none).vi 0).sched →
      y.rate ≠ 0 ∧ 0 ≤ y.count) := by
  refine ⟨by decide, by decide, ?_, ?_⟩ <;> intro y h <;> subst h <;> decide
/-- VI 3 is unshaped. -/
theorem test_w_unshaped : ∀ y, y = (up.shaper 0 3).refill 0 up.now (up.vi 3).sched → (up.shaper 0 3).fifo = [] ∧ y.rate = 0 ∧
    0 ≤ y.count := by intro y h; subst h; decide
theorem test_w_slots : ∀ c s, (c = 0 ∨ c = -10000000) → s = upShape c [outV (some 0) 10] (some (ms 100 + 10080)) →
    s.sched.shapers.filterMap (fun e => if e.1 / 1024 = 0 then e.2.due.map (fun t => (e.1 % 1024, t)) else none) =
      [(0, ms 100 + 10080)] ∧ (s.shaper 0 0).fifo = [outV (some 0) 10] ∧
    (up.sched.shapers.all (fun e => e.2.due.isNone)) = true ∧
    ∀ y, y = (s.shaper 0 0).refill 0 (max s.now (ms 100 + 10080)) (s.vi 0).sched → y.rate ≠ 0 ∧ (c = 0 → 0 ≤ y.count) ∧
      (c = -10000000 → y.count < 0) := by
  intro c s h hs
  rcases h with h | h <;> subst h <;> subst hs <;>
    (refine ⟨by decide, by decide, by decide, ?_⟩; intro y hy; subst hy; decide)
theorem test_w_weights : (List.range 8).foldl (fun a c => a + (up.sched.classes.getD c (0, 0)).1) 0 ≤ 256 := by decide
/-- Gather writes that region 11 holds for node 7 (which a port reaches) and node 9 (which none reaches). -/
def upPaced (n : Nat) : State :=
  up.modRegion 11 (fun r => { r with paced := [⟨{ msgG with dstNode := n, addr := mkAddr n 0 0 }, .node n, some 0, 3, noPort, some (8, 0, 7), 11⟩] })
theorem test_w_paced : (up.region 11).paced = [] ∧ up.engines = [] ∧
    (∀ o, ((upPaced 7).region 11).paced = [o] → ((upPaced 7).launch o 7).1 = .sent) ∧
    (∀ o, ((upPaced 9).region 11).paced = [o] → ((upPaced 9).launch o 9).1 = .abandoned) := by
  refine ⟨by decide, rfl, ?_, ?_⟩ <;> intro o h <;> cases h <;> decide

/-! ### Witnesses of the obligations on channels -/

/-- An entry of some traffic for 32 bytes at an address. -/
def entR (id : Nat) (u : Traffic) (pa : Nat) : ChanEnt := ⟨⟨id, u, pa, 32⟩, id, ms 99, false, false⟩
/-- The last block of channel 31 of stack 11 that lies in its first 8 KiB. -/
def topPa : Nat := 11 * stackBytes + 31 * 256
def upChan (n : Nat) (c : Chan) : State := { up with chans := [(n, c)] }
def ch0 : Chan := Chan.reset 0
/-- The latency port with its last place free and full; requester 7's FIFO at both bounds. -/
theorem test_w_arrive : ∀ c d r q, c = { ch0 with lp := List.replicate 31 (entR 1 .mirrorRead 0), fifos := [(7, List.replicate 7 (entR 1 .hostRead 0))] } →
    d = { ch0 with lp := List.replicate 32 (entR 1 .mirrorRead 0), fifos := [(7, List.replicate 8 (entR 1 .hostRead 0))] } →
    r = (entR 2 (.fabricRead 0) topPa).r → q = (entR 2 .hostWrite topPa).r →
    (upChan 383 c).chan 383 = c ∧ c.lp.length < 32 ∧ 32 ≤ d.lp.length ∧ (tget [] c.fifos 7).length < 8 ∧
    8 ≤ (tget [] d.fifos 7).length ∧ r.urgent = true ∧ packageChannel r.pa = 383 ∧ r.pa < 12 * stackBytes ∧
    q.urgent = false ∧ q.req = 7 ∧ packageChannel q.pa = 383 ∧ q.pa < 12 * stackBytes := by
  intro c d r q h1 h2 h3 h4; subst h1; subst h2; subst h3; subst h4; decide
/-- A controller with a neighbour refresh that is overdue; one with a mark write; one with a head in the latency port. -/
def chOver (rows : List Nat) : Chan := { ch0 with neigh := [⟨5, rows, ms 98⟩] }
def entM : ChanEnt := entR 1 .lostMark 0
theorem test_w_issue : ∀ now, now = up.now →
    (chOver [3, 4]).overdue now = some ⟨5, [3, 4], ms 98⟩ ∧ (chOver [3]).overdue now = some ⟨5, [3], ms 98⟩ ∧
    ch0.overdue now = none ∧ ch0.lastMark = none ∧
    oldestEnt (({ ch0 with parked := [entM] }.parked ++ tget [] ch0.fifos 5).filter (fun e => e.r.mark &&
      { ch0 with parked := [entM] }.issuable now e)) = some entM ∧
    { ch0 with lp := [entR 1 .mirrorRead 0] }.issuable now (entR 1 .mirrorRead 0) = true ∧
    { ch0 with lp := [entR 1 .mirrorRead 0], bankUntil := [(0, now + 1)] }.issuable now (entR 1 .mirrorRead 0) = false ∧
    { ch0 with panic := true }.panics = true ∧ ch0.panics = false := by
  intro now h; subst h; decide
theorem test_w_lottery : ∀ now e, now = up.now → e = { entR 1 .stateRead 6553600 with starved := true } →
    oldestEnt ({ ch0 with parked := [e] }.parked.filter (fun x => x.starved && { ch0 with parked := [e] }.lotteryOk now x)) = some e ∧
    e.r.write = false ∧ (({ ch0 with fifos := [(7, [entR 1 .hostRead 0])] } : Chan).candidate now 7).isSome = true ∧
    ch0.candidate now 7 = none ∧ (∀ i, i < 8 → ch0.candidate now i = none) ∧ ch0.mayRefreshRow now = none ∧
    (List.range 8).any (fun i => (({ ch0 with fifos := [(7, [entR 1 .hostRead 0])] } : Chan).candidate now i).isSome &&
      ch0.tickets.getD i 0 != 0) = true := by
  intro now e h1 h2; subst h1; subst h2; decide
/-- A word of a finished read that cannot be corrected: two symbols of its check bytes are wrong. -/
theorem test_w_readDone : ∀ s e, e = entR 1 .stateRead 6553600 →
    s = { upChan 0 { ch0 with active := [e] } with dram := { up.dram with check := [(204800, 0x101#32)] } } →
    (s.chan 0).active = [e] ∧ e.r.words = [204800] ∧ packageChannel (32 * 204800) = 0 ∧
    s.isValid (granuleOf (32 * 204800)) = true ∧ s.dram.listed (32 * 204800) 32 = [204800] ∧ s.dram.word 204800 = none ∧
    up.dram.listed (32 * 204800) 32 = [] ∧ ch0.active = [] := by
  intro s e h1 h2; subst h1; subst h2; decide
theorem test_w_starved : ∀ e, e = entR 1 .stateRead 6553600 → ({ ch0 with parked := [e] } : Chan).findEnt 1 = some e ∧ e.starved = false ∧
    e.limitHit = false ∧ ch0.findEnt 1 = none ∧ ch0.starveIe = true ∧ ch0.postedAt = none ∧
    ({ ch0 with parked := [{ e with starved := true, limitHit := true }] } : Chan).findEnt 1 =
      some { e with starved := true, limitHit := true } ∧ (upRing.page 0).eqEn = true := by
  intro e h; subst h; decide
/-- Refresh slots of bank 0 and bank 63, with a postponement left and with none, and with a request in the latency
port. -/
theorem test_w_refresh : ∀ now, now = ({ upChan 0 ch0 with now := ms 100 } : State).now →
    ch0.slotBank = 0 ∧ ({ ch0 with slotBank := 63 } : Chan).slotBank ≠ 0 ∧ 4608 ≤ ({ ch0 with refDone := 4608 } : Chan).refDone ∧
    ch0.refDone < 4608 ∧ tget 0 ch0.postponed 0 < ch0.refPostpone ∧ ({ ch0 with panic := true } : Chan).postpones false 0 now = true ∧
    ¬ (tget 0 ({ ch0 with postponed := [(0, 4)] } : Chan).postponed 0 < ch0.refPostpone) ∧
    ({ ch0 with lp := [entR 1 .mirrorRead 0] } : Chan).lpNames 0 = true ∧ ch0.lpNames 0 = false ∧ ch0.postpones true 0 now = false := by
  intro now h; subst h; decide
theorem test_w_catchUp : ∀ now c, now = up.now → c = ({ ch0 with due := [5], postponed := [(6, 1)] } : Chan) →
    c.due.find? (fun b => !(c.panicEn && c.lpNames b) && !c.bankBusy b now) = some 5 ∧
    ch0.due.find? (fun b => !(ch0.panicEn && ch0.lpNames b) && !ch0.bankBusy b now) = none ∧
    (c.postponed.map (·.1)).find? (fun b => !c.postpones false b now && !c.bankBusy b now) = some 6 ∧
    (ch0.postponed.map (·.1)).find? (fun b => !ch0.postpones false b now && !ch0.bankBusy b now) = none := by
  intro now c h1 h2; subst h1; subst h2; decide
theorem test_w_neighbour : ∀ r, r = (upChan 0 (chOver [3])).reach (ms 98 + us 1) → ch0.neigh = [] ∧
    (chOver [3, 4]).neigh = [⟨5, [3, 4], ms 98⟩] ∧ (chOver [3]).overdue r.now = some ⟨5, [3], ms 98⟩ ∧
    (chOver [3, 4]).overdue r.now = some ⟨5, [3, 4], ms 98⟩ ∧
    ({ chOver [3] with bankUntil := [(5, r.now + 1)] } : Chan).overdue r.now = none := by
  intro r h; subst h; decide

/-! ### Witnesses of the obligations on the pair -/

/-- A package in a pair state with both Rein ports ACTIVE and the coordinator lease held; extent 1 is mirrored. -/
def upPair (st : PairState) : State :=
  { up with
    pair := { Pair.reset with state := st, partner := 6, partnerState := none, co := { Girth.reset with hold := true, endAt := ms 130 },
                              la := { Girth.reset with hold := true, lapsed := false, endAt := ms 130 } }
    exts := [(1, ⟨100, 4, 0, .active, false, true, 1⟩)]
    fabric := { up.fabric with ports := [(0, portUp), (64, portUp), (65, portUp)] } }
def cNodeId (op n : Nat) : Cmd := signCmd (cmdOf 0 (toLe 2 n)) key1 op
def cNone (op : Nat) : Cmd := signCmd (cmdOf 0 []) key1 op
theorem test_w_pairForm : ∀ s, s = upPair .unpaired →
    accepted s 0 0x0901 (cNodeId 0x0901 6) (lenIs (cNodeId 0x0901 6) 2) [(0, 2, 0xFFF)] .pf false ∧
    arg (cNodeId 0x0901 6) 0 2 = 6 ∧ (upPair .solo).pair.state = .solo ∧ s.reinUp = true ∧ s.pair.fault = false ∧
    s.pair.partnerState = none ∧ s.pair.formTag = none ∧ s.aon.nodeId ≠ 6 ∧
    accepted (upPair .standby) 0 0x0901 (cNodeId 0x0901 6) (lenIs (cNodeId 0x0901 6) 2) [(0, 2, 0xFFF)] .pf false ∧
    (upPair .standby).pair.state ≠ .unpaired ∧ (upPair .standby).pair.state ≠ .solo ∧ (upPair .standby).mirrors = false ∧
    up.reinUp = false := by
  intro s h; subst h
  exact ⟨accepted_signed (by decide), by decide, by decide, by decide, by decide, by decide, by decide, by decide,
    accepted_signed (by decide), by decide⟩
theorem test_w_pairAccept : ∀ st, st = .unpaired ∨ st = .stale ∨ st = .fenced → (upPair st).pair.state = st ∧
    accepted (upPair st) 0 0x0902 (cNodeId 0x0902 4095) (lenIs (cNodeId 0x0902 4095) 2) [(0, 2, 0xFFF)] .pf false ∧
    arg (cNodeId 0x0902 4095) 0 2 ≠ (upPair st).aon.nodeId := by
  intro st h; rcases h with h | h | h <;> subst h <;> exact ⟨rfl, accepted_signed (by decide), by decide⟩
def upFull : State := { upPair .active with cyc := { up.cyc with closedWait := some 5 } }
theorem test_w_pairRole : accepted (upPair .active) 0 0x0903 (cNone 0x0903) (lenIs (cNone 0x0903) 0) [] .co false ∧
    (upPair .active).cyc.roleStep = 0 ∧ (upPair .active).mayClose = true ∧ (upPair .active).pair.state = .active ∧
    accepted upFull 0 0x0903 (cNone 0x0903) (lenIs (cNone 0x0903) 0) [] .co false ∧ upFull.mayClose = false ∧
    upFull.cyc.roleStep = 0 ∧ (upPair .standby).pair.claimDue = false ∧ (upPair .standby).waitersOn 0x0903 0 = [] ∧
    (upPair .standby).cyc.roleStep = 0 ∧
    accepted (upPair .standby) 0 0x0903 (cNone 0x0903) (lenIs (cNone 0x0903) 0) [] .co false :=
  ⟨accepted_signed (by decide), by decide, by decide, by decide, accepted_signed (by decide), by decide, by decide,
   by decide, by decide, by decide, accepted_signed (by decide)⟩
def upSolo : State := { upPair .solo with pair := { (upPair .solo).pair with partnerState := some .syncing } }
theorem test_w_pairResync : accepted upSolo 0 0x0904 (cmdOf 0 []) (lenIs (cmdOf 0 []) 0) [] .co false ∧
    upSolo.pair.state = .solo ∧ upSolo.pair.partnerState = some .syncing ∧
    accepted (upPair .active) 0 0x0904 (cmdOf 0 []) (lenIs (cmdOf 0 []) 0) [] .co false ∧ (upPair .active).pair.state ≠ .solo :=
  ⟨accepted_plain (by decide), by decide, by decide, accepted_plain (by decide), by decide⟩
def cMend (k : Nat) : Cmd := signCmd (cmdOf 0 (toLe 4 103 ++ toLe 1 k)) key1 0x0905
theorem test_w_pairMend : ∀ st k, (st = .active ∧ k ≤ 1) ∨ (st = .standby ∧ k ≤ 1) →
    accepted (upPair st) 0 0x0905 (cMend k) (lenIs (cMend k) 5) [] .co false ∧ arg (cMend k) 0 4 < 12 * stackGranules ∧
    (upPair st).mirroredAt (arg (cMend k) 0 4) = true ∧ arg (cMend k) 4 1 = k ∧
    accepted upFull 0 0x0905 (cMend 0) (lenIs (cMend 0) 5) [] .co false ∧ upFull.mayClose = false := by
  intro st k h
  have hk : k = 0 ∨ k = 1 := by omega
  rcases h with ⟨h, _⟩ | ⟨h, _⟩ <;> subst h <;> rcases hk with h | h <;> subst h <;>
    exact ⟨accepted_signed (by decide), by decide, by decide, by decide, accepted_signed (by decide), by decide⟩
/-- With a cycle that ships and a second one closed no write gets a new entry; with one that ships there is room. -/
theorem test_w_mendRoom : ∀ s, s = { upFull with cyc := { upFull.cyc with shipping := some 4 } } →
    accepted s 0 0x0905 (cMend 0) (lenIs (cMend 0) 5) [] .co false ∧ s.tableFull (arg (cMend 0) 0 4) = true ∧
    s.mirroredAt (arg (cMend 0) 0 4) = true ∧ s.pair.state = .active ∧ upFull.tableFull (arg (cMend 0) 0 4) = false := by
  intro s h; subst h; exact ⟨accepted_signed (by decide), by decide⟩
def cPairSet (v : Nat) : Cmd := cmdOf 0 (toLe 4 v)
theorem test_w_pairSet : ∀ v, v = 200 * 2 ^ 24 + 32 * 2 ^ 18 + 200 * 2 ^ 8 + 6 ∨ v = 5 * 2 ^ 24 + 1 * 2 ^ 18 + 5 * 2 ^ 8 →
    accepted (upPair .active) 0 0x0906 (cPairSet v) (lenIs (cPairSet v) 4) [(0, 4, 0xFFFCFF06)] .co false ∧
    arg (cPairSet v) 0 4 = v ∧ 5 ≤ bitf v 31 24 ∧ bitf v 31 24 ≤ 200 ∧ 1 ≤ bitf v 23 18 ∧ bitf v 23 18 ≤ 32 ∧
    5 ≤ bitf v 15 8 ∧ bitf v 15 8 ≤ 200 ∧ (upPair .active).linked = true ∧
    accepted (upPair .takeover) 0 0x0906 (cPairSet v) (lenIs (cPairSet v) 4) [(0, 4, 0xFFFCFF06)] .co false ∧
    (upPair .takeover).linked = false ∧ alone (upPair .takeover) 0 := by
  intro v h
  rcases h with h | h <;> subst h <;>
    exact ⟨accepted_plain (by decide), by decide, by decide, by decide, by decide, by decide, by decide, by decide, by decide,
      accepted_plain (by decide), by decide, ⟨rfl, rfl⟩⟩
theorem idle_of {s : State} (h : (s.cyc.roleStep == 0 && s.cyc.mirrorSent.isEmpty && s.cyc.late.isEmpty && s.cyc.heldAns.isEmpty &&
    s.cyc.syncs.isEmpty && s.cyc.mends.isEmpty && s.streams.isEmpty && s.waiting.isEmpty && s.home.heldWb.isEmpty &&
    s.vis.all (fun v => v.2.cmd.isNone)) = true) : pairIdle s := by
  simp only [Bool.and_eq_true, beq_iff_eq, List.isEmpty_iff, List.all_eq_true, Option.isNone_iff_eq_none] at h
  obtain ⟨⟨⟨⟨⟨⟨⟨⟨⟨h1, h2⟩, hl⟩, h3⟩, h4⟩, h5⟩, h6⟩, h7⟩, h8⟩, h9⟩ := h
  refine ⟨h1, h2, hl, h3, h4, h5, ?_, ⟨?_, h8, ?_⟩, ?_⟩
  · intro e he; simp [h6] at he
  · intro w hw; simp [h7] at hw
  · intro v hv b hb; rw [h9 v hv] at hb; cases hb
  · intro w hw; simp [h7] at hw
theorem test_w_pairDissolve : accepted (upPair .stale) 0 0x0907 (cNone 0x0907) (lenIs (cNone 0x0907) 0) [] .pf false ∧
    pairIdle (upPair .stale) ∧ (upPair .stale).pair.state ≠ .unpaired ∧
    accepted up 0 0x0907 (cNone 0x0907) (lenIs (cNone 0x0907) 0) [] .pf false ∧ pairIdle up :=
  ⟨accepted_signed (by decide), idle_of (by decide), by decide, accepted_signed (by decide), idle_of (by decide)⟩
theorem test_w_coordMove : accepted (upPair .active) 0 0x0908 (cNone 0x0908) (lenIs (cNone 0x0908) 0) [] .co false ∧
    accepted (upPair .stale) 0 0x0908 (cNone 0x0908) (lenIs (cNone 0x0908) 0) [] .co false ∧ (upPair .stale).linked = false ∧
    (upPair .active).linked = true := ⟨accepted_signed (by decide), accepted_signed (by decide), by decide⟩

/-- Cycle 4 ships and its records are read; REPL_COMMIT has gone out at 99 ms; cycle 5 waits. -/
def upShip (c : Option (Word32 × Nat)) (w : Option Word32) : State :=
  { upPair .active with cyc := { up.cyc with cycle := 6, shipping := some 4, committed := c, closedWait := w } }
theorem test_w_close : (upPair .active).mayClose = true ∧ upFull.mayClose = false ∧ (upPair .active).waiting = [] ∧
    (upPair .active).regions.flatMap (fun r => r.2.dirty.map (·.1)) = [] ∧ (upPair .active).dram.check = [] ∧
    (upPair .active).ships = true ∧ (upPair .active).cyc.shipping = none ∧ (upShip none none).cyc.shipping = some 4 ∧
    (upShip none none).mayClose = true := by decide
theorem test_w_close_dirty : ∀ s, s = (upPair .active).modRegion 0 (fun r => { r with dirty := [(100, [0, 255])] }) →
    s.mayClose = true ∧ s.waiting = [] ∧ s.regions.flatMap (fun r => r.2.dirty.map (·.1)) = [100] ∧ s.dram.check = [] ∧ s.memOk := by
  intro s h; subst h; exact ⟨by decide, by decide, by decide, by decide, rfl⟩
theorem test_w_commit : (upShip none none).cyc.unread = [] ∧ (upShip none none).cyc.committed = none ∧
    (upPair .active).cyc.shipping = none ∧
    (∀ s, s = ({ upShip none none with
        home := { up.home with reserved := [(100, 767, true)] }
        cyc := { (upShip none none).cyc with unread := [(100, [0])] } } : State) →
      s.cyc.unread.all (fun e => (s.reservation e.1).isSome) = true ∧ s.cyc.unread ≠ []) := by
  refine ⟨by decide, by decide, by decide, ?_⟩; intro s h; subst h; decide
theorem test_w_replCommit : (upPair .standby).recordsPending 4 = false ∧ (upPair .active).pair.state ≠ .standby ∧
    (upPair .active).pair.state ≠ .syncing ∧
    (((upPair .standby).modRegion 0 (fun r => { r with recBuf := [(⟨100, 4, 0, true, true, [], []⟩, 0x20)] })).recordsPending 4) = true := by
  decide
theorem test_w_ack : (upShip (some (4, ms 99)) none).cyc.committed = some (4, ms 99) ∧ (upShip none none).cyc.committed = none ∧
    (upShip (some (4, ms 99)) none).cyc.closeNow = false ∧ pairIdle (upShip (some (4, ms 99)) none) ∧
    pairIdle (upShip (some (4, ms 99)) (some 5)) ∧ (upShip (some (4, ms 99)) (some 5)).cyc.closedWait = some 5 ∧
    (upShip (some (4, ms 99)) none).mirrors = true ∧ (upShip (some (4, ms 99)) none).pair.formTag = none ∧
    (∀ s, s = ({ upShip (some (4, ms 99)) none with
        cyc := { (upShip (some (4, ms 99)) none).cyc with heldAns := [⟨4, some (outT (.host 0)), none⟩] } } : State) →
      s.cyc.heldAns = [⟨4, some (outT (.host 0)), none⟩] ∧ pairIdle { s with cyc := { s.cyc with heldAns := [] } }) := by
  refine ⟨by decide, by decide, by decide, idle_of (by decide), idle_of (by decide), by decide, by decide, by decide, ?_⟩
  intro s h; subst h; exact ⟨rfl, idle_of (by decide)⟩
/-- A resynchronisation with region 11's cursor at its start. -/
def upSweep (rein : Bool) : State :=
  (({ upPair .solo with
      cyc := { up.cyc with resync := true }
      fabric := if rein then (upPair .solo).fabric else up.fabric } : State).modRegion 11
    (fun r => { r with cursor := some (11 * stackGranules) }))
theorem test_w_sweep : (upSweep true).cyc.resync = true ∧ ((upSweep true).region 11).cursor = some (11 * stackGranules) ∧
    (upSweep true).reinUp = true ∧ (upSweep false).reinUp = false ∧ ((upSweep true).region 11).inReset = false ∧
    (upSweep true).cyc.lastCycle = none ∧ (upSweep true).mayClose = true ∧ (∀ g, g < 12 → ((upSweep true).region g).inReset = false) ∧
    (upSweep true).waiting = [] ∧ (upSweep true).pair.state = .solo ∧ up.cyc.resync = false := by decide

/-- Records of granule 100: cycle 4, whole and valid. -/
def rec4 (n : Nat) : GranuleRec := ⟨100, BitVec.ofNat 32 n, 7, true, true, [], List.replicate granuleBytes 1#8⟩
theorem test_w_records : (rec4 4).granule < 12 * stackGranules ∧ ((upPair .standby).region (regionOfGranule 100)).inReset = false ∧
    (upPair .standby).takesRecords = true ∧ (upPair .active).takesRecords = false ∧
    later 32 ((upPair .standby).cycleNo 100) (rec4 4).cycle.toNat = false ∧
    later 32 ((upPair .standby).cycleNo 100) (rec4 0xFFFFFFFF).cycle.toNat = true ∧ (upPair .standby).memOk ∧
    outOfPool (100 * granuleBytes) granuleBytes = false ∧ (rec4 4).data.length = granuleBytes ∧
    (upPair .active).cyc.mends = [] ∧ (State.reset.region 0).inReset = true ∧ (upPair .standby).recordHeld (rec4 4) = false ∧
    (upPair .active).recordHeld (rec4 4) = false ∧ afind (upPair .standby).dram.check (cycleAddr 100 / 32) = none ∧
    ((upPair .standby).modRegion 0 (fun g => { g with fills := [100] })).recordHeld (rec4 4) = true ∧
    (rec4 4).valid = true ∧ (rec4 4).whole = true :=
  ⟨by decide, by decide, by decide, by decide, by decide, by decide, rfl, by decide, List.length_replicate, by decide⟩
theorem test_w_marks : chanWordPa (0 / 32) (0 % 32) 0 < poolEnd ∧ poolEnd ≤ chanWordPa (383 / 32) (383 % 32) (2 ^ 30) := by decide
theorem test_w_mirrorIn : up.pair.state = .unpaired ∧ (upPair .standby).takesRecords = true ∧
    (parseNode (encodeNode ⟨1#64, true, 0, true, 1, 64, 8⟩)).isSome = true ∧ (upPair .standby).pair.state = .standby ∧
    (upPair .standby).pair.accepted ≠ some 6 ∧ (upPair .standby).pair.act = false ∧ (upPair .standby).waitersOn 0x0903 0 = [] ∧
    (∀ s, s = { upPair .standby with pair := { (upPair .standby).pair with lines := [true, false, true, true] } } →
      s.partnerAct = true) ∧ (∀ s, s = { upPair .standby with pair := { (upPair .standby).pair with lines := [true, true, true, true] } } →
      s.partnerAct = false) ∧ CtlMirror.role ≠ .form 6 := by
  refine ⟨by decide, by decide, by decide, by decide, by decide, by decide, by decide, ?_, ?_, by decide⟩ <;> (intro s h; subst h; decide)
theorem test_w_digests : ∀ d, d = (upPair .standby).digestOf 100 false → ((upPair .standby).region (regionOfGranule 100)).inReset = false ∧
    (upPair .standby).pair.state = .standby ∧ (upPair .standby).dram.check = [] ∧ (upPair .standby).digestOf 100 false = d ∧
    (upPair .solo).pair.state ≠ .standby ∧ (upPair .solo).pair.state ≠ .active ∧ (upPair .active).pair.state = .active ∧
    ((upPair .active).region (regionOfGranule 100)).inReset = false ∧ (upPair .active).dram.check = [] ∧
    (upPair .active).inFlight 100 = false ∧
    (∀ s, s = (upPair .active).modRegion 0 (fun r => { r with dirty := [(100, [])] }) → s.inFlight 100 = true) ∧
    ({ d with poison := true } : Digest).poison = true := by
  intro d h; subst h
  refine ⟨by decide, by decide, by decide, rfl, by decide, by decide, by decide, by decide, by decide, by decide, ?_, rfl⟩
  intro s h; subst h; decide
theorem test_w_divergent : ∀ d, d = { (upPair .standby).digestOf 100 false with stamp := 1 } →
    (upPair .standby).digestOf 100 false ≠ d ∧ ((upPair .standby).digestOf 100 false).cycle = d.cycle := by
  intro d h; subst h
  refine ⟨fun e => ?_, rfl⟩
  have h1 := congrArg Digest.stamp e
  have h2 : ((upPair .standby).digestOf 100 false).stamp = 0 := by decide
  rw [h2] at h1
  exact absurd h1 (by decide)

/-- A digest of an earlier cycle, and of a later one, than the standby's granule has. -/
theorem test_w_digestOrder : ∀ d, d = { (upPair .standby).digestOf 100 false with cycle := 0xFFFFFFFF } →
    d.poison = false ∧ ((upPair .standby).digestOf 100 false).cycle ≠ d.cycle ∧
    later 32 ((upPair .standby).digestOf 100 false).cycle.toNat d.cycle.toNat = true ∧
    later 32 ((upPair .standby).digestOf 100 false).cycle.toNat ({ d with cycle := 1 } : Digest).cycle.toNat = false := by
  intro d h; subst h
  have h1 : ((upPair .standby).digestOf 100 false).cycle = 0 := by decide
  rw [h1]; exact ⟨by decide, by decide, by decide, by decide⟩

/-- Heartbeats: paths with seven misses, the partner's frame, a lease answer awaited. -/
def upHb (st : PairState) (rein sb : Nat) : State :=
  { upPair st with pair := { (upPair st).pair with
      rein := { (upPair st).pair.rein with misses := rein, degraded := false }
      sb := { (upPair st).pair.sb with misses := sb, degraded := false }
      la := { (upPair st).pair.la with answered := false, seq := 9 }, keepAlive := ms 95 } }
theorem test_w_heartbeats : (upPair .active).complexUp 0 = true ∧ State.reset.complexUp 0 = false ∧ frameOk [] = false ∧
    frameOk (hbFrame 1 0 77 0 0) = true ∧ up.pair.state = .unpaired ∧ (upHb .standby 7 0).pair.rein.misses = 7 ∧
    (upHb .standby 7 0).pair.rein.degraded = false ∧ (upHb .standby 7 0).pair.sb.misses = 0 ∧ (upHb .standby 0 6).pair.sb.misses < 7 ∧
    (upHb .active 0 0).pair.la.hold = true ∧ (upHb .active 0 0).pair.la.answered = false ∧ (upHb .active 0 0).pair.la.seq = 9 ∧
    (up.pair.la.hold = false) ∧ (upPair .active).pair.co.hold = true := by decide
/-- A frame of an UNPAIRED package's lines, the eighth in a row that agrees; and the third that does not. -/
theorem test_w_hbUnpaired : ∀ f, f = hbFrame 1 (if up.pair.index = 0 then 5 else 10) 77 0 0 ∨ f = hbFrame 1 0 77 0 0 →
    frameOk f = true ∧ up.pair.state = .unpaired ∧
    leNat (slice f 1 1).reverse / 16 < 8 := by
  intro f h; rcases h with h | h <;> subst h <;> decide
/-- The eighth miss of one path of a SYNCING package whose other path is silent, the lease's view over or not. -/
theorem test_w_hbSyncing : ∀ v, v = 0 ∨ v = ms 200 → ∀ s, s = ({ upHb .syncing 7 8 with pair := { (upHb .syncing 7 8).pair with
      la := { (upHb .syncing 7 8).pair.la with viewEnd := v } } } : State) →
    s.pair.state = .syncing ∧ 8 ≤ s.pair.rein.misses + 1 ∧ 8 ≤ s.pair.sb.misses ∧ s.pair.la.viewEnd = v := by
  intro v h s hs; subst hs; rcases h with h | h <;> subst h <;> decide
def upLapse (solo : Bool) (lines : List Bool) : State :=
  { upPair .active with pair := { (upPair .active).pair with lines := lines, act := true }
                        cyc := { up.cyc with soloEn := solo } }
theorem test_w_lapse : (upLapse true [true, true, true, true]).pair.la.hold = true ∧ pairIdle (upLapse true [true, true, true, true]) ∧
    pairIdle (upLapse true [true, true, true, false]) ∧ pairIdle (upLapse false [true, true, true, true]) ∧
    (upLapse true [true, true, true, true]).boot.por = false ∧ (upLapse true [true, true, true, true]).partnerReq = false ∧
    (upLapse true [true, true, true, false]).partnerReq = true ∧ (upLapse true [true, true, true, true]).cyc.soloEn = true ∧
    (upLapse false [true, true, true, true]).cyc.soloEn = false ∧ (upLapse false [true, true, true, true]).pair.state = .active :=
  ⟨by decide, idle_of (by decide), idle_of (by decide), idle_of (by decide), by decide⟩
def upTake (st : PairState) (lines : List Bool) : State :=
  { upPair st with
    pair := { (upPair st).pair with holding := true, lapseReq := false, lines := lines, fault := false
                                    rein := { (upPair st).pair.rein with misses := 8 }, sb := { (upPair st).pair.sb with misses := 8 } }
    cyc := { up.cyc with takeoverEn := true } }
theorem test_w_takeover : (upTake .solo [true, true, true, true]).pair.holding = true ∧ pairIdle (upTake .solo [true, true, true, true]) ∧
    (upTake .solo [true, true, true, true]).partnerReq = false ∧ (upTake .standby []).pair.silent = true ∧
    (upTake .standby []).cyc.takeoverEn = true ∧ (upTake .standby []).complexUp 0 = true ∧
    (upTake .takeover [true, true, true, true]).partnerAct = false ∧ (upTake .takeover [true, false, true, true]).partnerAct = true ∧
    (upTake .takeover [true, true, true, true]).regions.all (fun e => e.2.recBuf.isEmpty) = true ∧
    (upTake .takeover [true, true, true, true]).exts.all (fun e => e.2.mirrored) = true ∧
    (upTake .takeover [true, true, true, true]).pair.state = .takeover ∧ (upTake .takeover []).pair.claimAt = none ∧
    (∀ s, s = { upTake .takeover [true, true, true, true] with pair := { (upTake .takeover [true, true, true, true]).pair with claimAt := some (ms 99) } } →
      s.pair.claimAt = some (ms 99) ∧ (∀ g, g < 12 → s.heldRecords g = []) ∧ s.complexUp 0 = true) ∧
    (∀ s, s = { upTake .standby [true, true, true, true] with pair := { (upTake .standby [true, true, true, true]).pair with claimDue := true } } →
      s.pair.claimDue = true ∧ s.partnerAct = false ∧ s.complexUp 0 = true ∧ s.pair.state = .standby) :=
  ⟨by decide, idle_of (by decide), by decide, by decide, by decide, by decide, by decide, by decide, by decide, by decide, by decide, by decide,
   fun s h => by subst h; decide, fun s h => by subst h; decide⟩
theorem test_w_cinchLines : (upLapse true [true, true, true, true]).pair.act = true ∧ (upLapse true [true, true, true, true]).pair.index < 2 ∧
    pairIdle (upLapse true [true, true, true, true]) ∧ (upPair .solo).pair.state = .solo ∧
    (∀ s, s = ({ upLapse true [] with pair := { (upLapse true []).pair with la := { (upLapse true []).pair.la with lapsed := true } } } : State) →
      s.pair.act = true ∧ s.pair.la.lapsed = true ∧ s.boot.por = false ∧ s.pair.state = .active ∧ pairIdle s) := by
  refine ⟨by decide, by decide, idle_of (by decide), by decide, ?_⟩
  intro s h; subst h; exact ⟨rfl, rfl, rfl, rfl, idle_of (by decide)⟩
def upNoRein (ok : Nat) : State :=
  { upPair .standby with
    fabric := { up.fabric with reinDownAt := some 5 }
    pair := { (upPair .standby).pair with sb := { (upPair .standby).pair.sb with lastOk := ok } } }
theorem test_w_reinDown : (upNoRein 5).pair.state = .standby ∧ (upNoRein 5).fabric.reinDownAt = some 5 ∧
    5 ≤ (upNoRein 5).pair.sb.lastOk ∧ (upNoRein 4).pair.sb.lastOk < 5 ∧ (∀ s, s = { upNoRein 5 with fabric := { up.fabric with reinDownAt := none } } → s.fabric.reinDownAt = none) := by
  refine ⟨by decide, by decide, by decide, by decide, ?_⟩; intro s h; subst h; rfl
/-- ACT driven in TAKEOVER while the part's own line reads high. -/
theorem test_w_claimFails : ∀ s, s = ({ upTake .takeover [true, true, true, true] with
      pair := { (upTake .takeover [true, true, true, true]).pair with act := true, claimAt := some (ms 99) } } : State) →
    s.pair.state = .takeover ∧ s.boot.por = false ∧ s.pair.act = true ∧ s.pair.index < 2 ∧ pairIdle s := by
  intro s h; subst h; exact ⟨rfl, rfl, rfl, by decide, idle_of (by decide)⟩

/-! ### Witnesses of the obligations on power-up, boot, resets, chain and power control -/

def upBoot (phase : Nat) (flash : Bytes) : State := { up with boot := { up.boot with phase := phase, flash := flash } }
theorem test_w_rails : State.reset.boot.por = true ∧ Rail.core ∉ State.reset.boot.rails ∧ Rail.core ≠ .aux ∧
    State.reset.boot.railErr = false ∧ State.reset.aon.tripHeld = false ∧ State.reset.aon.auxUp = true ∧
    State.reset.aon.bypassOpen = false ∧ up.boot.por = false ∧ (upBoot 2 []).boot.phase = 2 ∧
    bootImageErr (upBoot 2 []).boot.flash ≠ 0 ∧ (upBoot 6 []).boot.phase = 6 ∧ (upBoot 6 []).boot.pkgReset = none := by decide
/-- A stack's training and the flash: a rail up out of order, stack 6 untrained, an image half programmed. -/
theorem test_w_untrained : ∀ s, s = ({ up with boot := { up.boot with phase := 2, untrained := [6] } } : State) →
    s.boot.por = false ∧ s.boot.phase = 2 ∧ 6 ∈ s.boot.untrained ∧ (upBoot 2 []).boot.untrained = [] ∧ (upBoot 2 []).flashErr ≠ 0 := by
  intro s h; subst h; decide
theorem test_w_railOrder : isMain .link = true ∧ State.reset.boot.por = true ∧ State.reset.boot.railErr = false ∧ isMain .ref = false ∧
    (∀ s, s = ({ State.reset with boot := { State.reset.boot with railErr := true, rails := [.io, .link] } } : State) →
      s.boot.railErr = true ∧ Rail.link ∈ s.boot.rails ∧ Rail.core ∉ s.boot.rails) := by
  refine ⟨by decide, by decide, by decide, by decide, ?_⟩; intro s h; subst h; decide
theorem test_w_programming : ∀ s, s = ({ up with boot := { up.boot with partFlash := true, fwBusy := some (0, [1#8]) } } : State) →
    s.boot.fwBusy = some (0, [1#8]) ∧ s.boot.fwBusy ≠ none ∧ up.boot.fwBusy = none ∧ s.complexUp (complexOf 0) = true := by
  intro s h; subst h; decide
def cFw (n : Nat) : Cmd := signCmd (cmdOf 0 (opBytes 1 0 n)) key1 0x0A01
theorem test_w_fwUpdate : accepted up 0 0x0A01 (cFw 64) (lenIs (cFw 64) 16) (opRsv 0) .pf false ∧ alone up 0 ∧
    ((taken up 0 0x0A01 (cFw 64)).readOp (.cmd 0) 0 (opArg (cFw 64) 0)).1 = 0 ∧
    (bootImageErr ((taken up 0 0x0A01 (cFw 64)).readOp (.cmd 0) 0 (opArg (cFw 64) 0)).2.1 = 1 ∨
      bootImageErr ((taken up 0 0x0A01 (cFw 64)).readOp (.cmd 0) 0 (opArg (cFw 64) 0)).2.1 = 2) ∧
    accepted (upBoot 7 []) 0 0x0A02 (cNone 0x0A02) (lenIs (cNone 0x0A02) 0) [] .pf false ∧ alone (upBoot 7 []) 0 ∧
    (upBoot 7 []).flashErr ≠ 0 :=
  ⟨accepted_signed (by decide), ⟨rfl, rfl⟩, by decide, .inr (by decide), accepted_signed (by decide), ⟨rfl, rfl⟩, by decide⟩
/-- A recovery image whose header passes every check before the root keys. -/
def imgForm : Bytes := toLe 4 0x5A545331 ++ zeros 8 ++ toLe 4 4096 ++ zeros 8188
theorem test_w_imageForm : bootImageErr imgForm ≠ 1 ∧ bootImageErr imgForm ≠ 2 := by
  have h1 : imgForm.isEmpty = false := by decide
  have h2 : bootImageForm imgForm = true := by decide
  constructor <;> (unfold bootImageErr; rw [h1, h2]; simp only [Bool.not_true, Bool.false_eq_true, if_false]
                   split; · decide
                   · split; · decide
                     · split <;> decide)
theorem test_w_pll : (PllId.m 11) ∉ up.boot.unlocked ∧ up.waiting = [] ∧ (PllId.k 0) ∉ up.boot.unlocked ∧ up.kAbsent = false ∧
    (PllId.l 3) ∉ up.boot.unlocked ∧ (∀ s, s = ({ up with boot := { up.boot with unlocked := [.m 11] } } : State) →
      (PllId.m 11).wf = true ∧ .m 11 ∈ s.boot.unlocked) := by
  refine ⟨by decide, by decide, by decide, by decide, by decide, ?_⟩; intro s h; subst h; decide
/-- One request behind each kind of PLL: a zero-fill of stack 11, a line of region 0, link die 3 and host port 1. -/
def wBehind (o : Origin) (y : Why) : Waiting := ⟨0, pktRd 3 0 64, o, y, 0, ms 99, none, 7, [], false, none⟩
theorem test_w_pll_waiting : (PllId.m 11).wf = true ∧ (PllId.m 11) ∉ up.boot.unlocked ∧
    (wBehind (.fabric 0) (.fillRoom 11)).inStack 11 = true ∧ (PllId.c 0).wf = true ∧ (PllId.c 0) ∉ up.boot.unlocked ∧ 5 / 6 = 0 ∧
    (wBehind (.fabric 0) (.miss 5 2 0)).inRegion 5 = true ∧ (PllId.l 3).wf = true ∧ (PllId.l 3) ∉ up.boot.unlocked ∧
    (wBehind (.fabric 3) (.fillRoom 11)).fromDie 3 = true ∧ (PllId.p 1).wf = true ∧ (PllId.p 1) ∉ up.boot.unlocked ∧
    (wBehind (.hostIo 256) (.fillRoom 11)).fromPort 1 = true ∧
    (∀ x y z, (wBehind (.hostIo 256) (.fillRoom 11)).origin ≠ .local x y z) ∧
    (∀ x y z, (wBehind (.fabric 3) (.fillRoom 11)).origin ≠ .local x y z) := by
  refine ⟨by decide, by decide, by decide, by decide, by decide, by decide, by decide, by decide, by decide, by decide,
    by decide, by decide, by decide, ?_, ?_⟩ <;> (intro x y z h; cases h)

theorem clusters_up : ∀ c, c < 96 → (up.cluster c).queue = [] ∧ (up.cluster c).heldOut = [] ∧ (up.cluster c).transit = [] := by decide
theorem quiet_region (g : Nat) (hg : g < 12) (h : (up.region g).commit = [] ∧ up.heldRecords g = [] ∧ (up.region g).miss = [] ∧
    (up.region g).scrub = none) : regionQuiet up g := by
  refine ⟨h.1, h.2.1, h.2.2.1, h.2.2.2, fun w hw => by simp [up, State.reset] at hw, fun c hc => ?_⟩
  have hc2 : c < 96 := by omega
  exact ⟨fun e _ => ⟨rfl, rfl⟩, (clusters_up c hc2).1, (clusters_up c hc2).2.1,
    fun d hd => (clusters_up d (by omega)).2.2, rfl⟩
theorem test_w_regionReset : (up.region 11).inReset = false ∧ regionQuiet up 11 ∧ (State.reset.region 11).inReset = true ∧
    accepted up 0 0x0B02 (signCmd (cmdOf 0 [11#8]) key1 0x0B02) (lenIs (signCmd (cmdOf 0 [11#8]) key1 0x0B02) 1) [] .pf false ∧
    arg (signCmd (cmdOf 0 [11#8]) key1 0x0B02) 0 1 = 11 :=
  ⟨by decide, quiet_region 11 (by decide) (by decide), by decide, accepted_signed (by decide), by decide⟩
theorem test_w_regionEnd : ∀ s, s = up.modRegion 11 (fun r => { r with inReset := true }) → s.packageHeld = false ∧ s.ready = true ∧
    (s.region 11).inReset = true ∧ s.dram.check = [] ∧ s.memOk ∧ s.home.inbox = [] ∧ s.streams = [] ∧
    (∀ k, k / 8 = 11 → (s.cluster k).inReset = false) ∧ s.waitersOn 0x0B02 11 = [] := by
  intro s h; subst h
  refine ⟨by decide, by decide, by decide, by decide, rfl, by decide, by decide, fun k hk => ?_, by decide⟩
  have : ∀ k, k < 96 → (up.cluster k).inReset = false := by decide
  exact this k (by omega)
/-- Nothing outstanding: a package whose regions are in reset. -/
def upHeld (c : Option (PkgResetCause × Nat)) : State :=
  { up with regions := [], boot := { up.boot with resetDue := some (.pf, ms 101), pkgReset := c, dram := [1#8], digest := imageDigest [1#8] } }
theorem quiet_held (c : Option (PkgResetCause × Nat)) : packageQuiet (upHeld c) :=
  ⟨rfl, by intro e he; simp [upHeld, up, State.reset] at he, rfl, rfl, fun g _ => ⟨rfl, rfl⟩⟩
theorem test_w_packageReset : (upHeld none).boot.resetDue = some (.pf, ms 101) ∧ (upHeld none).boot.por = false ∧
    (upHeld none).packageHeld = false ∧ packageQuiet (upHeld none) ∧
    accepted up 0 0x0B03 (cNone 0x0B03) (lenIs (cNone 0x0B03) 0) [] .resetRight false ∧ alone up 0 ∧ up.packageHeld = false ∧
    up.boot.resetDue = none :=
  ⟨by decide, by decide, by decide, quiet_held none, accepted_signed (by decide), ⟨rfl, rfl⟩, by decide⟩
def upEnd (flash dram : Bytes) : State :=
  { up with boot := { up.boot with phase := 1, pkgReset := some (.pf, ms 99), dram := dram, digest := imageDigest dram, flash := flash } }
theorem calm_end (flash dram : Bytes) (d : Nat) : complexCalm (upEnd flash dram) d := by
  refine ⟨rfl, ?_, ?_⟩
  · intro v hv
    simp only [upEnd, up, List.mem_cons, List.not_mem_nil, or_false] at hv
    rcases hv with h | h <;> subst h <;> rfl
  · intro v hv _
    simp only [upEnd, up, List.mem_cons, List.not_mem_nil, or_false] at hv
    rcases hv with h | h <;> subst h <;> rfl
theorem end_digest (f d : Bytes) : imageDigest (upEnd f d).boot.dram = (upEnd f d).boot.digest := rfl
theorem test_w_packageEnd : (upEnd [] [1#8]).boot.pkgReset = some (.pf, ms 99) ∧ (upEnd [] [1#8]).aon.tripHeld = false ∧
    (upEnd [] [1#8]).boot.phase = 1 ∧ (upEnd [] [1#8]).boot.dram ≠ [] ∧
    imageDigest (upEnd [] [1#8]).boot.dram = (upEnd [] [1#8]).boot.digest ∧
    (∀ g, g < 12 → ((upEnd [] [1#8]).region g).inReset = false) ∧ (∀ d, complexCalm (upEnd [] [1#8]) d) ∧
    (upEnd [] []).boot.dram = [] ∧ (upEnd [] []).flashErr ≠ 0 ∧ (upEnd [] []).boot.untrained = [] ∧ up.boot.pkgReset = none :=
  ⟨by decide, by decide, by decide, by decide, end_digest _ _, by decide, calm_end _ _, by decide, by decide, by decide, by decide⟩
theorem test_w_hostPort : (up.hostPort 0).perst = false ∧ up.agent 0 = none ∧ up.streams = [] ∧
    (({ State.reset with hostPorts := [(1, ⟨true, true, 0, 255⟩)] } : State).hostPort 1).perst = true ∧
    complexCalm ({ State.reset with hostPorts := [(1, ⟨true, true, 0, 255⟩)] } : State) 1 ∧ up.hostLive 0 = true ∧ (up.hostPort 0).totalVfs = 255 ∧ 2 ∉ (up.complex 0).held ∧ up.ready = true ∧
    (∀ s, s = ({ up with complexes := [(1, { Complex.reset with held := [2] })] } : State) → 2 ∈ (s.complex 1).held ∧ (s.complex 1).interrupted = []) ∧
    (upHeld (some (.pf, ms 99))).packageHeld = true ∧ ((upHeld (some (.pf, ms 99))).hostPort 0).perst = false :=
  ⟨by decide, by decide, by decide, by decide,
   ⟨rfl, by intro v hv; simp [State.reset] at hv, by intro v hv; simp [State.reset] at hv⟩, by decide, by decide, by decide, by decide,
   (by intro s h; subst h; decide), by decide, by decide⟩
theorem test_w_programs : (upBoot 6 []).memOk ∧ (upBoot 6 []).dram.check = [] ∧ (upEnd [] [1#8]).memOk ∧ (upEnd [] [1#8]).dram.check = [] :=
  ⟨rfl, rfl, rfl, rfl⟩
theorem test_w_flr : (3 : Nat) < 512 ∧ up.viExists 3 = true ∧ up.hostLive (complexOf 3) = true ∧ up.viExists 9 = false := by decide
theorem test_w_trip : (ThermalUnit.stack 11).wf = true ∧ up.aon.tripHeld = false ∧ up.aon.auxUp = true ∧ up.boot.por = false ∧
    (upHeld (some (.pf, ms 99))).packageHeld = true ∧ packageQuiet (upHeld none) ∧ (upHeld none).packageHeld = false :=
  ⟨by decide, by decide, by decide, by decide, by decide, quiet_held none, by decide⟩

/-- A frame with its CRC. -/
def frameOf (cmd addr bc reg data : Nat) : Word64 :=
  let f : Word64 := BitVec.ofNat 64 (cmd * 2 ^ 60 + addr * 2 ^ 54 + bc * 2 ^ 53 + reg * 2 ^ 40 + data * 2 ^ 8)
  BitVec.ofNat 64 (f.toNat + frameCrc f)
theorem test_w_frames : frameFor up (frameOf 1 0 0 0 63) 1 ∧ frameData (frameOf 1 0 0 0 63) = 63 ∧ frameFor up (frameOf 1 0 0 0 64) 1 ∧
    64 ≤ frameData (frameOf 1 0 0 0 64) ∧ frameFor up (frameOf 2 0 0 2 0) 2 ∧ up.addressedBy (frameOf 2 0 0 2 0) = true ∧
    (up.chainReg 2).isSome = true ∧ up.chainReg 3 = none ∧ up.addressedBy (frameOf 2 5 0 2 0) = false := by
  unfold frameFor; decide
theorem test_w_frameWrites : ∀ reg data, (reg, data) = (0x10, 7) ∨ (reg, data) = (0x11, 0x103) ∨ (reg, data) = (0x11, 0x200) ∨
      (reg, data) = (0x01, 9) ∨ (reg, data) = (0x02, 9) →
    frameFor up (frameOf 3 0 1 reg data) 3 ∧ frameReg (frameOf 3 0 1 reg data) = reg ∧ frameData (frameOf 3 0 1 reg data) = data ∧
    frameBcast (frameOf 3 0 1 reg data) = true ∧ frameFor up (frameOf 4 0 0 0 0) 4 ∧ frameFor up (frameOf 4 0 0 0 1) 4 ∧
    ¬ frameFor up (frameOf 3 0 1 reg data + 1) 3 := by
  intro reg data h
  rcases h with h | h | h | h | h <;> cases h <;> (unfold frameFor; decide)
theorem test_w_chain : tbit 0x103 8 = true ∧ tbit 0x103 9 = false ∧ tbit 0x200 8 = false ∧ tbit 0x200 9 = true ∧
    9 % 4096 ≠ (upPair .standby).aon.nodeId ∧ (upPair .standby).pair.state ≠ .unpaired ∧ up.aon.rootIdx < 12 ∧
    up.aon.staged.length ≤ 12 ∧ up.boot.phase = 7 ∧ up.aon.rootOp = none ∧ up.aon.roots.getD 3 (none, false) = (none, false) ∧
    upSession.aon.roots.getD 0 (none, false) ≠ (none, false) ∧
    up.boot.por = false ∧ up.packageHeld = false ∧ up.boot.resetDue = none ∧ up.aon.addressed = true ∧
    (∀ s, s = ({ up with aon := { up.aon with rootOp := some (3, none) } } : State) → s.aon.rootOp = some (3, none) ∧ 3 < s.aon.roots.length) := by
  refine ⟨by decide, by decide, by decide, by decide, by decide, by decide, by decide, by decide, by decide, by decide, by decide,
    by decide, by decide, by decide, by decide, by decide, ?_⟩
  intro s h; subst h; decide
theorem test_w_power : (State.reset.power.capEn = true ∧ 10 * State.reset.power.capW < 2641) ∧ (State.reset.diePower 0).stall = none ∧
    (∀ s, s = ({ up with power := { up.power with dies := [(1, { up.diePower 1 with stall := some (ms 101), step := 6 })], brake := true } } : State) →
      (s.diePower 1).stall = some (ms 101) ∧ s.power.brake = true ∧ (s.diePower 1).step < 7) ∧
    (∀ s, s = ({ up with power := { up.power with capEn := false } } : State) → s.power.brake = false ∧ s.power.capEn = false ∧
      s.power.hotStacks = []) := by
  refine ⟨by decide, by decide, ?_, ?_⟩ <;> intro s h <;> subst h <;> decide

/-- A tile whose rank is at base + SKEW: rank 8 of a stream of nine tiles with SKEW 8. -/
def upSkew : State :=
  { up with streams := [(9, { xRed with desc := { dRed with elems := 9 * 4096, stateOp := ⟨1, 0, 9 * 16384⟩ } })] }
theorem test_w_skew : ∀ x, upSkew.stream 9 = some x → ∀ p, p = { pktCol 1 with addr := mkAddr 5 1 (8 * 16384) } →
    x.tileOf p.addr = some 8 ∧ x.base (upSkew.regionTiles x 0) + x.desc.skew ≤ rankIn (upSkew.regionTiles x 0) 8 ∧
    x.completed.contains 8 = false ∧ x.closedStatus = none ∧ upSkew.admits p = true ∧ p.contrib < x.desc.nContrib ∧
    x.anchorAt.contains 0 = true ∧ x.anchor = some 0 ∧ stackOf ((upSkew.win 1).basePa + addrOffset p.addr) = 0 ∧
    upSkew.cyc.roleStep = 0 ∧ upSkew.pair.state.refusal = none ∧ addrNode p.addr = upSkew.aon.nodeId ∧
    (upSkew.node p.srcNode).colSrc = true ∧ addrWindow p.addr = 1 ∧ addrOffset p.addr = 8 * 16384 ∧ (upSkew.win 1).kind = 1 ∧
    (upSkew.win 1).writeEn = true ∧ upSkew.stackServes 0 = true ∧ 8 * 16384 + max 1 (upSkew.targetSpan p) ≤ (upSkew.win 1).limit ∧
    upSkew.checkData (upSkew.win 1).extentId ((upSkew.win 1).basePa + 8 * 16384) (max 1 (upSkew.targetSpan p)) = none ∧
    p.fmt ≤ 7 ∧ p.poison = false := by
  intro x hx p hp; cases hx; subst hp; decide
theorem test_w_skew_premises : upSkew.numbersFresh ∧ ∀ p x, p = { pktCol 1 with addr := mkAddr 5 1 (8 * 16384) } →
    upSkew.stream 9 = some x → p.payload.length = fmtBytes p.fmt (x.desc.tileElems 8) := by
  refine ⟨fun w hw => by simp [upSkew, up, State.reset] at hw, ?_⟩
  intro p x hp hx; cases hx; subst hp
  exact List.length_replicate
/-- Below the window: tile 0 of `upTile`, open in slot 63 of cluster 1 with more contributions to come. -/
theorem test_w_inside : ∀ x, (upTile 3).stream 9 = some x →
    rankIn ((upTile 3).regionTiles x 0) 0 < x.base ((upTile 3).regionTiles x 0) + x.desc.skew ∧
    (upTile 3).sramPlace 9 0 0 = some (1, 63) ∧ afind ((upTile 3).cluster 1).tiles 63 = some tileRed ∧
    ((upTile 3).cluster 1).inReset = false ∧ (upTile 3).boot.unlocked.contains (.a (1 / 48)) = false ∧
    tileRed.count + 1 ≠ x.desc.nContrib := by
  intro x hx; cases hx; decide
theorem test_w_idRegs : up.pageLive 0 = true ∧ (1023 : Nat) < 1024 := by decide

/-! ### Ill-formed commands: one term for each check of WellFormed, which it refuses, beside the last operand in range -/

def cGood : Cmd := ⟨0, 0, 0, 0, 0, 0, zeros 16, zeros 24, []⟩
def cBad : Cmd := { cGood with check := [] }
theorem test_cmd_wf : cGood.wf = true ∧ cBad.wf = false ∧ ({ cGood with rsv18 := zeros 17 } : Cmd).wf = false ∧
    ({ cGood with body := zeros 4033 } : Cmd).wf = false ∧ ({ cGood with body := zeros 4032 } : Cmd).wf = true := by decide
theorem test_pkt_wf : Pkt.zero.wf = true ∧
    [{ Pkt.zero with ptype := 256 }, { Pkt.zero with weir := 4 }, { Pkt.zero with dstNode := 4096 }, { Pkt.zero with dpg := 4 },
     { Pkt.zero with srcNode := 4096 }, { Pkt.zero with ssg := 4 }, { Pkt.zero with msgIdx := 1 }, { Pkt.zero with msgLast := 16 },
     { Pkt.zero with status := 16 }, { Pkt.zero with budget := 256 }, { Pkt.zero with load := 8 }, { Pkt.zero with subop := 256 },
     { Pkt.zero with opLen := 2 ^ 32 }, { Pkt.zero with cstream := 2 ^ 14 }, { Pkt.zero with contrib := 4096 },
     { Pkt.zero with fmt := 16 }, { Pkt.zero with maxExp := 32768 }, { Pkt.zero with maxExp := -32769 },
     { Pkt.zero with aop := 256 }].all (fun p => !p.wf) = true := by decide
theorem test_pkt_wf_payload : ({ Pkt.zero with payload := List.replicate 65537 0#8 } : Pkt).wf = false := by
  have h : (List.replicate 65537 (0#8 : BitVec 8)).length = 65537 := List.length_replicate
  unfold Pkt.wf
  rw [h]
  simp
theorem test_parts_wf : [(⟨0, .fabricRead 8, 0, 1⟩ : ChanReq), ⟨0, .atomic, 0xD800000000, 1⟩, ⟨0, .atomic, 0, 0⟩,
      ⟨0, .atomic, 255, 2⟩, ⟨0, .atomic, 256, 1⟩].all (fun r => !r.wf 0) = true ∧ (⟨0, .atomic, 256, 1⟩ : ChanReq).wf 1 = true ∧
    (⟨false, [none, none]⟩ : FecRead).wf = false ∧ (⟨false, [some 16]⟩ : FecRead).wf = false ∧
    [(⟨14155776, 0, 0, false, true, [], []⟩ : GranuleRec), ⟨0, 0, 0, true, false, [256], zeros 256⟩, ⟨0, 0, 0, true, true, [], []⟩,
      ⟨0, 0, 0, true, false, [255], []⟩].all (fun r => !r.wf) = true ∧
    [CtlMirror.ext 65536 (zeros 16), .ext 0 [], .revoke 65536, .win 1024 (zeros 32), .win 0 [], .winClass 1024 0, .winClass 0 8,
      .table 1024 0 [], .table 0 0 [[]], .lease 1024 true 0, .agent 256 0 0 true, .agent 0 4096 0 true, .agent 0 0 1024 true,
      .prog 256 0 [], .prog 0 1024 [], .progFree 256, .viSched 1024 (zeros 8), .viSched 0 [], .node 4096 (zeros 16), .node 0 [],
      .key 1024 none 0, .eq 1024 0 0, .pairCtl 1, .form 4096, .keep [14155776], .mend 14155776 true].all (fun m => !m.wf) = true ∧
    [PllId.a 2, .c 2, .m 12, .l 4, .p 2, .k 2].all (fun k => !k.wf) = true ∧
    [ThermalUnit.coreDie 2, .linkDie 4, .stack 12].all (fun u => !u.wf) = true ∧ (⟨1, 1024, 0, []⟩ : SpdmVendor).wf = false := by decide
theorem test_wf_cmdNop :
    ([Instr.cmdNop, Instr.logRead, Instr.crcRun, Instr.keyChange, Instr.viEnable, Instr.viDisable, Instr.progPolicySet,
    Instr.leaseOpen, Instr.leaseRenew, Instr.leaseClose, Instr.extGrant, Instr.extRevoke, Instr.extQuery, Instr.winSet,
    Instr.winClassSet, Instr.tblUpdate, Instr.tblMissReply, Instr.nodeSet, Instr.cohAgentAdd, Instr.cohAgentRemove,
    Instr.cohSet, Instr.stepSubmit, Instr.stepCancel, Instr.stepScan, Instr.stepStampSet, Instr.progLoad,
    Instr.progUnload, Instr.engineSet, Instr.clusterStats, Instr.memSet, Instr.fordSet, Instr.memRemap, Instr.memStats,
    Instr.memRemapList, Instr.scrubStart, Instr.scrubAbort, Instr.linkSet, Instr.linkStats, Instr.xportSet,
    Instr.xportStats, Instr.schedSet, Instr.viSchedSet, Instr.schedStats, Instr.pairForm, Instr.pairAccept,
    Instr.pairRole, Instr.pairResync, Instr.pairMend, Instr.pairSet, Instr.pairDissolve, Instr.pairCoordMove,
    Instr.pairSync, Instr.pairStats, Instr.fwUpdate, Instr.fwActivate, Instr.chainAddrSet, Instr.clusterReset,
    Instr.regionReset, Instr.pkgReset].all (fun f => !(f 1024 cGood).wf && !(f 1023 cBad).wf && (f 1023 cGood).wf)) = true := by decide
theorem test_wf_winSetDrained :
    ([Instr.winSetDrained, Instr.tblUpdateDrained, Instr.goWhileBusy, Instr.leaseExpire, Instr.eventRecordWrite,
    Instr.flr].all (fun f => !(f 1024).wf && (f 1023).wf)) = true := by decide
theorem test_wf_statusW1c :
    ([Instr.statusW1c, Instr.eqEnable, Instr.eqHeadWrite].all (fun f => !(f 1024 0).wf && (f 1023 0).wf)) = true := by decide
theorem test_wf_counterReadClear :
    (!(Instr.counterReadClear 1024 (0x10000 - 1)).wf && !(Instr.counterReadClear 1023 0x10000).wf &&
    (Instr.counterReadClear 1023 (0x10000 - 1)).wf) = true := by decide
theorem test_wf_registerWrite :
    (!(Instr.registerWrite 1024 (0x10000 - 1) 8 0).wf && !(Instr.registerWrite 1023 0x10000 8 0).wf &&
    !(Instr.registerWrite 1023 (0x10000 - 1) 3 0).wf && (Instr.registerWrite 1023 (0x10000 - 1) 8 0).wf &&
    !(Instr.registerWrite 1026 0x4000020 8 0).wf && !(Instr.registerWrite 1025 0x4000100 8 0).wf &&
    (Instr.registerWrite 1025 0x40000E0 8 0).wf) = true := by decide
theorem test_wf_cvuInit :
    ([Instr.cvuInit, Instr.cvuCheck, Instr.cvuData32, Instr.cvuStatusClear].all (fun f => !(f 2 3 0).wf && !(f 1 4 0).wf
    && (f 1 3 0).wf)) = true := by decide
theorem test_wf_cvuData8 :
    (!(Instr.cvuData8 2 3 0).wf && !(Instr.cvuData8 1 4 0).wf && (Instr.cvuData8 1 3 0).wf) = true := by decide
theorem test_wf_cvuData16 :
    (!(Instr.cvuData16 2 3 0).wf && !(Instr.cvuData16 1 4 0).wf && (Instr.cvuData16 1 3 0).wf) = true := by decide
theorem test_wf_rcvChunk :
    ([Instr.rcvChunk, Instr.rcvEnd].all (fun f => !(f 2 (2 ^ 32 - 1)).wf && !(f 1 (2 ^ 32)).wf && (f 1 (2 ^ 32 -
    1)).wf)) = true := by decide
theorem test_wf_keySet :
    ([Instr.keySet, Instr.keyClear, Instr.signKeySet].all (fun f => !(f 2 ⟨1, 0, 0, []⟩).wf && !(f 1 ⟨1, 1024, 0,
    []⟩).wf && (f 1 ⟨1, 0, 0, []⟩).wf)) = true := by decide
theorem test_wf_spdmRequest :
    (!(Instr.spdmRequest 2 .close).wf && (Instr.spdmRequest 1 .close).wf) = true := by decide
theorem test_wf_pageAccess :
    ([Instr.pageAccess, Instr.rdUnc, Instr.rdShared, Instr.rdOwn, Instr.claim, Instr.wrUnc, Instr.atomicFetchAdd,
    Instr.atomicSwap, Instr.atomicCas, Instr.atomicFp32Add, Instr.atomicFetchMax, Instr.copy, Instr.wrBack,
    Instr.evictClean, Instr.contribution, Instr.maxExpReport, Instr.gatherWr, Instr.rspI, Instr.rspS, Instr.rspEvicted,
    Instr.answer].all (fun f => !(f { Pkt.zero with dstNode := 4096 }).wf && (f Pkt.zero).wf)) = true := by decide
theorem test_wf_replRec :
    ([Instr.replRec, Instr.resyncRec].all (fun f => !(f ⟨14155776, 0, 0, false, true, [], []⟩).wf && (f ⟨0, 0, 0, false,
    true, [], []⟩).wf)) = true := by decide
theorem test_wf_ctlMirror :
    (!(Instr.ctlMirror (.form 4096)).wf && (Instr.ctlMirror .role).wf) = true := by decide
theorem test_wf_thermalTrip :
    (!(Instr.thermalTrip (.stack 12)).wf && (Instr.thermalTrip (.stack 0)).wf) = true := by decide
theorem test_wf_pllLockLoss :
    (!(Instr.pllLockLoss (.k 2)).wf && (Instr.pllLockLoss (.k 1)).wf) = true := by decide
theorem test_wf_anchorReceive :
    (!(Instr.anchorReceive 12 16383 127).wf && !(Instr.anchorReceive 11 16384 127).wf && !(Instr.anchorReceive 11 16383
    128).wf && !(Instr.anchorReceive 11 16383 (-129)).wf && (Instr.anchorReceive 11 16383 127).wf) = true := by decide
theorem test_wf_hostMemRead :
    (!(Instr.hostMemRead 1024 1023 (2 ^ 42 - 1) 4096 (2 ^ 32 - 1)).wf && !(Instr.hostMemRead 1023 1024 (2 ^ 42 - 1) 4096
    (2 ^ 32 - 1)).wf && !(Instr.hostMemRead 1023 1023 (2 ^ 42) 4096 (2 ^ 32 - 1)).wf && !(Instr.hostMemRead 1023 1023 (2
    ^ 42 - 1) (4096 + 1) (2 ^ 32 - 1)).wf && !(Instr.hostMemRead 1023 1023 (2 ^ 42 - 1) 4096 (2 ^ 32)).wf &&
    (Instr.hostMemRead 1023 1023 (2 ^ 42 - 1) 4096 (2 ^ 32 - 1)).wf) = true := by decide
theorem test_wf_hostMemWrite :
    (!(Instr.hostMemWrite 1024 1023 (2 ^ 42 - 1) (zeros 4096)).wf && !(Instr.hostMemWrite 1023 1024 (2 ^ 42 - 1) (zeros
    4096)).wf && !(Instr.hostMemWrite 1023 1023 (2 ^ 42) (zeros 4096)).wf && !(Instr.hostMemWrite 1023 1023 (2 ^ 42 - 1)
    (zeros 4097)).wf && (Instr.hostMemWrite 1023 1023 (2 ^ 42 - 1) (zeros 4096)).wf) = true := by decide
theorem test_wf_memRd :
    (!(Instr.memRd 2 (2 ^ 32 - 1) .any (2 ^ 40 - 1)).wf && !(Instr.memRd 1 (2 ^ 32) .any (2 ^ 40 - 1)).wf &&
    !(Instr.memRd 1 (2 ^ 32 - 1) .any (2 ^ 40)).wf && (Instr.memRd 1 (2 ^ 32 - 1) .any (2 ^ 40 - 1)).wf) = true := by decide
theorem test_wf_memWr :
    (!(Instr.memWr 2 (2 ^ 32 - 1) (2 ^ 40 - 1) (zeros 64)).wf && !(Instr.memWr 1 (2 ^ 32) (2 ^ 40 - 1) (zeros 64)).wf &&
    !(Instr.memWr 1 (2 ^ 32 - 1) (2 ^ 40) (zeros 64)).wf && !(Instr.memWr 1 (2 ^ 32 - 1) (2 ^ 40 - 1) (zeros 65)).wf &&
    (Instr.memWr 1 (2 ^ 32 - 1) (2 ^ 40 - 1) (zeros 64)).wf) = true := by decide
theorem test_wf_memClnEvct :
    ([Instr.memClnEvct, Instr.biRspS, Instr.biRspI, Instr.biConflict].all (fun f => !(f 2 (2 ^ 40 - 1)).wf && !(f 1 (2 ^
    40)).wf && (f 1 (2 ^ 40 - 1)).wf)) = true := by decide
theorem test_wf_parkedRequestServe :
    ([Instr.parkedRequestServe, Instr.lostDirtyMarkDone].all (fun f => !(f 14495514624).wf && (f 14495514623).wf)) = true := by decide
theorem test_wf_snoopTimeout :
    (!(Instr.snoopTimeout 14495514624 255).wf && !(Instr.snoopTimeout 14495514623 256).wf && (Instr.snoopTimeout
    14495514623 255).wf) = true := by decide
theorem test_wf_fillDone :
    ([Instr.fillDone, Instr.stampWrite].all (fun f => !(f 14155776).wf && (f 14155775).wf)) = true := by decide
theorem test_wf_missLimitExpire :
    (!(Instr.missLimitExpire 12 1023 (2 ^ 42 - 1)).wf && !(Instr.missLimitExpire 11 1024 (2 ^ 42 - 1)).wf &&
    !(Instr.missLimitExpire 11 1023 (2 ^ 42)).wf && (Instr.missLimitExpire 11 1023 (2 ^ 42 - 1)).wf) = true := by decide
theorem test_wf_revokeDrainStart :
    ([Instr.revokeDrainStart, Instr.revokeDrainEnd, Instr.revokeClear, Instr.revokeSnoopWaitEnd].all (fun f => !(f
    65536).wf && (f 65535).wf)) = true := by decide
theorem test_wf_engineTakeTile :
    ([Instr.engineTakeTile, Instr.progReloadDone, Instr.tileProgramEnd, Instr.commitBatchAccept, Instr.tileWatchdog].all
    (fun f => !(f 768).wf && (f 767).wf)) = true := by decide
theorem test_wf_stealRecordArrive :
    ([Instr.stealRecordArrive, Instr.clusterResetFault, Instr.clusterResetEnd].all (fun f => !(f 96).wf && (f 95).wf)) = true := by decide
theorem test_wf_lambRatioCompute :
    (!(Instr.lambRatioCompute 16384 (2 ^ 32 - 1)).wf && !(Instr.lambRatioCompute 16383 (2 ^ 32)).wf &&
    (Instr.lambRatioCompute 16383 (2 ^ 32 - 1)).wf) = true := by decide
theorem test_wf_streamEnd :
    (!(Instr.streamEnd 16384).wf && (Instr.streamEnd 16383).wf) = true := by decide
theorem test_wf_engineFault :
    (!(Instr.engineFault 768 .watchdog).wf && (Instr.engineFault 767 .watchdog).wf) = true := by decide
theorem test_wf_selfTestDone :
    (!(Instr.selfTestDone 768 false).wf && (Instr.selfTestDone 767 false).wf) = true := by decide
theorem test_wf_nop :
    ([Instr.nop, Instr.vadd, Instr.vsub, Instr.vmul, Instr.vfma, Instr.vfnma, Instr.vdiv, Instr.vsqrt, Instr.vmin,
    Instr.vmax, Instr.vabs, Instr.vneg, Instr.vmov, Instr.vsel, Instr.vbcast, Instr.vext, Instr.vins, Instr.vand,
    Instr.vor, Instr.vxor, Instr.vshl, Instr.vshr, Instr.vcmp, Instr.pand, Instr.por, Instr.pnot, Instr.pset,
    Instr.vcvt, Instr.pacc, Instr.pget, Instr.pres, Instr.vpacc, Instr.vpget, Instr.sadd, Instr.ssub, Instr.smul,
    Instr.sfma, Instr.sdiv, Instr.ssqrt, Instr.smin, Instr.smax, Instr.siadd, Instr.sisub, Instr.sand, Instr.sor,
    Instr.sshl, Instr.sshr, Instr.smovi, Instr.ins, Instr.outs, Instr.vld, Instr.vst, Instr.vldb, Instr.sld,
    Instr.sst].all (fun f => !(f 768 ⟨0, false, 0, 0, 0, 0, 0, 0, 0⟩).wf && (f 767 ⟨0, false, 0, 0, 0, 0, 0, 0, 0⟩).wf)) = true := by decide
theorem test_wf_regionResetFault :
    ([Instr.regionResetFault, Instr.regionResetEnd, Instr.wbAckRefresh, Instr.loadUpdate, Instr.scrubPassEnd,
    Instr.resyncCursorSave, Instr.weirPaceRelease].all (fun f => !(f 12).wf && (f 11).wf)) = true := by decide
theorem test_wf_flowUnitTransmit :
    ([Instr.flowUnitTransmit, Instr.down, Instr.ackTimer, Instr.nakResendTimer, Instr.replayTimer,
    Instr.creditReportTimer, Instr.auditTimer, Instr.lossOfSignal, Instr.trainAttempt, Instr.trainDone,
    Instr.trainTimeout, Instr.retrainTimeout, Instr.wEffUpdate].all (fun f => !(f 66).wf && (f 65).wf)) = true := by decide
theorem test_wf_sequencedUnitReceive :
    ([Instr.sequencedUnitReceive, Instr.controlUnitReceive].all (fun f => !(f 66 (zeros 256) ⟨false, [some 15]⟩).wf &&
    !(f 65 (zeros 257) ⟨false, [some 15]⟩).wf && !(f 65 (zeros 256) ⟨true, [some 16]⟩).wf && (f 65 (zeros 256) ⟨false,
    [some 15]⟩).wf)) = true := by decide
theorem test_wf_replayStart :
    (!(Instr.replayStart 66 (2 ^ 12 - 1) (zeros 256) ⟨false, [some 15]⟩).wf && !(Instr.replayStart 65 (2 ^ 12) (zeros
    256) ⟨false, [some 15]⟩).wf && !(Instr.replayStart 65 (2 ^ 12 - 1) (zeros 257) ⟨false, [some 15]⟩).wf &&
    !(Instr.replayStart 65 (2 ^ 12 - 1) (zeros 256) ⟨true, [some 16]⟩).wf && (Instr.replayStart 65 (2 ^ 12 - 1) (zeros
    256) ⟨false, [some 15]⟩).wf) = true := by decide
theorem test_wf_ack :
    ([Instr.ack, Instr.nak].all (fun f => !(f 66 (2 ^ 12 - 1)).wf && !(f 65 (2 ^ 12)).wf && (f 65 (2 ^ 12 - 1)).wf)) = true := by decide
theorem test_wf_crdInc :
    ([Instr.crdInc, Instr.crdAudit, Instr.hb].all (fun f => !(f 66 (2 ^ 32 - 1)).wf && !(f 65 (2 ^ 32)).wf && (f 65 (2 ^
    32 - 1)).wf)) = true := by decide
theorem test_wf_crdCum :
    (!(Instr.crdCum 66 7 (2 ^ 32 - 1)).wf && !(Instr.crdCum 65 8 (2 ^ 32 - 1)).wf && !(Instr.crdCum 65 7 (2 ^ 32)).wf &&
    (Instr.crdCum 65 7 (2 ^ 32 - 1)).wf) = true := by decide
theorem test_wf_sluice :
    (!(Instr.sluice 66 7 false).wf && !(Instr.sluice 65 8 false).wf && (Instr.sluice 65 7 false).wf) = true := by decide
theorem test_wf_weirEcho :
    (!(Instr.weirEcho 66 (2 ^ 36 - 1)).wf && !(Instr.weirEcho 65 (2 ^ 36)).wf && (Instr.weirEcho 65 (2 ^ 36 - 1)).wf) = true := by decide
theorem test_wf_wbAck :
    (!(Instr.wbAck 12 255 (2 ^ 32 - 1)).wf && !(Instr.wbAck 11 256 (2 ^ 32 - 1)).wf && !(Instr.wbAck 11 255 (2 ^ 32)).wf
    && (Instr.wbAck 11 255 (2 ^ 32 - 1)).wf) = true := by decide
theorem test_wf_config :
    (!(Instr.config 66 (zeros 32)).wf && !(Instr.config 65 (zeros 33)).wf && (Instr.config 65 (zeros 32)).wf) = true := by decide
theorem test_wf_creditReturn :
    ([Instr.creditReturn, Instr.sluiceLapse].all (fun f => !(f 66 7).wf && !(f 65 8).wf && (f 65 7).wf)) = true := by decide
theorem test_wf_detectEnd :
    (!(Instr.detectEnd 66 false).wf && (Instr.detectEnd 65 false).wf) = true := by decide
theorem test_wf_sprayWeightUpdate :
    ([Instr.sprayWeightUpdate, Instr.sluiceRenew, Instr.rootProgram, Instr.rootRevoke].all (fun f => !(f 4).wf && (f
    3).wf)) = true := by decide
theorem test_wf_e2eTimeout :
    (!(Instr.e2eTimeout 4 (2 ^ 32 - 1)).wf && !(Instr.e2eTimeout 3 (2 ^ 32)).wf && (Instr.e2eTimeout 3 (2 ^ 32 - 1)).wf) = true := by decide
theorem test_wf_asmTimeout :
    (!(Instr.asmTimeout 4 4095 3 0).wf && !(Instr.asmTimeout 3 4096 3 0).wf && !(Instr.asmTimeout 3 4095 4 0).wf &&
    (Instr.asmTimeout 3 4095 3 0).wf) = true := by decide
theorem test_wf_accCtxExpire :
    (!(Instr.accCtxExpire 4 4095 3).wf && !(Instr.accCtxExpire 3 4096 3).wf && !(Instr.accCtxExpire 3 4095 4).wf &&
    (Instr.accCtxExpire 3 4095 3).wf) = true := by decide
theorem test_wf_rspHoldTimeout :
    (!(Instr.rspHoldTimeout 4096).wf && (Instr.rspHoldTimeout 4095).wf) = true := by decide
theorem test_wf_weirEchoSend :
    (!(Instr.weirEchoSend 4 4095 false).wf && !(Instr.weirEchoSend 3 4096 false).wf && (Instr.weirEchoSend 3 4095
    false).wf) = true := by decide
theorem test_wf_weirRateRecover :
    (!(Instr.weirRateRecover 4096 false).wf && (Instr.weirRateRecover 4095 false).wf) = true := by decide
theorem test_wf_shaperAdmit :
    (!(Instr.shaperAdmit 6 1023).wf && !(Instr.shaperAdmit 5 1024).wf && (Instr.shaperAdmit 5 1023).wf) = true := by decide
theorem test_wf_shaperSlotDue :
    (!(Instr.shaperSlotDue 6).wf && (Instr.shaperSlotDue 5).wf) = true := by decide
theorem test_wf_channelRequestArrive :
    (!(Instr.channelRequestArrive 384 ⟨0, .atomic, 11 * 0x1200000000 + 31 * 256, 1⟩).wf && !(Instr.channelRequestArrive
    383 ⟨0, .atomic, 0, 1⟩).wf && (Instr.channelRequestArrive 383 ⟨0, .atomic, 11 * 0x1200000000 + 31 * 256, 1⟩).wf) = true := by decide
theorem test_wf_channelIssue :
    ([Instr.channelIssue, Instr.dramReadDone, Instr.refreshSlot, Instr.catchUpRefresh, Instr.neighbourRefreshForce].all
    (fun f => !(f 384).wf && (f 383).wf)) = true := by decide
theorem test_wf_entryStarved :
    ([Instr.entryStarved, Instr.starveLimit].all (fun f => !(f 384 (2 ^ 32 - 1)).wf && !(f 383 (2 ^ 32)).wf && (f 383 (2
    ^ 32 - 1)).wf)) = true := by decide
theorem test_wf_cmpDigest :
    (!(Instr.cmpDigest 14155776 ⟨0, 0, 0, false⟩).wf && (Instr.cmpDigest 14155775 ⟨0, 0, 0, true⟩).wf) = true := by decide
theorem test_wf_cinchLineChange :
    (!(Instr.cinchLineChange 4 false).wf && (Instr.cinchLineChange 3 false).wf) = true := by decide
theorem test_wf_capEvaluate :
    (!(Instr.capEvaluate 2 65535).wf && !(Instr.capEvaluate 1 65536).wf && (Instr.capEvaluate 1 65535).wf) = true := by decide
theorem test_wf_thermalThreshold :
    (!(Instr.thermalThreshold (.stack 12) 255).wf && !(Instr.thermalThreshold (.stack 0) 256).wf &&
    (Instr.thermalThreshold (.stack 0) 255).wf) = true := by decide
theorem test_wf_smbusArp :
    (!(Instr.smbusArp 128).wf && (Instr.smbusArp 127).wf) = true := by decide
theorem test_wf_smbusWriteRefused :
    (!(Instr.smbusWriteRefused 256 0).wf && (Instr.smbusWriteRefused 255 0).wf) = true := by decide
theorem test_wf_perstAssert :
    ([Instr.perstAssert, Instr.perstDeassert, Instr.hdmDbDisable, Instr.hostLinkDown, Instr.controlWatchdog,
    Instr.hdmDbEnable, Instr.controlWatchdogEnd, Instr.aClockStallEnd].all (fun f => !(f 2).wf && (f 1).wf)) = true := by decide
theorem test_wf_sriovEnable :
    (!(Instr.sriovEnable 2 255).wf && !(Instr.sriovEnable 1 256).wf && (Instr.sriovEnable 1 255).wf) = true := by decide

/-! ### Worked examples of the rules -/

/-- The raw-window access after R12, and its channel, bank and row after R309. -/
theorem test_locate :
    stackOf 0x5A01234500 = 5 ∧ granuleOf 0x5A01234500 = 5898531 ∧ channelOf 0x5A01234500 = 31 ∧
    packageChannel 0x5A01234500 = 191 ∧ rowOf 0x5A01234500 = 9 ∧ bankOf 0x5A01234500 = 19 ∧
    64 * chanWord 0x5A01234500 = 0x91A00 ∧ chanWordPa 5 31 (0x91A00 / 64) = 0x5A01234500 ∧
    reservedOff 5 + 5 * stackBytes = 0x6BF8000000 := by decide
/-- The line of the writeback after R70: line 0x4_8D15 of stack 5, set 0x0D1C. -/
theorem test_line_set : lineSet (0x5A01234540 / 64) = 0x0D1C ∧ homeOf (0x5A01234540 / 64) = 5 := by decide

def vals3 (a b c : Val) : List Val := [a, b, c] ++ List.replicate 61 Val.zero
/-- The Riffle-4 block of 0.75, -0.06 and 0.30 after R105. -/
theorem test_riffle4 :
    encodeBlock 7 .rne 0 (vals3 (.fin false 3 4) (.fin true 6 100) (.fin false 3 10)) =
      ⟨[0x80#8, 0x7E#8, 0x97#8, 0x04#8] ++ zeros 30, 0, 0, 0⟩ := by decide
/-- The Riffle-6 block of 3.0, 0.1 and -0.2 after R105, and what it decodes to. -/
theorem test_riffle6 :
    encodeBlock 6 .rne 0 (vals3 (.fin false 3 1) (.fin false 1 10) (.fin true 2 10)) =
      ⟨[0x9A#8, 0x7F#8, 0x9F#8, 0x40#8, 0x02#8] ++ zeros 45, 0, 0, 0⟩ := by decide

def quant (a : Int) (v : Val) : Int := match quantise a v with | some x => x.1 | none => 0
/-- The two elements on the grid of anchor 0 after R120. -/
theorem test_confluence :
    toF32 (accVal 0 (quant 0 (.fin false 1 1) + quant 0 (.fin false 1 (2 ^ 24)) + quant 0 (.fin false 1 (2 ^ 24)))) =
      0x3F800001#32 ∧
    toF32 (accVal 0 (3 * quant 0 (.fin false 1 12))) = 0x3E800000#32 ∧ quant 0 (.fin false 1 12) = (2 ^ 94 - 1) / 3 := by
  decide
/-- The draw after R319: tickets 64, 32 and 16 and x = 0x9C40 pick the second candidate. -/
theorem test_draw : drawWinner (0x9C40 * 112 / 2 ^ 16) 0 [(0, 64), (3, 32), (5, 16)] = some 3 := by decide

def check9 : Bytes := [0x31#8, 0x32#8, 0x33#8, 0x34#8, 0x35#8, 0x36#8, 0x37#8, 0x38#8, 0x39#8]
/-- The check values of R407. -/
theorem test_crc : crcOf 0 check9 = 0xE3069283 ∧ crcOf 1 check9 = 0xCBF43926 ∧
    crcOf 2 check9 = 0x62EC59E3F1A4F00A ∧ crcOf 3 check9 = 0x29B1 := by decide
/-- The shaped VI after R290: 200 bytes a slot, and a count of -3,148 bytes waits 16 slots. -/
theorem test_shaper : perSlot 2 64 = 8 * 200 ∧ depthOf 2 64 = 8 * 65536 ∧
    cdiv (8 * 3148) (perSlot 2 64) = 16 := by decide

/-- The clipped-momentum image after R222, without its signature: FLAGS 1, 24,576 bytes of commit, a gather source
at offset 0, three inlets, two outlets and one phase. -/
def tenantImage : Bytes :=
  toLe 4 0x544B5031 ++ toLe 2 6 ++ [1#8, 1#8] ++ toLe 4 24576 ++ toLe 2 0 ++ toLe 2 0 ++ zeros 16 ++
  [1#8, 0#8] ++ toLe 2 0 ++ toLe 2 128 ++ [0#8, 0#8] ++
  [2#8, 0#8] ++ toLe 2 0 ++ toLe 2 128 ++ [0#8, 0#8] ++
  [2#8, 1#8] ++ toLe 2 0x4000 ++ toLe 2 64 ++ [0#8, 0#8] ++ zeros 40 ++
  [2#8, 0#8] ++ toLe 2 0 ++ toLe 2 128 ++ [0#8, 0#8] ++
  [2#8, 1#8] ++ toLe 2 0x4000 ++ toLe 2 64 ++ [1#8, 4#8] ++ zeros 16 ++
  toLe 2 0 ++ toLe 2 6 ++ zeros 4 ++ zeros 24 ++ zeros 96 ++
  toLe 8 0x1080080500400000 ++ toLe 8 0x11C0000600400000 ++ toLe 8 0x1200000700400000 ++
  toLe 8 0x10C0106200200000 ++ toLe 8 0x2002904000000000 ++ toLe 8 0x1102800184200000
/-- It passes checks 2 to 6 of R213 and is answered with counts of 768 for both kinds of step. -/
theorem test_tenant_image :
    imageForm true tenantImage = true ∧ (parseProg tenantImage).phases.all (phaseUses (parseProg tenantImage)) = true ∧
    bindsInside (parseProg tenantImage) = true ∧ tenantOnly (parseProg tenantImage) = true ∧
    (parseProg tenantImage).cycles true = 768 ∧ (parseProg tenantImage).cycles false = 768 := by decide
/-- Its words decode to the instructions of the listing. -/
theorem test_tenant_words :
    decodeTack 9 0x11C0000600400000#64 = some (.vmin 9 ⟨0, false, 0, 0, 6, 0, 0, 2, 0⟩) ∧
    decodeTack 9 0x1200000700400000#64 = some (.vmax 9 ⟨0, false, 0, 0, 7, 0, 0, 2, 0⟩) ∧
    decodeTack 9 0x10C0106200200000#64 = some (.vfma 9 ⟨0, false, 1, 1, 0x22, 0, 0, 1, 0⟩) ∧
    decodeTack 9 0x2002904000000000#64 = some (.vmov 9 ⟨0, false, 0x29, 1, 0, 0, 0, 0, 0⟩) ∧
    decodeTack 9 0x1102800184200000#64 = some (.vfnma 9 ⟨0, false, 0x28, 0, 1, 0x21, 0, 1, 0⟩) := by decide
def entryOf (n : Nat) (l : SumLoc) : QEntry := ⟨9, .fused, false, false, false, false, l, 5, n, 0⟩
/-- The thief of a victim with 16 stealable entries takes 8, and passes over those that need a buffer once it has
none (R183). -/
theorem test_steal :
    (stealPick (cdiv 16 2) 8 ((List.range 16).map (fun n => entryOf n .slot))).map (·.tile) = List.range 8 ∧
    (stealPick 3 1 [entryOf 0 .slot, entryOf 1 .slot, entryOf 2 .none, entryOf 3 .none]).map (·.tile) = [0, 2, 3] := by
  decide
/-- A frame of ENUM with DATA 0 gives the device address 0 and goes on with DATA 1 (R421). -/
theorem test_enum :
    let f : Word64 := BitVec.ofNat 64 (2 ^ 60 + frameCrc (BitVec.ofNat 64 (2 ^ 60)))
    ∃ t, exec (.enum f) up = .next t ∧ t.aon.chainAddr = 0 ∧ t.aon.addressed = true ∧
      frameData t.aon.chnOut = 1 ∧ frameCrc t.aon.chnOut = bitf t.aon.chnOut.toNat 7 0 := ⟨_, rfl, by decide⟩

/-! ### Forms that a rule turns back or holds -/

/-- Operands of VI 3 in window 1, which VI 0 owns: LOG_READ and CRC_RUN. -/
def cLog3 : Cmd := cmdOf 3 (zeros 8 ++ opBytes 1 0 64)
def cCrc3 : Cmd := cmdOf 3 (opBytes 1 0 1 ++ zeros 16)
theorem test_w_foreign : accepted up 3 0x0002 cLog3 (lenIs cLog3 24) ((0, 1, 0xFF) :: (1, 3, 0) :: opRsv 8) .any false ∧
    arg cLog3 0 1 = 0 ∧ up.foreignOp 3 (opArg cLog3 8) = true ∧
    accepted up 3 0x0003 cCrc3 (lenIs cCrc3 32) (opRsv 0 ++ [(17, 7, 0)]) .any false ∧ up.foreignOp 3 (opArg cCrc3 0) = true ∧
    up.foreignOp 0 (opArg cCrc 0) = false ∧ (up.complex 0).crcUnit 0 = some 2 :=
  ⟨accepted_plain (by decide), by decide, by decide, accepted_plain (by decide), by decide, by decide, by decide⟩
/-- Both check-value units of complex 0 in use by other functions. -/
theorem test_w_crcBusy : ∀ s, s = ({ up with complexes := [(0, { Complex.reset with crcBy := [(2, 3), (3, 4)] })] } : State) →
    accepted s 0 0x0003 cCrc (lenIs cCrc 32) (opRsv 0 ++ [(17, 7, 0)]) .any false ∧ (s.complex (complexOf 0)).crcUnit 0 = none ∧
    s.foreignOp 0 (opArg cCrc 0) = false := by
  intro s h; subst h; exact ⟨accepted_plain (by decide), by decide⟩
theorem test_w_notReady : State.reset.ready = false ∧ State.reset.viExists 0 = true ∧ up.ready = true ∧ up.complexUp 1 = true := by decide
/-- The windows that VI 0 and VI 3 may write: an unused one, one of a VI that VI 0's complex serves; VI 3 not VI 0's. -/
theorem test_w_winOwn : (up.win 5).kind = 0 ∧ complexOf (up.win 2).ownerVi = complexOf 0 ∧ isPf 0 = true ∧ isPf 3 = false ∧
    (up.win 1).ownerVi ≠ 3 ∧ mailboxFree up 3 ∧
    (∀ c, c = cmdOf 3 (cWin 1).body → checksPass up 3 0x0301 c (lenIs c 40) rsvWin .any false ∧ arg c 0 2 = 1) := by
  refine ⟨by decide, by decide, by decide, by decide, by decide, ?_, ?_⟩
  · have h : accepted up 3 0x0001 (cmdOf 3 []) (lenIs (cmdOf 3 []) 0) [] .any false := accepted_plain (by decide)
    exact h.1
  · intro c h; subst h
    have h : accepted up 3 0x0301 (cmdOf 3 (cWin 1).body) (lenIs (cmdOf 3 (cWin 1).body) 40) rsvWin .any false :=
      accepted_plain (by decide)
    exact ⟨h.2, by decide⟩
/-- Agent 2 holds no line and has a snoop to answer. -/
theorem test_w_snooped : ∀ s, s = upAgent.modHome (fun h => { h with txns := [(lineC, ⟨.evict, [⟨2, .inv, ms 101, 20, 0, true⟩], false, [], []⟩)] }) →
    accepted s 0 0x0402 (cmdOf 0 [2#8]) (lenIs (cmdOf 0 [2#8]) 1) [] .any true ∧ s.linesOf 2 = [] ∧ s.snooped 2 = true ∧
    upAgent.snooped 2 = false ∧ alone s 0 := by
  intro s h; subst h; exact ⟨accepted_plain (by decide), by decide, by decide, by decide, ⟨rfl, rfl⟩⟩
theorem test_w_submitRefused : accepted (upPair .standby) 0 0x0501 cRed (lenIs cRed 592) (descRsv (cmdBytes cRed)) .any true ∧
    (upPair .standby).pair.state.refusal = some stBOUND ∧ up.pair.state.refusal = none ∧
    (upPair .takeover).pair.state.refusal = some stRETRY := ⟨accepted_plain (by decide), by decide⟩
/-- SIGN_KEY_SET of a VI that the other complex serves; and every slot revoked. -/
theorem test_w_signKey : complexOf (256 : Nat) ≠ 0 ∧ upSession.aon.roots.all (fun r => r.1.isNone || r.2) = false ∧
    (∀ s, s = ({ upSession with aon := { up.aon with roots := [(some (List.replicate 48 1#8), true)] } } : State) →
      s.aon.roots.all (fun r => r.1.isNone || r.2) = true ∧ (s.complex 0).session = true ∧ s.complexUp 0 = true) := by
  refine ⟨by decide, by decide, ?_⟩; intro s h; subst h; decide
theorem test_w_missQuiet : upMiss.streams = [] ∧ (∀ e ∈ upMiss.engines, e.2.claim = none) := by decide
/-- The first Rein port to configure, and one beside a link that is up. -/
theorem test_w_reinConfig : (up.port 65).linkUp = false ∧ ((upPair .active).port 65).linkUp = true ∧ 129 - 64 = 65 := by decide
/-- A refresh made up 12 M-cycles after the one before; no postponement at all. -/
theorem test_w_refreshSpacing : ∀ c, c = ({ ch0 with caughtAt := some (ms 100), refPostpone := 0 } : Chan) →
    c.caughtAt = some (ms 100) ∧ c.refPostpone = 0 ∧ c.panicEn = true ∧ ch0.caughtAt = none ∧ ch0.refPostpone ≠ 0 := by
  intro c h; subst h; decide
/-- Nothing waits for a cycle to close or to be acknowledged. -/
theorem test_w_close_quiet : noCycleWait (upPair .active) ∧ noCycleWait (upShip none none) :=
  ⟨(idle_of (by decide) : pairIdle (upPair .active)).2.2.2.2.2.2.2.1, (idle_of (by decide) : pairIdle (upShip none none)).2.2.2.2.2.2.2.1⟩
/-- ACT driven with no lease held. -/
theorem test_w_actRelease : ∀ s, s = ({ upLapse true [] with pair := { (upLapse true []).pair with la := { (upLapse true []).pair.la with hold := false } } } : State) →
    s.pair.act = true ∧ s.pair.la.hold = false ∧ s.boot.por = false ∧ s.pair.state = .active ∧ pairIdle s := by
  intro s h; subst h; exact ⟨rfl, rfl, rfl, rfl, idle_of (by decide)⟩
/-- An engine with no wrong parity, and one whose scratch byte or program word at the inlet's strip has a wrong one. -/
theorem test_w_parity : ∀ i, i = Instr.ins 767 (fld5 0 0x20 0 0 0) →
    parityHolds upTack 767 runTack ctxTack i ∧ inPlace ctxTack (atIssue upTack 767 runTack ctxTack) i = true := by
  intro i h; subst h; unfold parityHolds; decide
theorem test_w_badParity : ∀ s i, s = upTack.modEngine 767 (fun e => { e with badBytes := (List.range 8).map (0x4000 * ·) }) → i = Instr.ins 767 (fld5 0 0x20 0 0 0) →
    ¬ parityHolds s 767 runTack ctxTack i ∧ issues s 767 runTack ctxTack := by
  intro s i hs h; subst hs; subst h
  refine ⟨by unfold parityHolds; decide, ?_⟩
  unfold issues; exact ⟨by decide, by decide, rfl, by decide, by decide, by decide⟩
end Sys2Proof.Tests
end

section
/-! What a read of the identity registers VI_ID and DEV_ID gives (R381, R382, R415), that neither register is
written (R380), and the decoding of a fabric address (R33). -/
namespace Sys2Proof.Machine

open Sys2Proof

/-- The two ways the model has of taking bits `hi` to `lo` out of a word agree. -/
theorem bitf_toNat_eq_extractLsb {w : Nat} (a : BitVec w) {hi lo : Nat} (h : lo ≤ hi) :
    bitf a.toNat hi lo = (a.extractLsb hi lo).toNat := by
  rw [BitVec.extractLsb_toNat, Nat.shiftRight_eq_div_pow, bitf, Nat.sub_add_comm h]

/-- A one-bit field that holds a flag is set exactly when the flag is. -/
theorem tbit_eq_of_bitf {n i : Nat} {b : Bool} (h : bitf n i i = b2n b) : tbit n i = b := by
  have hbit : n / 2 ^ i % 2 = b2n b := by simpa [bitf] using h
  cases b <;> simp [tbit, hbit, b2n]

/-! ### The ranges of the parts of VI_ID -/

theorem b2n_le_one (b : Bool) : b2n b ≤ 1 := by cases b <;> decide

theorem PairState.code_lt (p : PairState) : p.code < 8 := by cases p <;> decide

theorem complexOf_le_one (n : Nat) : complexOf n ≤ 1 := by
  unfold complexOf
  repeat' split
  all_goals decide

/-- KIND by VI number (R375, R381): 0 for the two physical functions, 1 for the virtual functions, 2 for tenants. -/
def viKind (n : Nat) : Nat := if n = 0 ∨ n = 256 then 0 else if n < 512 then 1 else 2

theorem kindField_eq_viKind {n : Nat} (hn : n < 1024) :
    (if isPf n then 0 else if isTenant n then 2 else 1) = viKind n := by
  simp only [isPf, isTenant, viKind, Bool.or_eq_true, beq_iff_eq, decide_eq_true_eq]
  repeat' split
  all_goals omega

theorem viKind_le_two (n : Nat) : viKind n ≤ 2 := by
  unfold viKind
  repeat' split
  all_goals decide

/-! ### The images of the two registers, field by field -/

/-- VI_ID by its fields (R381). Each part of the sum stays below the weight of the next, so no field carries into
another. -/
theorem State.viId_fields (s : State) {n : Nat} (hn : n < 1024) :
    s.viId n < 2 ^ 64 ∧ bitf (s.viId n) 63 48 = 0 ∧ bitf (s.viId n) 47 36 = s.aon.nodeId % 4096 ∧
    bitf (s.viId n) 35 35 = s.pair.index % 2 ∧ bitf (s.viId n) 34 32 = s.pair.state.code ∧
    bitf (s.viId n) 31 24 = 0 ∧ bitf (s.viId n) 23 23 = b2n (s.vi n).key.isSome ∧
    bitf (s.viId n) 22 22 = b2n (s.leaseRuns n) ∧ bitf (s.viId n) 21 20 = viKind n ∧
    bitf (s.viId n) 19 17 = 0 ∧ bitf (s.viId n) 16 16 = complexOf n ∧ bitf (s.viId n) 15 10 = 0 ∧
    bitf (s.viId n) 9 0 = n := by
  have hcode := s.pair.state.code_lt
  have hkeyed := b2n_le_one (s.vi n).key.isSome
  have hlease := b2n_le_one (s.leaseRuns n)
  have hcomplex := complexOf_le_one n
  have hkind := viKind_le_two n
  simp only [State.viId, bitf, kindField_eq_viKind hn]
  and_intros <;> omega

/-- DEV_ID by its fields (R382, R415). -/
theorem State.devId_fields (s : State) :
    s.devId < 2 ^ 64 ∧ bitf s.devId 63 32 = (if s.ready then s.boot.fwVer.toNat else 0) ∧
    bitf s.devId 31 16 = 0x1272 ∧ bitf s.devId 15 0 = Config.stepping.toNat := by
  have hstep := Config.stepping.isLt
  have hver : (if s.ready then s.boot.fwVer.toNat else 0) < 2 ^ 32 := by
    split
    · exact s.boot.fwVer.isLt
    · decide
  simp only [State.devId, bitf]
  generalize (if s.ready then s.boot.fwVer.toNat else 0) = ver at hver ⊢
  and_intros <;> omega

/-- At reset VI_ID holds KIND, COMPLEX and the VI number alone. -/
theorem State.viId_reset (n : Nat) :
    State.reset.viId n =
      (if isPf n then 0 else if isTenant n then 2 else 1) * 2 ^ 20 + complexOf n * 2 ^ 16 + n % 1024 := by
  simp [State.viId, State.leaseRuns, State.vi, State.reset, AlwaysOn.reset, Pair.reset, Vi.reset, PairState.code, b2n]

/-- After reset node ID, pair index, pair state, KEYED and LEASE read 0. -/
theorem State.viId_reset_fields {n : Nat} (hn : n < 1024) :
    bitf (State.reset.viId n) 47 36 = 0 ∧ bitf (State.reset.viId n) 35 32 = 0 ∧
    bitf (State.reset.viId n) 23 22 = 0 := by
  have hcomplex := complexOf_le_one n
  have hkind := viKind_le_two n
  simp only [State.viId_reset, bitf, kindField_eq_viKind hn]
  and_intros <;> omega

/-! ### Reads and writes of the two registers -/

theorem State.readReg_viId (s : State) (p : Nat) : s.readReg p 0x00 8 = (toLe 8 (s.viId p), s) := rfl

theorem State.readReg_devId (s : State) (p : Nat) : s.readReg p 0x08 8 = (toLe 8 s.devId, s) := rfl

/-- No write of 8 bytes reaches VI_ID or DEV_ID. -/
theorem State.writePage_identity (s : State) (p : Nat) {off : Nat} {data : Bytes} (hoff : off = 0x00 ∨ off = 0x08)
    (hlen : data.length = 8) : s.writePage p off data = s := by
  rcases hoff with rfl | rfl <;> simp [State.writePage, State.writeReg, hlen]

/-- A write of a live page is the access to its registers. -/
theorem exec_registerWrite_of_live {s : State} {p : Nat} (hp : p < 1024) (hlive : s.pageLive p = true)
    (off width : Nat) (v : Word64) :
    exec (.registerWrite p off width v) s = .next (s.writePage p off (toLe width v.toNat)) := by
  have hunit : decide (p < 1026) = true := decide_eq_true (by omega)
  show execRegisterWrite p off width v s = _
  rw [execRegisterWrite, hunit, onUnit_true, if_neg (by omega), if_pos hlive]

/-- A write of VI_ID or DEV_ID leaves the state as it is. -/
theorem exec_registerWrite_identity {s : State} {p : Nat} (hp : p < 1024) (hlive : s.pageLive p = true) {off : Nat}
    (hoff : off = 0x00 ∨ off = 0x08) (v : Word64) : exec (.registerWrite p off 8 v) s = .next s := by
  rw [exec_registerWrite_of_live hp hlive, s.writePage_identity p hoff (toLe_length 8 v.toNat)]

/-- Settles O58: the fields of both register images, and the accesses that read and do not write them. -/
theorem identityRegisters : Obligations.IdentityRegisters := by
  intro s p a hp
  refine ⟨⟨?_, ?_, ?_⟩, ⟨s.viId p, s.readReg_viId p, ?_⟩,
    ⟨State.reset.viId p, State.reset.readReg_viId p, State.viId_reset_fields hp⟩,
    ⟨s.devId, s.readReg_devId p, s.devId_fields⟩, ?_⟩
  · exact bitf_toNat_eq_extractLsb a (by decide)
  · exact bitf_toNat_eq_extractLsb a (by decide)
  · exact bitf_toNat_eq_extractLsb a (by decide)
  · obtain ⟨hlt, hz48, hnode, hidx, hstate, hz24, hkeyed, hlease, hkind, hz17, hcomplex, hz10, hvi⟩ :=
      s.viId_fields hp
    refine ⟨hlt, hz48, hnode, hidx, hstate, hz24, ?_, ?_, hkind, hz17, hcomplex, hz10, hvi⟩
    · rw [tbit_eq_of_bitf hkeyed, Option.isSome_iff_exists]
    · rw [tbit_eq_of_bitf hlease]
  · exact fun hlive v =>
      ⟨exec_registerWrite_identity hp hlive (.inl rfl) v, exec_registerWrite_identity hp hlive (.inr rfl) v⟩

end Sys2Proof.Machine
end

section
/-! The path of a contribution through a raw window from its arrival to the tile checks of R127 (R34, R60, R126), its
answer (R255, R281), what it adds to an open SRAM tile (R128, R130), and the skew window (R132). -/
namespace Sys2Proof.Machine

/-! ### Counters (R409) -/

/-- A counter rises by what is counted on it. -/
theorem State.count_ctr_same (s : State) (n off k : Nat) :
    tget 0 ((s.count n off k).vi n).ctr off = tget 0 (s.vi n).ctr off + BitVec.ofNat 64 k := by
  unfold State.count
  split
  · next hk => simp [hk]
  · simp

/-- Counting on one counter leaves every other one of every VI. -/
theorem State.count_ctr_other (s : State) (n k v : Nat) {off off' : Nat} (h : off' ≠ off) :
    tget 0 ((s.count n off k).vi v).ctr off' = tget 0 (s.vi v).ctr off' := by
  unfold State.count
  split
  · rfl
  · by_cases hv : v = n
    · subst hv; simp [h]
    · simp [hv]

/-! ### Sending an answer (R262, R281) -/

/-- Choosing a port moves at most the selection state of the region that chooses. -/
theorem State.spray_state (s : State) (g : Nat) (ports : List Nat) :
    (s.spray g ports).2 = s ∨ ∃ r, (s.spray g ports).2 = s.setRegion g r := by
  unfold State.spray
  dsimp only
  split
  · exact .inl rfl
  · exact .inr ⟨_, rfl⟩

/-- An answer toward a node is held, or leaves through some port. -/
theorem State.sendToNode_cases (s : State) (o : OutPkt) (n : Nat) :
    s.sendToNode o n = s.modFabric (fun f => { f with rspHold := f.rspHold ++ [(o, s.now)] }) ∨
    ∃ u port, (u = s ∨ ∃ r, u = s.setRegion o.reg r) ∧ s.sendToNode o n = u.emit { o with port := port } := by
  unfold State.sendToNode
  have hspray := s.spray_state o.reg (s.eligible vcRSP n)
  split
  · exact .inl rfl
  · split
    · next port t heq => exact .inr ⟨t, port, by simpa [heq] using hspray, rfl⟩
    · next t heq => exact .inr ⟨t, noPort, by simpa [heq] using hspray, rfl⟩

/-- Sending an answer changes no memory, cluster, stream or VI. -/
theorem State.sendToNode_frame (s : State) (o : OutPkt) (n : Nat) :
    (s.sendToNode o n).dram = s.dram ∧ (s.sendToNode o n).clusters = s.clusters ∧
    (s.sendToNode o n).streams = s.streams ∧ (s.sendToNode o n).vis = s.vis := by
  rcases s.sendToNode_cases o n with h | ⟨u, port, rfl | ⟨r, rfl⟩, h⟩ <;> rw [h] <;> exact ⟨rfl, rfl, rfl, rfl⟩

/-- Exactly one packet leaves or is held, the answer with the port it is given. -/
theorem State.sendToNode_sends (s : State) (o : OutPkt) (n : Nat) :
    ∃ port, ((s.sendToNode o n).outbox = s.outbox ++ [{ o with port := port }] ∧
        (s.sendToNode o n).fabric.rspHold = s.fabric.rspHold) ∨
      ((s.sendToNode o n).outbox = s.outbox ∧
        ∃ since, (s.sendToNode o n).fabric.rspHold = s.fabric.rspHold ++ [({ o with port := port }, since)]) := by
  rcases s.sendToNode_cases o n with h | ⟨u, port, rfl | ⟨r, rfl⟩, h⟩ <;> rw [h]
  · exact ⟨o.port, .inr ⟨rfl, s.now, rfl⟩⟩
  · exact ⟨port, .inl ⟨rfl, rfl⟩⟩
  · exact ⟨port, .inl ⟨rfl, rfl⟩⟩

/-! ### The list of requests -/

/-- With fresh numbers the next number finds the request that has just been entered under it. -/
theorem waiting_find_entered {s : State} (hf : s.numbersFresh) {w : Waiting} (hw : w.id = s.reqNo) :
    (s.waiting ++ [w]).find? (fun q => q.id == s.reqNo) = some w := by
  have hnone : s.waiting.find? (fun q => q.id == s.reqNo) = none := by
    simpa [List.find?_eq_none] using fun q hq => Nat.ne_of_lt (hf q hq)
  simp [List.find?_append, hnone, hw]

/-- Under a fresh number there is no other request. -/
theorem waiting_filter_entered {s : State} (hf : s.numbersFresh) {w : Waiting} (hw : w.id = s.reqNo) :
    (s.waiting ++ [w]).filter (fun q => q.id == s.reqNo) = [w] := by
  have hnil : s.waiting.filter (fun q => q.id == s.reqNo) = [] := by
    simpa [List.filter_eq_nil_iff] using fun q hq => Nat.ne_of_lt (hf q hq)
  simp [hnil, hw]

/-- The requests under other numbers are those from before. -/
theorem waiting_filter_others {s : State} (hf : s.numbersFresh) {w : Waiting} (hw : w.id = s.reqNo) :
    (s.waiting ++ [w]).filter (fun q => q.id != s.reqNo) = s.waiting := by
  have hall : s.waiting.filter (fun q => q.id != s.reqNo) = s.waiting := by
    simpa [List.filter_eq_self] using fun q hq => Nat.ne_of_lt (hf q hq)
  simp [hall, hw]

/-- A change of the request under a fresh number changes that one alone. -/
theorem waiting_map_entered {s : State} (hf : s.numbersFresh) {w : Waiting} (hw : w.id = s.reqNo) (f : Waiting → Waiting) :
    (s.waiting ++ [w]).map (fun q => if q.id == s.reqNo then f q else q) = s.waiting ++ [f w] := by
  have hsame : s.waiting.map (fun q => if q.id == s.reqNo then f q else q) = s.waiting :=
    (List.map_congr_left fun q hq => if_neg (by simpa using Nat.ne_of_lt (hf q hq))).trans (List.map_id' _)
  rw [List.map_append, hsame, List.map_singleton, if_pos (by simpa using hw)]

/-- A request that is alone under its number, is not parked and keeps no payload in an ingress buffer leaves the list
without a trace. -/
theorem State.dropReq_alone {s : State} {n : Nat} {w : Waiting} {others : List Waiting}
    (hmine : s.waiting.filter (fun q => q.id == n) = [w]) (hothers : s.waiting.filter (fun q => q.id != n) = others)
    (hwhy : w.why = .retryMiss) (hpayload : w.ingress = false) : s.dropReq n = { s with waiting := others } := by
  have hkept : s.waiting.filter (fun q => q.id == n && q.ingress) = [] := by
    calc s.waiting.filter (fun q => q.id == n && q.ingress)
        = (s.waiting.filter (fun q => q.id == n)).filter (fun q => q.ingress) := by
          simp only [List.filter_filter, Bool.and_comm]
      _ = [] := by rw [hmine]; simp [hpayload]
  have hunpark : s.unpark w = s := by rw [State.unpark, hwhy]
  simp only [State.dropReq, hmine, List.foldl_cons, List.foldl_nil, hunpark, hkept, hothers, List.map_nil]

/-! ### A contribution through a raw window (R34, R60, R126) -/

/-- The message of a contribution as the part enters it. -/
def asContr (p : Pkt) : Pkt := { p with ptype := 8, kind := false }

/-- The target range of a contribution through a raw window: one run of addresses (R36, R60). -/
def State.contrSeg (s : State) (p : Pkt) : Seg :=
  ⟨(s.win (addrWindow p.addr)).basePa + addrOffset p.addr, max 1 (s.targetSpan p), (s.win (addrWindow p.addr)).extentId⟩

/-- The one lookup of that range. -/
def State.contrLook (s : State) (p : Pkt) : PageLook :=
  ⟨addrWindow p.addr, 0, 0, addrOffset p.addr, max 1 (s.targetSpan p), 1, .ok (s.contrSeg p)⟩

/-- A contribution in the list of requests, with its lookups. -/
def State.contrWait (s : State) (p : Pkt) (looks : List PageLook) : Waiting :=
  ⟨s.reqNo, asContr p, .fabric p.dpg, .retryMiss, s.reqNo, s.now, some (s.win (addrWindow p.addr)).ownerVi,
   (s.win (addrWindow p.addr)).cls, looks, false, none⟩

/-- The state in which a contribution has been taken in and entered into the list of requests. -/
def State.contrIn (s : State) (p : Pkt) (looks : List PageLook) : State :=
  { s.takeIn p with reqNo := s.reqNo + 1, waiting := s.waiting ++ [s.contrWait p looks] }

/-- A contribution of a COL source that its link die admits and that passes the checks of R34 on a raw window, in a
part that serves and whose role does not change. -/
structure State.RawContr (s : State) (p : Pkt) : Prop where
  admitted : s.admits p = true
  fresh : s.numbersFresh
  noRole : s.cyc.roleStep = 0
  serving : s.pair.state.refusal = none
  here : addrNode p.addr = s.aon.nodeId
  colSrc : (s.node p.srcNode).colSrc = true
  raw : (s.win (addrWindow p.addr)).kind = 1
  writable : (s.win (addrWindow p.addr)).writeEn = true
  inLimit : addrOffset p.addr + max 1 (s.targetSpan p) ≤ (s.win (addrWindow p.addr)).limit
  dataOk : s.checkData (s.contrSeg p).ext (s.contrSeg p).pa (s.contrSeg p).len = none
  stackUp : s.stackServes (stackOf (s.contrSeg p).pa) = true

/-- Check 3 of R34 on a writable raw window. -/
theorem State.checkWindow_raw {s : State} {w o n : Nat} (hk : (s.win w).kind = 1) (hw : (s.win w).writeEn = true)
    (hl : o + n ≤ (s.win w).limit) : s.checkWindow w o n true false = none := by
  simp [State.checkWindow, hk, hw, hl]

/-- A raw window is looked up as one piece (R36). -/
theorem State.lookRange_raw {s : State} {w : Nat} (hk : (s.win w).kind = 1) (part o len kind : Nat) :
    s.lookRange part w o len kind =
      ([⟨w, part, 0, o, len, kind, .ok ⟨(s.win w).basePa + o, len, (s.win w).extentId⟩⟩], s) := by
  simp [State.lookRange, hk]

/-- One resolved page that passes checks 5 to 7 of R34 lets the access go on. -/
theorem State.judge_resolved {s : State} {l : PageLook} {x : Seg} (hl : l.res = .ok x)
    (hc : s.checkData x.ext x.pa x.len = none) : s.judge [l] = .ok := by
  have hat : s.checkAt x.ext x.pa x.len = none := by simpa [State.checkData] using hc
  simp [State.judge, State.lookOutcome, hl, hat, failedPages, firstWait]

namespace State.RawContr
variable {s : State} {p : Pkt} (h : s.RawContr p)
include h

/-- The arrival enters the contribution under the next number and looks its target up. -/
theorem contribution_eq :
    (s.takeIn p).contribution (.fabric p.dpg) (asContr p) = (s.contrIn p []).translateContr s.reqNo := by
  have hspan : addrOffset p.addr + s.targetSpan p ≤ (s.win (addrWindow p.addr)).limit := by
    have hlimit := h.inLimit
    omega
  have hcheck : (s.takeIn p).checkWindow (addrWindow (asContr p).addr) (addrOffset (asContr p).addr)
      ((s.takeIn p).targetSpan (asContr p)) true false = none :=
    State.checkWindow_raw (s := s.takeIn p) h.raw h.writable hspan
  have hrefusal : (s.takeIn p).pair.state.refusal = none := h.serving
  have hcol : (!((s.takeIn p).node (asContr p).srcNode).colSrc) = false := congrArg (! ·) h.colSrc
  have hplace : ¬(addrNode (asContr p).addr ≠ (s.takeIn p).aon.nodeId ∨
      (!((s.takeIn p).node (asContr p).srcNode).colSrc) = true) :=
    not_or.2 ⟨not_not_intro h.here, Bool.eq_false_iff.1 hcol⟩
  have hstay : (s.takeIn p).staysIn (.fabric p.dpg) (asContr p) = false := by
    have : ((s.takeIn p).win (addrWindow (asContr p).addr)).kind = 1 := h.raw
    simp [State.staysIn, this]
  rw [State.contribution, hrefusal]
  dsimp only
  rw [if_neg hplace, hcheck]
  dsimp only
  rw [State.admitReq, hstay]
  rfl

/-- The lookup finds the whole target (R36, R60). -/
theorem translateContr_eq :
    (s.contrIn p []).translateContr s.reqNo = (s.contrIn p [s.contrLook p]).judgeContr s.reqNo := by
  have hw : (s.contrIn p []).waitOf s.reqNo = some (s.contrWait p []) := waiting_find_entered h.fresh rfl
  have hrole : (s.contrIn p []).cyc.roleStep = 0 := h.noRole
  have hlook : (s.contrIn p []).lookRange 0 (addrWindow (s.contrWait p []).pkt.addr)
      (addrOffset (s.contrWait p []).pkt.addr) (max 1 ((s.contrIn p []).targetSpan (s.contrWait p []).pkt)) 1 =
      ([s.contrLook p], s.contrIn p []) := State.lookRange_raw (s := s.contrIn p []) h.raw ..
  rw [State.translateContr, hw]
  dsimp only
  rw [hrole, hlook]
  exact congrArg (fun l => State.judgeContr { s.contrIn p [] with waiting := l } s.reqNo)
    (waiting_map_entered h.fresh rfl _)

/-- The target passes checks 5 to 7 of R34 in a region that serves. -/
theorem judgeContr_eq :
    (s.contrIn p [s.contrLook p]).judgeContr s.reqNo =
      (s.contrIn p [s.contrLook p]).contrChecks s.reqNo (asContr p) [s.contrSeg p] := by
  have hw : (s.contrIn p [s.contrLook p]).waitOf s.reqNo = some (s.contrWait p [s.contrLook p]) :=
    waiting_find_entered h.fresh rfl
  have hj : (s.contrIn p [s.contrLook p]).judge [s.contrLook p] = .ok :=
    State.judge_resolved (s := s.contrIn p [s.contrLook p]) rfl h.dataOk
  have hup : (!(s.contrIn p [s.contrLook p]).stackServes (stackOf (s.contrSeg p).pa)) = false :=
    congrArg (! ·) h.stackUp
  rw [State.judgeContr, hw]
  dsimp only
  rw [show (s.contrWait p [s.contrLook p]).looks.filter (fun l => l.part == 0) = [s.contrLook p] from rfl, hj]
  dsimp only
  rw [show lookSegs [s.contrLook p] 0 = [s.contrSeg p] from rfl, List.any_cons, hup]
  rfl

/-- Such a contribution reaches the checks of R127. -/
theorem exec_eq : exec (.contribution p) s =
    .next ((s.contrIn p [s.contrLook p]).contrChecks s.reqNo (asContr p) [s.contrSeg p]) := by
  show execContribution p s = _
  rw [execContribution, if_pos h.admitted, onUnit_true]
  exact congrArg _ (h.contribution_eq.trans (h.translateContr_eq.trans h.judgeContr_eq))

end State.RawContr

/-! ### The answer to a contribution (R255, R281) -/

/-- State `u` has come from `s` with contribution `p` in the list of requests, and nothing has been sent. -/
structure State.HoldsContr (s u : State) (p : Pkt) : Prop where
  waiting : ∃ looks, u.waiting = s.waiting ++ [s.contrWait p looks]
  outbox : u.outbox = s.outbox
  rspHold : u.fabric.rspHold = s.fabric.rspHold
  aon : u.aon = s.aon

theorem State.contrIn_holdsContr (s : State) (p : Pkt) (looks : List PageLook) : s.HoldsContr (s.contrIn p looks) p :=
  ⟨⟨looks, rfl⟩, rfl, rfl, rfl⟩

namespace State.HoldsContr
variable {s u : State} {p : Pkt} (h : s.HoldsContr u p)
include h

theorem count (n off k : Nat) : s.HoldsContr (u.count n off k) p := by
  obtain ⟨hw, ho, hr, ha⟩ := h
  constructor <;> simpa

theorem modStream (n : Nat) (f : Stream → Stream) : s.HoldsContr (u.modStream n f) p :=
  ⟨h.waiting, h.outbox, h.rspHold, h.aon⟩

theorem modCluster (n : Nat) (f : Cluster → Cluster) : s.HoldsContr (u.modCluster n f) p :=
  ⟨h.waiting, h.outbox, h.rspHold, h.aon⟩

/-- The answer takes the contribution out of the list and goes toward its source. -/
theorem answerContr_eq (hf : s.numbersFresh) (g st : Nat) :
    ∃ o load, o.pkt = answerPkt s p load st 4 0 [] ∧ o.dest = .node p.srcNode ∧
      u.answerContr s.reqNo g st = State.sendToNode { u with waiting := s.waiting } o p.srcNode := by
  obtain ⟨looks, hwaiting⟩ := h.waiting
  have hfind : u.waitOf s.reqNo = some (s.contrWait p looks) := by
    rw [State.waitOf, hwaiting]; exact waiting_find_entered hf rfl
  have hdrop : u.dropReq s.reqNo = { u with waiting := s.waiting } :=
    State.dropReq_alone (w := s.contrWait p looks) (by rw [hwaiting]; exact waiting_filter_entered hf rfl)
      (by rw [hwaiting]; exact waiting_filter_others hf rfl) rfl rfl
  have hpkt : answerPkt u (asContr p) (u.region g).load st 4 0 [] = answerPkt s p (u.region g).load st 4 0 [] := by
    rw [answerPkt, h.aon]; rfl
  refine ⟨⟨_, .node p.srcNode, some (s.win (addrWindow p.addr)).ownerVi, (s.win (addrWindow p.addr)).cls, noPort,
    none, g⟩, _, hpkt, rfl, ?_⟩
  rw [State.answerContr, hfind]
  dsimp only
  rw [hdrop]
  rfl

/-- The answer is the one packet that leaves. -/
theorem answerContr_repliedTo (hf : s.numbersFresh) (g st : Nat) :
    repliedTo s (u.answerContr s.reqNo g st) p st 4 0 [] := by
  obtain ⟨o, load, hpkt, hdest, heq⟩ := h.answerContr_eq hf g st
  obtain ⟨port, hsent⟩ := State.sendToNode_sends { u with waiting := s.waiting } o p.srcNode
  refine ⟨{ o with port := port }, load, hpkt, hdest, ?_⟩
  rw [heq, ← h.outbox, ← h.rspHold]
  exact hsent

/-- The answer changes no memory, cluster, stream or VI. -/
theorem answerContr_frame (hf : s.numbersFresh) (g st : Nat) :
    (u.answerContr s.reqNo g st).dram = u.dram ∧ (u.answerContr s.reqNo g st).clusters = u.clusters ∧
    (u.answerContr s.reqNo g st).streams = u.streams ∧ (u.answerContr s.reqNo g st).vis = u.vis := by
  obtain ⟨o, load, -, -, heq⟩ := h.answerContr_eq hf g st
  rw [heq]
  exact State.sendToNode_frame ..

theorem answerContr_vi (hf : s.numbersFresh) (g st v : Nat) : (u.answerContr s.reqNo g st).vi v = u.vi v := by
  obtain ⟨-, -, -, hvis⟩ := h.answerContr_frame hf g st
  rw [State.vi, hvis, State.vi]

end State.HoldsContr

/-! ### The checks of R127 -/

/-- A contribution `p` to tile `k` of stream `x`, whose anchor is `a`, passes checks 1 to 6 of R127 in region `g`. -/
structure Stream.PassesChecks (x : Stream) (p : Pkt) (k g : Nat) (a : Int) : Prop where
  notClosed : x.closedStatus = none
  contributor : p.contrib < x.desc.nContrib
  tile : x.tileOf p.addr = some k
  format : p.fmt ≤ 7
  length : p.payload.length = fmtBytes p.fmt (x.desc.tileElems k)
  clean : p.poison = false
  anchor : x.anchor = some a
  anchorAt : x.anchorAt.contains g = true

/-- Checks 1 to 6 of R127 passed over one run of addresses leave the tile's own checks. -/
theorem State.contrChecks_of_passes {s : State} {p : Pkt} {x : Stream} {k : Nat} {a : Int} {seg : Seg}
    (hx : s.stream p.cstream = some x) (h : x.PassesChecks p k (stackOf seg.pa) a) (id : Nat) :
    s.contrChecks id (asContr p) [seg] = s.contrTile id p.cstream k (stackOf seg.pa) a x (asContr p) := by
  have hcontrib : ¬p.contrib ≥ x.desc.nContrib := Nat.not_le.2 h.contributor
  have hform : ¬(p.fmt > 7 ∨ p.payload.length ≠ fmtBytes p.fmt (x.desc.tileElems k)) :=
    not_or.2 ⟨Nat.not_lt.2 h.format, not_not_intro h.length⟩
  simp only [State.contrChecks, asContr, List.head?_cons, Option.map_some, Option.getD_some, hx, h.notClosed,
    if_neg hcontrib, h.tile, if_neg hform, h.clean, h.anchor, h.anchorAt, contiguous, Bool.not_true, Bool.and_false,
    Bool.false_eq_true, if_false]

/-- A contribution through a raw window that passes checks 1 to 6 of R127 reaches the tile's own checks. -/
theorem State.RawContr.exec_of_passes {s : State} {p : Pkt} (h : s.RawContr p) {x : Stream} {k : Nat} {a : Int}
    (hx : s.stream p.cstream = some x) (hp : x.PassesChecks p k (stackOf (s.contrSeg p).pa) a) :
    exec (.contribution p) s = .next ((s.contrIn p [s.contrLook p]).contrTile s.reqNo p.cstream k
      (stackOf (s.contrSeg p).pa) a x (asContr p)) := by
  rw [h.exec_eq, State.contrChecks_of_passes (s := s.contrIn p [s.contrLook p]) hx hp]

/-- Outside the skew window a contribution is counted and turned back (R132). -/
theorem State.contrTile_outside {s : State} {x : Stream} {k g : Nat} (hopen : x.completed.contains k = false)
    (hrank : x.base (s.regionTiles x g) + x.desc.skew ≤ rankIn (s.regionTiles x g) k) (id n : Nat) (a : Int) (p : Pkt) :
    s.contrTile id n k g a x p = (s.count x.owner 0x31D0 1).answerContr id g stRETRY := by
  rw [State.contrTile, if_neg (Bool.eq_false_iff.1 hopen), if_pos hrank]

/-- Inside the window a contribution to a tile that is open in SRAM goes to its slot (R131). -/
theorem State.contrTile_sram {s : State} {x : Stream} {n k g d m : Nat} (hopen : x.completed.contains k = false)
    (hrank : rankIn (s.regionTiles x g) k < x.base (s.regionTiles x g) + x.desc.skew)
    (hplace : s.sramPlace n k g = some (d, m)) (hup : (s.cluster d).inReset = false)
    (hclock : s.boot.unlocked.contains (.a (d / 48)) = false) (id : Nat) (a : Int) (p : Pkt) :
    s.contrTile id n k g a x p = s.addContr id n k d g a x p (.sram d m) := by
  rw [State.contrTile, if_neg (Bool.eq_false_iff.1 hopen), if_neg (Nat.not_le.2 hrank)]
  simp only [hplace, Option.map_some, Option.getD_some, hup, hclock, Bool.or_self, Bool.false_eq_true, if_false]

/-! ### Adding to an open SRAM tile (R128, R130) -/

/-- A second copy of a contribution is counted and answered so (R128). -/
theorem State.addContr_duplicate {s : State} {x : Stream} {p : Pkt} {d m : Nat} {y : Tile}
    (hy : afind (s.cluster d).tiles m = some y) (hdup : y.dup.contains p.contrib = true) (id n k c g : Nat) (a : Int) :
    s.addContr id n k c g a x p (.sram d m) = (s.count x.owner 0x31B8 1).answerContr id g stDUP := by
  simp only [State.addContr, State.tileAt, hy, hdup, if_true]

/-- Adding elements notes no contributor. -/
theorem addElems_count (a : Int) (y : Tile) (vals : List Val) : (addElems a y vals).1.count = y.count := by
  unfold addElems
  refine foldl_keeps (P := fun r : Tile × Nat × Nat => r.1.count = y.count) _ rfl fun r e hr => ?_
  dsimp only
  split <;> exact hr

/-- A tile after a contribution, with the elements that saturated and those that were not finite. -/
def addedTile (a : Int) (x : Stream) (k : Nat) (p : Pkt) (y : Tile) : Tile × Nat × Nat :=
  let r := addElems a y (decodeArray p.fmt (x.desc.tileElems k) p.payload)
  ({ r.1 with dup := insSet r.1.dup p.contrib, count := r.1.count + 1 }, r.2)

/-- The tile in its slot again, and what its stream and the stream's owner note of the contribution (R144). -/
def State.noteAdded (s : State) (n d m : Nat) (x : Stream) (r : Tile × Nat × Nat) : State :=
  ((((s.putTile (.sram d m) r.1).modStream n (fun y => { y with
    maxExp := maxOpt y.maxExp r.1.maxExp, satElems := y.satElems + r.2.1, nfElems := y.nfElems + r.2.2 })).count
    x.owner 0x31B0 1).count x.owner 0x31C0 r.2.1).count x.owner 0x31C8 r.2.2

/-- A new contribution that is not the last one of its tile is added, noted and answered (R128). -/
theorem State.addContr_more {s : State} {x : Stream} {p : Pkt} {d m : Nat} {y : Tile}
    (hy : afind (s.cluster d).tiles m = some y) (hnew : y.dup.contains p.contrib = false)
    (hmore : y.count + 1 ≠ x.desc.nContrib) (id n k c g : Nat) (a : Int) :
    s.addContr id n k c g a x p (.sram d m) =
      (s.noteAdded n d m x (addedTile a x k p y)).answerContr id g
        (if (addedTile a x k p y).2.1 = 0 ∧ (addedTile a x k p y).2.2 = 0 then stOK else stSATURATED) := by
  have hcount : (addElems a y (decodeArray p.fmt (x.desc.tileElems k) p.payload)).1.count + 1 ≠ x.desc.nContrib := by
    rwa [addElems_count]
  simp only [State.addContr, State.tileAt, hy, hnew, Bool.false_eq_true, if_false, if_neg hmore, if_neg hcount]
  rfl

theorem State.HoldsContr.noteAdded {s u : State} {p : Pkt} (h : s.HoldsContr u p) (n d m : Nat) (x : Stream)
    (r : Tile × Nat × Nat) : s.HoldsContr (u.noteAdded n d m x r) p :=
  ((((h.modCluster ..).modStream ..).count ..).count ..).count ..

/-- Adding a contribution does not count it as turned back. -/
theorem State.noteAdded_skewWait (s : State) (n d m : Nat) (x : Stream) (r : Tile × Nat × Nat) (v : Nat) :
    tget 0 ((s.noteAdded n d m x r).vi v).ctr 0x31D0 = tget 0 (s.vi v).ctr 0x31D0 :=
  (State.count_ctr_other _ _ _ _ (by decide)).trans
    ((State.count_ctr_other _ _ _ _ (by decide)).trans (State.count_ctr_other _ _ _ _ (by decide)))

/-- A contribution to an open SRAM tile that is a duplicate or not the last one is answered, and not with
`RETRY_LATER`; the skew waits of no VI are counted. -/
theorem State.HoldsContr.addContr_notLast {s u : State} {q p : Pkt} {x : Stream} {d m : Nat} {y : Tile}
    (h : s.HoldsContr u q) (hy : afind (u.cluster d).tiles m = some y)
    (hcase : y.dup.contains p.contrib = true ∨ y.count + 1 ≠ x.desc.nContrib) (id n k c g : Nat) (a : Int) :
    ∃ t st, u.addContr id n k c g a x p (.sram d m) = t.answerContr id g st ∧ st ≠ stRETRY ∧ s.HoldsContr t q ∧
      ∀ v, tget 0 (t.vi v).ctr 0x31D0 = tget 0 (u.vi v).ctr 0x31D0 := by
  cases hdup : y.dup.contains p.contrib with
  | true =>
    exact ⟨_, _, State.addContr_duplicate hy hdup .., by decide, h.count ..,
      fun v => State.count_ctr_other _ _ _ _ (by decide)⟩
  | false =>
    have hmore : y.count + 1 ≠ x.desc.nContrib := hcase.resolve_left (Bool.eq_false_iff.1 hdup)
    refine ⟨_, _, State.addContr_more hy hdup hmore .., ?_, h.noteAdded .., fun v => State.noteAdded_skewWait ..⟩
    split <;> decide

/-! ### The skew window (R132) -/

/-- Settles O59: a contribution that reaches the tile checks is turned back and counted outside the window, and inside
it is answered as a duplicate or added to its open tile, which counts it elsewhere. -/
theorem skewWindowTurnsBack : Obligations.SkewWindowTurnsBack := by
  intro s p x w o g k a hadmits hfresh hrole hserving hhere hcol hw ho hraw hwrite hg hserves hx hclosed hcontrib htile
    hat hanchor hlimit hdata hfmt hlen hclean hopen
  subst hw ho
  have hr : s.RawContr p := ⟨hadmits, hfresh, hrole, hserving, hhere, hcol, hraw, hwrite, hlimit, hdata, hg ▸ hserves⟩
  have hpass : x.PassesChecks p k (stackOf (s.contrSeg p).pa) a :=
    ⟨hclosed, hcontrib, htile, hfmt, hlen, hclean, hanchor, hg ▸ hat⟩
  have hexec := hr.exec_of_passes hx hpass
  have hin := s.contrIn_holdsContr p [s.contrLook p]
  rw [show stackOf (s.contrSeg p).pa = g from hg.symm] at hexec
  constructor
  · intro hout
    rw [State.contrTile_outside (s := s.contrIn p [s.contrLook p]) hopen hout] at hexec
    have hcounted := hin.count x.owner 0x31D0 1
    obtain ⟨hdram, hclusters, hstreams, -⟩ := hcounted.answerContr_frame hfresh g stRETRY
    refine ⟨_, hexec, hcounted.answerContr_repliedTo hfresh .., hclusters.trans (State.count_clusters ..),
      hstreams.trans (State.count_streams ..), hdram.trans (State.count_dram ..), ?_⟩
    rw [hcounted.answerContr_vi hfresh]
    exact State.count_ctr_same ..
  · intro hinside d m y hplace hy hup hclock hcase
    rw [State.contrTile_sram (s := s.contrIn p [s.contrLook p]) hopen hinside hplace hup hclock] at hexec
    obtain ⟨t, st, heq, hst, hheld, hctr⟩ := hin.addContr_notLast (p := asContr p) hy hcase s.reqNo p.cstream k d g a
    refine ⟨_, st, hexec.trans (congrArg _ heq), hheld.answerContr_repliedTo hfresh .., hst, ?_⟩
    rw [hheld.answerContr_vi hfresh]
    exact hctr x.owner

end Sys2Proof.Machine
end

section
/-! Heartbeat paths: what a heartbeat and a miss make of a path (R354), the degraded alarm (R355), and that nothing
else that a frame of PAIR_HB brings about touches its path. -/
namespace Sys2Proof.Machine

open Sys2Proof

/-! ### Events (R397) -/

@[simp] theorem State.count_page (s : State) (n off k m : Nat) : (s.count n off k).page m = s.page m := by
  unfold State.count
  split
  · rfl
  · by_cases hm : m = n
    · subst hm; exact State.modVi_page ..
    · exact congrArg Vi.page (State.modVi_other _ _ _ _ hm)

@[simp] theorem State.post_pair (s : State) (n typ status : Nat) (b : Bytes) : (s.post n typ status b).pair = s.pair := by
  unfold State.post
  split <;> simp

@[simp] theorem State.post_log (s : State) (n typ status : Nat) (b : Bytes) : (s.post n typ status b).log = s.log := by
  unfold State.post
  split <;> simp

@[simp] theorem State.post_dram (s : State) (n typ status : Nat) (b : Bytes) : (s.post n typ status b).dram = s.dram := by
  unfold State.post
  split <;> simp

/-- A queue that is enabled takes the event. -/
theorem State.post_evq_same {s : State} {n : Nat} (hen : (s.page n).eqEn = true) (typ status : Nat) (b : Bytes) :
    ((s.post n typ status b).page n).evq = (s.page n).evq ++ [⟨typ, status, b⟩] := by
  rw [State.post, if_pos hen, State.modPage_same]

theorem State.post_page_other (s : State) {n m : Nat} (h : m ≠ n) (typ status : Nat) (b : Bytes) :
    (s.post n typ status b).page m = s.page m := by
  unfold State.post
  split
  · exact State.modPage_other _ _ _ _ h
  · exact State.count_page ..

@[simp] theorem State.postPfs_pair (s : State) (typ status : Nat) (b : Bytes) : (s.postPfs typ status b).pair = s.pair := by
  simp [State.postPfs]

@[simp] theorem State.postPfs_log (s : State) (typ status : Nat) (b : Bytes) : (s.postPfs typ status b).log = s.log := by
  simp [State.postPfs]

@[simp] theorem State.postPfs_dram (s : State) (typ status : Nat) (b : Bytes) : (s.postPfs typ status b).dram = s.dram := by
  simp [State.postPfs]

/-- Each physical function with an enabled queue has the event once. -/
theorem State.postPfs_evq {s : State} {v : Nat} (hpf : v = 0 ∨ v = 256) (hen : (s.page v).eqEn = true)
    (typ status : Nat) (b : Bytes) :
    ((s.postPfs typ status b).page v).evq = (s.page v).evq ++ [⟨typ, status, b⟩] := by
  unfold State.postPfs
  rcases hpf with rfl | rfl
  · rw [State.post_page_other _ (by decide), State.post_evq_same hen]
  · have hother := s.post_page_other (n := 0) (m := 256) (by decide) typ status b
    rw [State.post_evq_same (by rwa [hother]), hother]

/-! ### The two paths -/

/-- The path a heartbeat or a miss belongs to: Rein, or PAIR_HB. -/
def Pair.path (q : Pair) (rein : Bool) : HbPath := if rein then q.rein else q.sb

def Pair.setPath (q : Pair) (rein : Bool) (p : HbPath) : Pair := if rein then { q with rein := p } else { q with sb := p }

@[simp] theorem Pair.path_setPath_same (q : Pair) (b : Bool) (p : HbPath) : (q.setPath b p).path b = p := by
  cases b <;> rfl

/-- Replacing a path leaves the state, the lines and the leases of the pair. -/
theorem Pair.setPath_frame (q : Pair) (b : Bool) (p : HbPath) :
    (q.setPath b p).state = q.state ∧ (q.setPath b p).act = q.act ∧ (q.setPath b p).req = q.req ∧
    (q.setPath b p).la = q.la ∧ (q.setPath b p).co = q.co := by
  cases b <;> exact ⟨rfl, rfl, rfl, rfl, rfl⟩

/-- The pair is silent when the path that was written and the other one both are. -/
theorem Pair.silent_setPath (q : Pair) (b : Bool) (p : HbPath) :
    (q.setPath b p).silent = decide (8 ≤ p.misses ∧ 8 ≤ (q.path !b).misses) := by
  cases b
  · exact decide_eq_decide.2 and_comm
  · rfl

/-! ### A miss (R354, R355) -/

/-- The path after a miss that is recorded in state `s`. -/
def State.missed (s : State) (b : Bool) : HbPath :=
  (s.pair.path b).miss (max s.now ((s.pair.path b).at_ + fastEdge s (us 1250)))

/-- The state at the moment of a miss, with a new record of the path and nothing else changed. -/
def State.afterMiss (s : State) (b : Bool) (p : HbPath) : State :=
  (s.reach ((s.pair.path b).at_ + fastEdge s (us 1250))).modPair (fun q => q.setPath b p)

@[simp] theorem State.afterMiss_pair (s : State) (b : Bool) (p : HbPath) : (s.afterMiss b p).pair = s.pair.setPath b p := rfl

/-- The alarm rises at the eighth miss in a row, once, while the other path delivers. -/
def State.missAlarms (s : State) (b : Bool) : Bool :=
  decide (8 ≤ (s.pair.path b).misses + 1) && !(s.pair.path b).degraded && (s.pair.path !b).misses == 0

theorem State.missAlarms_of_seven {s : State} {b : Bool} (hseven : (s.pair.path b).misses = 7)
    (hclear : (s.pair.path b).degraded = false) (hother : (s.pair.path !b).misses = 0) : s.missAlarms b = true := by
  simp [State.missAlarms, hseven, hclear, hother]

/-- What the alarm brings: a record in the log, and an event at both physical functions. -/
def State.raiseDegraded (s : State) (b : Bool) : State :=
  (s.logRec lgDEGRADED [b2n (!b)]).postPfs evPAIR_DEGRADED 0 [BitVec.ofNat 8 (b2n (!b))]

@[simp] theorem State.raiseDegraded_pair (s : State) (b : Bool) : (s.raiseDegraded b).pair = s.pair :=
  State.postPfs_pair ..

theorem State.raiseDegraded_log (s : State) (b : Bool) :
    (s.raiseDegraded b).log = s.log ++ [⟨lgDEGRADED, [b2n (!b)]⟩] :=
  State.postPfs_log ..

theorem State.raiseDegraded_dram (s : State) (b : Bool) : (s.raiseDegraded b).dram = s.dram :=
  State.postPfs_dram ..

theorem State.raiseDegraded_evq {s : State} {v : Nat} (hpf : v = 0 ∨ v = 256) (hen : (s.page v).eqEn = true) (b : Bool) :
    ((s.raiseDegraded b).page v).evq = (s.page v).evq ++ [⟨evPAIR_DEGRADED, 0, [BitVec.ofNat 8 (b2n (!b))]⟩] :=
  State.postPfs_evq (s := s.logRec lgDEGRADED [b2n (!b)]) hpf hen ..

/-- A package in SYNCING that hears its active on neither path, past its lease, becomes STALE (R368). -/
def State.leaveSyncing (s : State) : State :=
  if s.pair.state == .syncing && s.pair.silent && decide (s.pair.la.viewEnd ≤ s.now) then s.pairState .stale else s

theorem State.leaveSyncing_of_not_silent {s : State} (h : s.pair.silent = false) : s.leaveSyncing = s := by
  simp [State.leaveSyncing, h]

/-- A miss is recorded, raises the alarm where it is due, and may end SYNCING. -/
theorem exec_heartbeatMiss (s : State) (b : Bool) :
    exec (.heartbeatMiss b) s = .next (State.leaveSyncing (
      if s.missAlarms b then (s.afterMiss b { s.missed b with degraded := true }).raiseDegraded b
      else s.afterMiss b (s.missed b))) := by
  have hexec (b : Bool) : exec (.heartbeatMiss b) s = .next (State.leaveSyncing (
      (s.afterMiss b (if s.missAlarms b then { s.missed b with degraded := true } else s.missed b)).when (s.missAlarms b)
        (fun u => u.raiseDegraded b))) := by
    cases b <;> rfl
  rw [hexec, State.when]
  split <;> rfl

/-- A miss that raises the alarm comes while the other path delivers, so it ends no state. -/
theorem exec_heartbeatMiss_of_alarm {s : State} {b : Bool} (h : s.missAlarms b = true) :
    exec (.heartbeatMiss b) s = .next ((s.afterMiss b { s.missed b with degraded := true }).raiseDegraded b) := by
  have hother : (s.pair.path !b).misses = 0 := by
    simp only [State.missAlarms, Bool.and_eq_true, beq_iff_eq] at h
    exact h.2
  rw [exec_heartbeatMiss, if_pos h, State.leaveSyncing_of_not_silent]
  simp [Pair.silent_setPath, hother]

/-- Below eight misses a miss is recorded and does nothing else. -/
theorem exec_heartbeatMiss_of_few {s : State} {b : Bool} (h : (s.pair.path b).misses < 7) :
    exec (.heartbeatMiss b) s = .next (s.afterMiss b (s.missed b)) := by
  have hmiss : ¬ 8 ≤ (s.missed b).misses := by show ¬ 8 ≤ (s.pair.path b).misses + 1; omega
  have hquiet : ¬ s.missAlarms b = true := by
    simp only [State.missAlarms, Bool.and_eq_true, decide_eq_true_eq]; omega
  rw [exec_heartbeatMiss, if_neg hquiet, State.leaveSyncing_of_not_silent]
  simp [Pair.silent_setPath, hmiss]

/-! ### A heartbeat (R354, R355) -/

/-- A later count is a valid heartbeat: it ends the row of misses, and the eighth in a row clears the alarm. -/
theorem HbPath.beat_of_later {p : HbPath} {n : Word32} (h : later 32 n.toNat p.last.toNat = true) (now : Nat) :
    (p.beat n now).valid = p.valid + 1 ∧ (p.beat n now).misses = 0 ∧
    (p.beat n now).degraded = (if 8 ≤ p.valid + 1 then false else p.degraded) := by
  rw [HbPath.beat, if_pos h]
  refine ⟨rfl, rfl, ?_⟩
  split <;> simp <;> omega

theorem State.beatRein_pair (s : State) (n : Nat) :
    (s.beatRein n).pair = { s.pair with rein := s.pair.rein.beat (BitVec.ofNat 32 n) s.now } := rfl

theorem State.beatSb_pair (s : State) (n : Nat) :
    (s.beatSb n).pair = { s.pair with sb := s.pair.sb.beat (BitVec.ofNat 32 n) s.now } := rfl

/-- A heartbeat word on an ACTIVE Rein port is a heartbeat of the Rein path, and no more. -/
theorem exec_hb_rein {s : State} {p : Nat} (hp : p = 64 ∨ p = 65) (hactive : (s.port p).state = .active) (n : Nat) :
    exec (.hb p n) s = .next (s.beatRein n) := by
  show execHb p n s = _
  rw [execHb, State.onActive, hactive]
  rcases hp with rfl | rfl <;> rfl

/-! ### What leaves the pair alone -/

/-- Steps that leave the pair alone leave it alone together. -/
theorem foldl_pair {β : Type} {f : State → β → State} (hf : ∀ s b, (f s b).pair = s.pair) (l : List β) (s : State) :
    (l.foldl f s).pair = s.pair :=
  foldl_keeps (P := fun t : State => t.pair = s.pair) l rfl (fun t b ht => (hf t b).trans ht)

theorem State.countOutcomes_pair (s : State) (n : Nat) (old new : List (Nat × Outcome)) :
    (s.countOutcomes n old new).pair = s.pair :=
  foldl_pair (fun t o => by split <;> exact State.count_pair ..) _ s

theorem State.gatherAnswered_pair (s : State) (n tile d st : Nat) : (s.gatherAnswered n tile d st).pair = s.pair := by
  unfold State.gatherAnswered
  split
  · rfl
  · exact (State.count_pair ..).trans (State.countOutcomes_pair ..)

theorem State.sendToNode_pair (s : State) (o : OutPkt) (n : Nat) : (s.sendToNode o n).pair = s.pair := by
  rcases s.sendToNode_cases o n with h | ⟨u, port, rfl | ⟨r, rfl⟩, h⟩ <;> rw [h] <;> rfl

theorem State.sendAnswer_pair (s : State) (o : OutPkt) : (s.sendAnswer o).pair = s.pair := by
  unfold State.sendAnswer
  split
  · exact State.sendToNode_pair ..
  · rfl
  · rfl

theorem State.reply_pair (s : State) (g : Nat) (o : Origin) (p : Pkt) (vi : Option Nat) (cls : Nat) (hold : Bool)
    (status subop : Nat) (info : Word64) (data : Bytes) :
    (s.reply g o p vi cls hold status subop info data).pair = s.pair := by
  unfold State.reply
  repeat' split
  all_goals simp [State.sendAnswer_pair, State.gatherAnswered_pair]

theorem State.unpark_pair (s : State) (w : Waiting) : (s.unpark w).pair = s.pair := by
  unfold State.unpark
  split
  · exact foldl_pair (fun t v => State.modVi_pair ..) _ s
  · rfl

theorem State.dropReq_pair (s : State) (n : Nat) : (s.dropReq n).pair = s.pair :=
  (foldl_pair (fun _ _ => State.modDie_pair ..) _ _).trans (foldl_pair (fun t w => t.unpark_pair w) _ s)

theorem State.failReq_pair (s : State) (n st : Nat) : (s.failReq n st).pair = s.pair := by
  unfold State.failReq
  split
  · rfl
  · exact (State.reply_pair ..).trans (State.dropReq_pair ..)

theorem State.raiseMsix_pair (s : State) (vi n : Nat) : (s.raiseMsix vi n).pair = s.pair := by
  unfold State.raiseMsix
  repeat' split
  all_goals rfl

theorem State.writeAnswer_pair (s : State) (vi op : Nat) (c : Cmd) (keyed : Bool) (st : Nat) (hdr body : Bytes) :
    (s.writeAnswer vi op c keyed st hdr body).pair = s.pair := by
  unfold State.writeAnswer
  dsimp only
  repeat' split
  all_goals simp [State.raiseMsix_pair, State.endOp]

theorem State.finishCmd_pair (s : State) (vi st : Nat) (body : Bytes) : (s.finishCmd vi st body).pair = s.pair := by
  unfold State.finishCmd State.answerCmd
  split
  · refine (State.writeAnswer_pair ..).trans ?_
    split <;> rfl
  · rfl

theorem State.failMirror_pair (s : State) (vi st : Nat) : (s.failMirror vi st).pair = s.pair := by
  unfold State.failMirror
  dsimp only
  split
  · exact State.finishCmd_pair ..
  · rfl

theorem State.answerMirrored_pair (s : State) (vi st : Nat) (body : Bytes) : (s.answerMirrored vi st body).pair = s.pair := by
  unfold State.answerMirrored
  split
  · rfl
  · exact State.finishCmd_pair ..

theorem State.failRole_pair (s : State) : s.failRole.pair = s.pair :=
  foldl_pair (fun t v => t.failMirror_pair v stRETRY) _ s

/-- The end of an exchange of roles answers what it held; the role itself is not touched. -/
theorem State.endRole_pair (s : State) (held st : Nat) : (s.endRole held st).pair = s.pair := by
  have hheld (u : State) (l : List Nat) : (l.foldl (fun s i => s.failReq i held) u).pair = u.pair :=
    foldl_pair (fun t i => t.failReq_pair i held) l u
  unfold State.endRole
  dsimp only
  repeat' split
  all_goals simp [State.failRole_pair, State.answerMirrored_pair, hheld]

/-! ### A frame of PAIR_HB (R349, R350, R353) -/

/-- The report of the lines moves the cinch counts and the cinch fault alone. -/
theorem State.cinchReport_frame (s : State) (seen : Nat) :
    (s.cinchReport seen).pair.sb = s.pair.sb ∧ (s.cinchReport seen).pair.state = s.pair.state := by
  unfold State.cinchReport
  dsimp only
  repeat' split
  all_goals simp

/-- A package that does not follow its partner's state notes it and keeps its own. -/
theorem State.partnerIs_pair {s : State} (hactive : s.pair.state ≠ .active) (hsolo : s.pair.state ≠ .solo)
    (hsyncing : s.pair.state ≠ .syncing) (x : PairState) :
    (s.partnerIs x).pair = { s.pair with partnerState := some x } := by
  unfold State.partnerIs
  dsimp only
  split
  · next h => exact absurd h hactive
  · next h => exact absurd h hsolo
  · next h => exact absurd h hsolo
  · next h => exact absurd h hsyncing
  · next h => exact absurd h hsyncing
  · split
    · exact State.endRole_pair ..
    · rfl
  · rfl
  · exact State.failRole_pair _
  · rfl

/-- Without renewals, grants and a demand nothing of the pair changes. -/
theorem State.girthIn_noFlags (s : State) (seq : Word16) : (s.girthIn 0 seq).pair = s.pair := by
  unfold State.girthIn
  split
  · rfl
  · rfl

/-- A little-endian number fits its bytes. -/
theorem leNat_lt (b : Bytes) : leNat b < 256 ^ b.length := by
  induction b with
  | nil => decide
  | cons x r ih =>
    have hx := x.isLt
    simp only [leNat, List.length_cons, Nat.pow_succ]
    omega

/-- HB_COUNT, four bytes of a frame, is kept whole as a word. -/
theorem hbCount_toNat (f : Bytes) :
    (BitVec.ofNat 32 (leNat (slice f 2 4).reverse)).toNat = leNat (slice f 2 4).reverse := by
  have hlt : leNat (slice f 2 4).reverse < 2 ^ 32 := by simpa using leNat_lt (slice f 2 4).reverse
  rw [BitVec.toNat_ofNat, Nat.mod_eq_of_lt hlt]

/-- The state after a good frame, in a package that does not follow its partner's state, when the frame carries no
lease flag: a heartbeat of the PAIR_HB path, and the same pair state. -/
theorem exec_pairHbFrame {s : State} {f : Bytes} (hok : frameOk f = true) (hactive : s.pair.state ≠ .active)
    (hsolo : s.pair.state ≠ .solo) (hsyncing : s.pair.state ≠ .syncing)
    (hflags : leNat (slice f 6 2).reverse / 2 ^ 11 = 0) :
    ∃ t, exec (.pairHbFrame f) s = .next t ∧
      t.pair.sb = s.pair.sb.beat (BitVec.ofNat 32 (leNat (slice f 2 4).reverse)) s.now ∧ t.pair.state = s.pair.state := by
  show ∃ t, execPairHbFrame f s = .next t ∧ _
  rw [execPairHbFrame, onUnit_true, hok]
  dsimp only
  rw [hflags]
  obtain ⟨hsb, hstate⟩ :=
    (s.beatSb (leNat (slice f 2 4).reverse)).cinchReport_frame (leNat (slice f 1 1).reverse % 16)
  rw [State.beatSb_pair] at hsb hstate
  generalize State.cinchReport _ _ = u at hsb hstate ⊢
  have hpartner (x : PairState) : (u.partnerIs x).pair = { u.pair with partnerState := some x } :=
    State.partnerIs_pair (by rwa [hstate]) (by rwa [hstate]) (by rwa [hstate]) x
  have hgirth (v : State) (seq : Word16) : (if v.complexUp 0 then v.girthIn 0 seq else v).pair = v.pair := by
    split
    · exact State.girthIn_noFlags ..
    · rfl
  refine ⟨_, rfl, ?_⟩
  rw [if_neg (by decide), hgirth]
  split
  · rw [hpartner]
    exact ⟨hsb, hstate⟩
  · exact ⟨hsb, hstate⟩

/-! ### The degraded alarm (R355) -/

/-- Settles O60: the eighth miss on a path whose other path delivers is the alarm case of a miss, fewer misses are only
recorded, and a heartbeat on either path moves the path alone, whose eighth valid one in a row clears the alarm. -/
theorem degradedAlarmRisesAndClears : Obligations.DegradedAlarmRisesAndClears := by
  rintro s b x y rfl rfl
  refine ⟨fun hseven hclear hdelivers => ?_, fun hfew => ?_, ?_, ?_⟩
  · have hother : (s.pair.path !b).misses = 0 := by cases b <;> exact hdelivers
    refine ⟨_, exec_heartbeatMiss_of_alarm (State.missAlarms_of_seven hseven hclear hother), ?_⟩
    generalize hp : { s.missed b with degraded := true } = p
    obtain ⟨hstate, hact, hreq, hla, hco⟩ := s.pair.setPath_frame b p
    refine ⟨?_, State.raiseDegraded_log .., fun v hv hen => State.raiseDegraded_evq (s := s.afterMiss b p) hv hen b, ?_⟩
    · show (Pair.path (State.pair _) b).degraded = true
      rw [State.raiseDegraded_pair, State.afterMiss_pair, Pair.path_setPath_same, ← hp]
    · rw [State.raiseDegraded_pair, State.afterMiss_pair]
      exact ⟨hstate, hact, hreq, hla, hco, State.raiseDegraded_dram ..⟩
  · refine ⟨_, exec_heartbeatMiss_of_few hfew, ?_, rfl, rfl, (s.pair.setPath_frame b _).1⟩
    show (Pair.path (State.pair _) b).degraded = (s.pair.path b).degraded
    rw [State.afterMiss_pair, Pair.path_setPath_same]
    rfl
  · rintro rfl p n hp hactive hlater
    obtain ⟨hvalid, hmisses, hdegraded⟩ := HbPath.beat_of_later (p := s.pair.rein) (n := BitVec.ofNat 32 n)
      (by rwa [BitVec.toNat_ofNat]) s.now
    refine ⟨_, exec_hb_rein hp hactive n, ?_⟩
    rw [State.beatRein_pair]
    exact ⟨hvalid, hmisses, hdegraded, rfl⟩
  · rintro rfl f hok hlater hactive hsolo hsyncing hflags
    obtain ⟨t, hexec, hsb, hstate⟩ := exec_pairHbFrame hok hactive hsolo hsyncing hflags
    obtain ⟨hvalid, hmisses, hdegraded⟩ :=
      HbPath.beat_of_later (p := s.pair.sb) (by rwa [hbCount_toNat]) s.now
    refine ⟨t, hexec, ?_⟩
    rw [hsb]
    exact ⟨hvalid, hmisses, hdegraded, hstate⟩

end Sys2Proof.Machine
end

section
/-! A mailbox command from the doorbell to its answer: what taking it sets (R384), the checks that it passes or fails
(R387 to R389), what its answer leaves (R384, R391), and KEY_CHANGE (R393). -/
namespace Sys2Proof.Machine

open Sys2Proof

/-! ### Steps inside one VI -/

/-- Between two states VI `p` alone has moved: its MSI-X table is as before, and nothing has left but messages of its
vector 1. -/
structure State.OnlyVi (s t : State) (p : Nat) : Prop where
  others : ∀ v, v ≠ p → t.vi v = s.vi v
  pool : samePool s t
  msix : (t.page p).msix = (s.page p).msix
  sent : ∀ o ∈ t.outbox, o ∈ s.outbox ∨ o.pkt = (s.page p).msixMsg 1

theorem State.OnlyVi.refl (s : State) (p : Nat) : s.OnlyVi s p := ⟨fun _ _ => rfl, rfl, rfl, fun _ => .inl⟩

theorem State.OnlyVi.trans {s t u : State} {p : Nat} (h : s.OnlyVi t p) (h' : t.OnlyVi u p) : s.OnlyVi u p := by
  have hmsg : (t.page p).msixMsg 1 = (s.page p).msixMsg 1 := by simp [Page.msixMsg, h.msix]
  refine ⟨fun v hv => (h'.others v hv).trans (h.others v hv), h'.pool.trans h.pool, h'.msix.trans h.msix, fun o ho => ?_⟩
  rcases h'.sent o ho with hold | hnew
  · exact h.sent o hold
  · exact .inr (hnew.trans hmsg)

theorem State.OnlyVi.modVi {s : State} {p : Nat} {f : Vi → Vi} (hmsix : (f (s.vi p)).page.msix = (s.page p).msix) :
    s.OnlyVi (s.modVi p f) p :=
  ⟨fun _ hv => State.modVi_other _ _ _ _ hv, rfl, by rw [State.modVi_page, hmsix], fun _ => .inl⟩

theorem State.OnlyVi.modPage {s : State} {p : Nat} {f : Page → Page} (hmsix : (f (s.page p)).msix = (s.page p).msix) :
    s.OnlyVi (s.modPage p f) p := .modVi hmsix

theorem State.OnlyVi.endOp (s : State) (p : Nat) (who : OpWho) : s.OnlyVi (s.endOp who) p :=
  ⟨fun _ _ => rfl, rfl, rfl, fun _ => .inl⟩

/-! ### What tells a VI of its answer (R380, R397, R409) -/

/-- VI `p` is told of something: of the VI its counters, its pending vectors and its event queue alone have moved. -/
structure State.Notifies (s t : State) (p : Nat) : Prop where
  own : ∃ ctr pba evq, t.vi p = { s.vi p with ctr := ctr, page := { s.page p with pba := pba, evq := evq } }
  onlyVi : s.OnlyVi t p

namespace State.Notifies

variable {s t u : State} {p : Nat}

theorem refl (s : State) (p : Nat) : s.Notifies s p := ⟨⟨_, _, _, rfl⟩, .refl s p⟩

theorem trans (h : s.Notifies t p) (h' : t.Notifies u p) : s.Notifies u p := by
  obtain ⟨ctr, pba, evq, hown⟩ := h.own
  obtain ⟨ctr', pba', evq', hown'⟩ := h'.own
  exact ⟨⟨ctr', pba', evq', by simp [hown', State.page, hown]⟩, h.onlyVi.trans h'.onlyVi⟩

/-- A notice that is given under a condition only. -/
theorem andIf {b : Prop} [Decidable b] (h : s.Notifies t p) (h' : t.Notifies u p) :
    s.Notifies (if b then u else t) p := by
  split
  · exact h.trans h'
  · exact h

theorem count (s : State) (p off k : Nat) : s.Notifies (s.count p off k) p := by
  unfold State.count
  split
  · exact refl s p
  · exact ⟨⟨_, _, _, State.modVi_same ..⟩, .modVi rfl⟩

theorem raiseMsix (s : State) (p : Nat) : s.Notifies (s.raiseMsix p 1) p := by
  unfold State.raiseMsix
  split
  · exact refl s p
  · split
    · exact ⟨⟨_, _, _, State.modPage_vi ..⟩, .modVi rfl⟩
    · refine ⟨⟨_, _, _, rfl⟩, fun _ _ => rfl, rfl, rfl, fun o ho => ?_⟩
      rcases List.mem_append.1 ho with hold | hnew
      · exact .inl hold
      · exact .inr (congrArg OutPkt.pkt (List.mem_singleton.1 hnew))

theorem post (s : State) (p typ status : Nat) (b : Bytes) : s.Notifies (s.post p typ status b) p := by
  unfold State.post
  split
  · exact ⟨⟨_, _, _, State.modPage_vi ..⟩, .modVi rfl⟩
  · exact count ..

end State.Notifies

/-! ### The answer (R384, R389, R391) -/

/-- From `s` to `t` the command of VI `p` has been answered, under the key that the VI holds; key and counter stay. -/
structure State.Answers (s t : State) (p : Nat) (c : Cmd) (keyed : Bool) (status : Nat) (hdr body : Bytes) : Prop where
  answered : answered t p c status
  buffer : (t.page p).rspBuf = answerBytes (s.vi p).key keyed hdr body
  key : (t.vi p).key = (s.vi p).key
  counter : (t.vi p).counter = (s.vi p).counter
  onlyVi : s.OnlyVi t p

/-- An answer to the command of VI `p` is put into the response buffer. -/
def State.putAnswer (s : State) (p : Nat) (c : Cmd) (status : Nat) (bytes : Bytes) : State :=
  (s.endOp (.cmd p)).modVi p (fun v =>
    { v with cmd := none,
             page := { v.page with rspBuf := bytes, lastTag := c.tag, lastStatus := BitVec.ofNat 16 status,
                                   done := true, busy := false } })

theorem State.putAnswer_vi (s : State) (p : Nat) (c : Cmd) (status : Nat) (bytes : Bytes) :
    (s.putAnswer p c status bytes).vi p =
      { s.vi p with cmd := none,
                    page := { (s.vi p).page with rspBuf := bytes, lastTag := c.tag, lastStatus := BitVec.ofNat 16 status,
                                                 done := true, busy := false } } :=
  State.modVi_same ..

/-- An answer that is not discarded is put into the buffer, and then the VI is told of it. -/
theorem State.putAnswer_notifies_writeAnswer {s : State} {p : Nat} (hkept : (s.vi p).dropAnswer = false) (op : Nat)
    (c : Cmd) (keyed : Bool) (status : Nat) (hdr body : Bytes) :
    (s.putAnswer p c status (answerBytes (s.vi p).key keyed hdr body)).Notifies
      (s.writeAnswer p op c keyed status hdr body) p := by
  have hkept' : ¬ ((s.endOp (.cmd p)).vi p).dropAnswer = true := by
    show ¬ (s.vi p).dropAnswer = true
    simp [hkept]
  unfold State.writeAnswer
  dsimp only
  rw [if_neg hkept']
  refine .andIf (.andIf (.trans (.count _ p 0x3000 1) ?_) (.raiseMsix ..)) (.post ..)
  split
  · exact .count ..
  · split
    · exact .count ..
    · exact .refl ..

theorem State.writeAnswer_answers {s : State} {p : Nat} (hkept : (s.vi p).dropAnswer = false) (op : Nat) (c : Cmd)
    (keyed : Bool) (status : Nat) (hdr body : Bytes) :
    s.Answers (s.writeAnswer p op c keyed status hdr body) p c keyed status hdr body := by
  have hput : s.OnlyVi (s.putAnswer p c status (answerBytes (s.vi p).key keyed hdr body)) p :=
    (State.OnlyVi.endOp ..).trans (.modVi rfl)
  have hnote := State.putAnswer_notifies_writeAnswer hkept op c keyed status hdr body
  obtain ⟨ctr, pba, evq, hown⟩ := hnote.own
  rw [State.page, State.putAnswer_vi] at hown
  refine ⟨?_, ?_, ?_, ?_, hput.trans hnote.onlyVi⟩ <;> simp [Machine.answered, State.page, hown]

/-- A step inside the VI that keeps its key and its counter may come before the answer, as saving it does. -/
theorem State.Answers.of_onlyVi {s t u : State} {p : Nat} {c : Cmd} {keyed : Bool} {status : Nat} {hdr body : Bytes}
    (h : s.OnlyVi u p) (hkey : (u.vi p).key = (s.vi p).key) (hcounter : (u.vi p).counter = (s.vi p).counter)
    (ha : u.Answers t p c keyed status hdr body) : s.Answers t p c keyed status hdr body :=
  ⟨ha.answered, hkey ▸ ha.buffer, ha.key.trans hkey, ha.counter.trans hcounter, h.trans ha.onlyVi⟩

/-- The answer to a command is written out under the header of R391, saved or not. -/
theorem State.answerCmd_answers {s : State} {p : Nat} (hkept : (s.vi p).dropAnswer = false) (op : Nat) (c : Cmd)
    (keyed passed : Bool) (status detail : Nat) (body : Bytes) :
    s.Answers (s.answerCmd p op c keyed passed status detail body) p c keyed status
      (answerHeader op status body.length (if status = stOK then noField else detail) 0 c) body := by
  unfold State.answerCmd
  dsimp only
  split
  · exact .of_onlyVi (.modVi rfl) (by simp) (by simp) (State.writeAnswer_answers (by simpa using hkept) ..)
  · exact State.writeAnswer_answers hkept ..

/-- The command that VI `p` has in progress is answered. -/
theorem State.finishCmd_answers {s : State} {p : Nat} {b : Busy} (hkept : (s.vi p).dropAnswer = false)
    (hcmd : (s.vi p).cmd = some b) (status : Nat) (body : Bytes) :
    s.Answers (s.finishCmd p status body) p b.cmd b.keyed status
      (answerHeader b.opcode status body.length noField 0 b.cmd) body := by
  have h := State.answerCmd_answers hkept b.opcode b.cmd b.keyed true status noField body
  rw [ite_self] at h
  simpa only [State.finishCmd, hcmd] using h

/-! ### Taking a command (R384) -/

/-- The buffer of VI `p` holds the command, and the complex has taken it. -/
def State.buffered (s : State) (p op : Nat) (c : Cmd) : State :=
  (s.modPage p (fun g =>
    { g with cmdBuf := patch g.cmdBuf 0 (cmdHeader op c ++ c.body), busy := true, done := false, taken := false })).modPage
      p (fun g => { g with taken := true })

theorem State.ready_of_complexUp {s : State} {d : Nat} (h : s.complexUp d = true) : s.ready = true := by
  simp only [State.complexUp, Bool.and_eq_true] at h
  obtain ⟨⟨-, hready⟩, -⟩ := h
  exact hready

/-- A free mailbox takes a command and runs its checks. -/
theorem State.command_of_free {s : State} {p : Nat} (hfree : mailboxFree s p) (op : Nat) (c : Cmd) (lenOk : Bool)
    (rsv : List (Nat × Nat × Nat)) (f : From) (lease : Bool) (run : State → CmdRes × State) :
    s.command p op c lenOk rsv f lease run = .next ((s.buffered p op c).runTaken p op c lenOk rsv f lease run) := by
  obtain ⟨hp, hexists, hidle, -, hup, -⟩ := hfree
  have hready : s.ready = true := State.ready_of_complexUp hup
  have hup' (g : Page → Page) : (s.modPage p g).complexUp (complexOf p) = true := hup
  simp [State.command, State.go, hp, hexists, hready, hidle, hup', State.buffered]

theorem State.buffered_vi (s : State) (p op : Nat) (c : Cmd) :
    (s.buffered p op c).vi p =
      { s.vi p with page := { s.page p with
          cmdBuf := patch (s.page p).cmdBuf 0 (cmdHeader op c ++ c.body), busy := true, done := false, taken := true } } := by
  simp [State.buffered, State.page]

theorem State.onlyVi_buffered (s : State) (p op : Nat) (c : Cmd) : s.OnlyVi (s.buffered p op c) p :=
  (State.OnlyVi.modPage rfl).trans (.modPage rfl)

/-! ### The checks (R387 to R389) -/

/-- The last accepted counter advances when a critical command passes check 5. -/
def State.counterTaken (s : State) (p op : Nat) (c : Cmd) : State :=
  if isCritical op then s.modVi p (fun v => { v with counter := c.counter, saved := none }) else s

/-- A command whose checks 1 to 5 pass goes on to checks 6 and 7. -/
theorem State.runTaken_of_checksPass {s : State} {p op : Nat} {c : Cmd} {lenOk : Bool} {rsv : List (Nat × Nat × Nat)}
    {f : From} {lease : Bool} (h : checksPass s p op c lenOk rsv f lease) (run : State → CmdRes × State) :
    s.runTaken p op c lenOk rsv f lease run =
      (s.counterTaken p op c).runRules p op c (tbit c.flags.toNat 0) lease f ((s.vi p).counter, (s.vi p).saved) run := by
  obtain ⟨hform, hvi, hpermits, hkeyed, hcounter, -⟩ := h
  by_cases hcrit : isCritical op = true
  · obtain ⟨k, hkey, hok⟩ := hkeyed (by simp [hcrit])
    have hlast := hcounter hcrit
    have hnew : c.counter ≠ (s.vi p).counter := fun he => Nat.lt_irrefl _ (he ▸ hlast)
    cases hsaved : (s.vi p).saved <;>
      simp [State.runTaken, hform, hvi, hpermits, hcrit, hkey, hok, hsaved, hnew, Nat.not_le_of_lt hlast, State.counterTaken]
  · cases hflag : tbit c.flags.toNat 0
    · simp [State.runTaken, hform, hvi, hpermits, hcrit, hflag, State.counterTaken]
    · obtain ⟨k, hkey, hok⟩ := hkeyed (by simp [hflag])
      simp [State.runTaken, hform, hvi, hpermits, hcrit, hflag, hkey, hok, State.counterTaken]

/-- A critical command whose COUNTER has been taken and that is not the saved one is answered REPLAY (R389). -/
theorem State.runTaken_replay {s : State} {p op : Nat} {c : Cmd} {lenOk : Bool} {rsv : List (Nat × Nat × Nat)}
    {f : From} (hform : check1 c (cmdBytes c) lenOk rsv = none) (hvi : c.vi.toNat = p) (hpermits : s.permits p f = true)
    (hcrit : isCritical op = true) (hkey : ∃ k, (s.vi p).key = some k ∧ keyedOk k op c = true)
    (hold : c.counter.toNat ≤ (s.vi p).counter.toNat)
    (hother : ∀ x, (s.vi p).saved = some x → c.counter = (s.vi p).counter → x.1 ≠ c.check)
    (lease : Bool) (run : State → CmdRes × State) :
    s.runTaken p op c lenOk rsv f lease run = s.answerCmd p op c (tbit c.flags.toNat 0) false stREPLAY 0x10 [] := by
  obtain ⟨k, hkey, hok⟩ := hkey
  cases hsaved : (s.vi p).saved with
  | none => simp [State.runTaken, hform, hvi, hpermits, hcrit, hkey, hok, hsaved, hold]
  | some x =>
    simpa [State.runTaken, hform, hvi, hpermits, hcrit, hkey, hok, hsaved, hold] using
      fun he hc => absurd hc (hother x hsaved he)

theorem State.buffered_permits (s : State) (p op : Nat) (c : Cmd) (f : From) :
    (s.buffered p op c).permits p f = s.permits p f := by
  cases f <;> simp [State.permits, State.isCoord, State.buffered]

/-- Taking a command moves nothing that checks 1 to 6 ask of the state. -/
theorem checksPass_buffered {s : State} {p op : Nat} {c : Cmd} {lenOk : Bool} {rsv : List (Nat × Nat × Nat)} {f : From}
    {lease : Bool} (h : checksPass s p op c lenOk rsv f lease) :
    checksPass (s.buffered p op c) p op c lenOk rsv f lease := by
  simpa only [checksPass, State.buffered_permits, State.leaseRuns, State.buffered_vi] using h

/-! ### The rules of a command whose changes a partner would take (R344) -/

theorem State.sendMirror_alone {s : State} (h : s.mirrors = false) (vi : Nat) (m : CtlMirror) : s.sendMirror vi m = s := by
  simp [State.sendMirror, h]

theorem State.foldl_sendMirror_alone {s : State} (h : s.mirrors = false) (vi : Nat) (l : List CtlMirror) :
    l.foldl (fun s m => s.sendMirror vi m) s = s :=
  foldl_keeps (P := fun u => u = s) l rfl (fun u m hu => by rw [hu, State.sendMirror_alone h])

theorem State.answerMirrored_alone {s : State} {vi : Nat} (h : s.mirrorOpen vi = false) (status : Nat) (body : Bytes) :
    s.answerMirrored vi status body = s.finishCmd vi status body := by
  simp [State.answerMirrored, h]

/-- Checks 6 and 7 pass, and the command's own rules leave changes for a partner that is not there: it is answered OK. -/
theorem State.runRules_mirrored_alone {s u : State} {p op : Nat} {c : Cmd} {keyed lease : Bool} {f : From}
    {prior : Word64 × Option (Bytes × Bytes)} {run : State → CmdRes × State} {ms : List CtlMirror} {body : Bytes}
    (hlease : lease = true → s.leaseRuns p = true) (hup : s.complexUp 0 = true)
    (hrun : run (s.modVi p (fun v => { v with cmd := some ⟨op, c, keyed, 0, none, prior⟩ })) = (.mirrored ms body, u))
    (halone : alone u p) :
    s.runRules p op c keyed lease f prior run = u.finishCmd p stOK body := by
  have hsix : ¬ (lease && !s.leaseRuns p) = true := by simpa using hlease
  have hseven : ¬ (changesPackage op f && complexOf p == 1 && !s.complexUp 0) = true := by simp [hup]
  unfold State.runRules
  dsimp only
  rw [if_neg hsix, if_neg hseven, hrun]
  dsimp only
  rw [State.foldl_sendMirror_alone halone.1, State.answerMirrored_alone halone.2]

theorem State.counterTaken_complexUp (s : State) (p op : Nat) (c : Cmd) (d : Nat) :
    (s.counterTaken p op c).complexUp d = s.complexUp d := by
  unfold State.counterTaken
  split <;> rfl

theorem State.counterTaken_leaseRuns (s : State) (p op : Nat) (c : Cmd) :
    (s.counterTaken p op c).leaseRuns p = s.leaseRuns p := by
  unfold State.counterTaken
  split
  · simp [State.leaseRuns]
  · rfl

/-- The record of a command that VI `p` begins. -/
def State.begun (s : State) (p op : Nat) (c : Cmd) : Busy :=
  ⟨op, c, tbit c.flags.toNat 0, 0, none, ((s.vi p).counter, (s.vi p).saved)⟩

/-- The state in which an accepted command's own rules run, by the steps that lead there. -/
theorem taken_eq (s : State) (p op : Nat) (c : Cmd) :
    taken s p op c = ((s.buffered p op c).counterTaken p op c).modVi p (fun v =>
      { v with cmd := some (s.begun p op c) }) := rfl

theorem taken_vi_of_critical (s : State) (p : Nat) {op : Nat} (hcrit : isCritical op = true) (c : Cmd) :
    (taken s p op c).vi p =
      { s.vi p with
          page := (s.buffered p op c).page p, counter := c.counter, saved := none,
          cmd := some (s.begun p op c) } := by
  simp [taken_eq, State.counterTaken, hcrit, State.page, State.buffered_vi]

theorem onlyVi_taken (s : State) (p op : Nat) (c : Cmd) : s.OnlyVi (taken s p op c) p := by
  have hcounter : (s.buffered p op c).OnlyVi ((s.buffered p op c).counterTaken p op c) p := by
    unfold State.counterTaken
    split
    · exact .modVi rfl
    · exact .refl ..
  rw [taken_eq]
  exact ((s.onlyVi_buffered p op c).trans hcounter).trans (.modVi rfl)

theorem alone_taken {s : State} {p : Nat} (h : alone s p) (op : Nat) (c : Cmd) : alone (taken s p op c) p := by
  rw [taken_eq, State.counterTaken]
  split <;> exact h

/-- An accepted command whose own rules leave changes for a partner is answered OK where there is no partner. -/
theorem State.command_mirrored_alone {s u : State} {p op : Nat} {c : Cmd} {lenOk : Bool} {rsv : List (Nat × Nat × Nat)}
    {f : From} {lease : Bool} {run : State → CmdRes × State} {ms : List CtlMirror} {body : Bytes}
    (h : accepted s p op c lenOk rsv f lease) (hrun : run (taken s p op c) = (.mirrored ms body, u)) (halone : alone u p) :
    s.command p op c lenOk rsv f lease run = .next (u.finishCmd p stOK body) := by
  obtain ⟨hfree, hchecks⟩ := h
  have hchecks' := checksPass_buffered hchecks
  have ⟨_, _, _, _, _, hup⟩ := hfree
  have ⟨_, _, _, _, _, hlease⟩ := hchecks'
  rw [taken_eq] at hrun
  rw [State.command_of_free hfree, State.runTaken_of_checksPass hchecks', State.buffered_vi,
    State.runRules_mirrored_alone (by rwa [State.counterTaken_leaseRuns]) (by rwa [State.counterTaken_complexUp]) hrun halone]

/-! ### KEY_CHANGE (R393) -/

/-- The key that KEY_CHANGE derives from an old one; its body is the nonce. -/
def changedKey (c : Cmd) (old : Bytes) : Bytes :=
  hmac384 old (ascii "PXK1" ++ toLe 8 c.counter.toNat ++ cmdBytes c)

/-- KEY_CHANGE replaces the key of its VI. -/
def State.changeKey (s : State) (p : Nat) (c : Cmd) : State :=
  s.modVi p (fun v => { v with key := v.key.map (changedKey c) })

theorem exec_keyChange (s : State) (p : Nat) (c : Cmd) :
    exec (.keyChange p c) s = s.command p 0x0101 c (lenIs c 16) [] .any false (fun u => (.mirrored [] [], u.changeKey p c)) :=
  rfl

/-- Check 1 holds the body to the LENGTH that the row of a command asks for. -/
theorem cmdBytes_of_check1 {c : Cmd} {n : Nat} {rsv : List (Nat × Nat × Nat)}
    (h : check1 c (cmdBytes c) (lenIs c n) rsv = none) : cmdBytes c = slice c.body 0 n := by
  have hlen : ¬ ((c.length.toNat > 4032 || !lenIs c n) = true) := by
    intro hbad
    rw [check1, if_pos hbad] at h
    exact nomatch h
  obtain ⟨hmax, heq⟩ : c.length.toNat ≤ 4032 ∧ c.length.toNat = n := by simpa [lenIs] using hlen
  rw [cmdBytes, heq, Nat.min_eq_right (heq ▸ hmax)]

theorem changeKey_taken_vi {s : State} {p : Nat} {k : Bytes} (hkey : (s.vi p).key = some k) (c : Cmd) :
    ((taken s p 0x0101 c).changeKey p c).vi p =
      { s.vi p with
          page := (s.buffered p 0x0101 c).page p, counter := c.counter, saved := none,
          cmd := some (s.begun p 0x0101 c), key := some (changedKey c k) } := by
  rw [State.changeKey, State.modVi_same, taken_vi_of_critical s p rfl, hkey]
  rfl

/-- An accepted KEY_CHANGE with no partner runs in the state that has taken COUNTER, and is answered there, under the
new key. -/
theorem exec_keyChange_of_accepted {s : State} {p : Nat} {c : Cmd}
    (h : accepted s p 0x0101 c (lenIs c 16) [] .any false) (halone : alone s p) :
    exec (.keyChange p c) s = .next (((taken s p 0x0101 c).changeKey p c).finishCmd p stOK []) :=
  State.command_mirrored_alone h rfl (alone_taken halone 0x0101 c)

/-- Settles O6: an accepted KEY_CHANGE is answered in the state that holds COUNTER and the new key, and one with an old
COUNTER that is not the saved command's fails check 5. -/
theorem keyChangeReplacesTheKey : Obligations.KeyChangeReplacesTheKey := by
  intro s p c
  constructor
  · intro haccepted halone
    have ⟨⟨_, _, _, hkept, _, _⟩, hform, _, _, hkeyed, _, _⟩ := haccepted
    obtain ⟨k, hkey, -⟩ := hkeyed (Bool.or_true _)
    have hvi := changeKey_taken_vi hkey c
    have hans := State.finishCmd_answers (s := (taken s p 0x0101 c).changeKey p c) (b := s.begun p 0x0101 c)
      (by rwa [hvi]) (by rw [hvi]) stOK []
    have honly : s.OnlyVi ((taken s p 0x0101 c).changeKey p c) p := (onlyVi_taken s p 0x0101 c).trans (.modVi rfl)
    obtain ⟨hothers, hpool, -, hsent⟩ := honly.trans hans.onlyVi
    refine ⟨_, k, exec_keyChange_of_accepted haccepted halone, hans.answered, ?_, hkey, ?_, ?_, hsent, hpool, hothers⟩
    · rw [hans.counter, hvi]
    · rw [hans.key, hvi, changedKey, cmdBytes_of_check1 hform]
    · rw [hans.key]
      exact hans.buffer
  · intro hfree hform hvi hkey hold hother
    have ⟨_, _, _, hkept, _, _⟩ := hfree
    have hans := State.answerCmd_answers (s := s.buffered p 0x0101 c) (by rwa [State.buffered_vi]) 0x0101 c
      (tbit c.flags.toNat 0) false stREPLAY 0x10 []
    refine ⟨_, ?_, hans.answered, ?_, ?_⟩
    · rw [exec_keyChange, State.command_of_free hfree, State.runTaken_replay hform hvi (State.buffered_permits ..) rfl]
      all_goals simpa only [State.buffered_vi]
    · rw [hans.key, State.buffered_vi]
    · rw [hans.counter, State.buffered_vi]

end Sys2Proof.Machine
end
